-- ==== Sys2Proof/Word.lean ====
section
/-! DEFINITION. The word types of the LV4860 and their plainest arithmetic: 24-bit quantities (R2), bytes, 32-bit dwords,
two's-complement reading (R5) and 48-bit halves (R6). -/

namespace Sys2Proof

/-- A register, parameter, position or counter: 24 bits (R2). -/
abbrev W24 := BitVec 24
/-- A dword of host memory or of a BAR access. -/
abbrev W32 := BitVec 32
/-- A byte. -/
abbrev Byte := BitVec 8
/-- A transaction id or parameter id. -/
abbrev W16 := BitVec 16

/-- The signed reading of a 24-bit quantity (R5). -/
abbrev W24.int (w : W24) : Int := BitVec.toInt w
/-- A number as a 24-bit quantity, wrapping. -/
abbrev w24 (n : Nat) : W24 := BitVec.ofNat 24 n
/-- An integer as a 24-bit two's-complement quantity, wrapping (R5). -/
abbrev w24i (n : Int) : W24 := BitVec.ofInt 24 n
/-- A count that saturates at 0xFF_FFFF. -/
def satInc (w : W24) : W24 := if w = 0xFFFFFF#24 then w else w + 1
/-- A number saturated to 24 bits. -/
def sat24 (n : Nat) : W24 := if n < 16777216 then w24 n else 0xFFFFFF#24
/-- Bits 23:0 of a 48-bit number (R6). -/
abbrev lo24 (n : Nat) : W24 := w24 n
/-- Bits 47:24 of a 48-bit number (R6). -/
abbrev hi24 (n : Nat) : W24 := w24 (n / 16777216)
/-- 1 for true. -/
abbrev bit (b : Bool) : Nat := if b then 1 else 0

end Sys2Proof
end

