-- ==== Sys2Proof/Syntax.lean ====
section
/-! DEFINITION. The commands of the block: one constructor for each row of spec/opcode_table.json, in the table's order,
with the operands the row's step takes. Descriptors, doorbell lines and bulk buffers are host memory, so a command that
reads them carries what they hold. -/

namespace Sys2Proof

/-- A command descriptor without its opcode (Table 6-2), with what the host memory behind its bulk address holds and
whether the bulk transfer at decode succeeds (R181). `d0` is dword 0 bits 31:8: flags in 7:0, reserved bits above. -/
structure Desc where
  d0 : BitVec 24 := 0
  tag : W32 := 0
  d2 : W32 := 0
  d3 : W32 := 0
  d4 : W32 := 0
  d5 : W32 := 0
  d6 : W32 := 0
  d7 : W32 := 0
  buf : List W32 := []
  dmaOk : Bool := true
  deriving DecidableEq, Repr

/-- The doorbell line as one 64-byte read returns it (Table 5-5). -/
structure Doorbell where
  gen : W24 := 0
  cmdProd : W24 := 0
  cplCons : W24 := 0
  evtCons : W24 := 0
  beat : W24 := 0
  sleepReq : Bool := false
  urgent : Bool := false
  deriving DecidableEq, Repr

/-- What software writes in configuration space (R113, R116): the row BUS_MASTER_ENABLE carries all of it. -/
structure CfgBits where
  bme : Bool := false
  mse : Bool := false
  pmeEn : Bool := false
  msix : Bool := false
  msi : Bool := false
  /-- log2 of the MSI messages granted (R142). -/
  msiLog : Fin 4 := 0
  /-- MSI-X Function Mask. -/
  fnMask : Bool := false
  /-- MSI mask bits, one for each vector. -/
  msiMask : BitVec 8 := 0
  /-- BAR0 and BAR2: bits 31:16; a 64 KiB BAR holds no others. -/
  bar0 : W16 := 0
  bar2 : W16 := 0
  /-- Max_Payload_Size and Max_Read_Request_Size: 128 bytes times 2 to the code. -/
  mps : BitVec 3 := 0
  mrrs : BitVec 3 := 2
  /-- ASPM L1 enabled (R144). -/
  aspmL1 : Bool := false
  deriving DecidableEq, Repr

/-- The structures of Table 5-14, HOST_DMA_FAULT word 1. -/
inductive DmaStruct where
  | doorbell | command | completion | event | mirror | bulk
  deriving DecidableEq, Repr

/-- The three dies (Table 3-8). -/
inductive Die where
  | grain | spindle | husk
  deriving DecidableEq, Repr

/-- What the wire does to a G-frame (R248, R249): the bits it inverts, word by word, and the time since the start of the frame before,
in ns as the Husk measures it. -/
structure Flight where
  noise : List W24
  period : Nat
  deriving DecidableEq, Repr

/-- A debounced change of a field input (R226, R230): its channel, and the tick of 48 MHz within the microsecond. -/
structure InputEdge where
  ch : Fin 16
  sub : Fin 48
  deriving DecidableEq, Repr

/-- A side of the Awn link (Table 8-10). -/
inductive Side where
  | grain | husk
  deriving DecidableEq, Repr

/-- The islands by number (Table 4-1, R78). -/
inductive Island where
  | host | motion | lift | grind | guard | log | link | keep | field
  deriving DecidableEq, Repr

/-- The firmware islands (R16, R489). -/
inductive FwIsland where
  | host | lift | grind
  deriving DecidableEq, Repr

/-- The straps and the conditions that a start meets (R45, R47, R96). An open TW_ADR land is `none`. -/
structure StartIn where
  bootSel : Bool := false
  adr0 : Option Bool := some false
  adr1 : Option Bool := some false
  adr2 : Option Bool := some false
  deriving DecidableEq, Repr

/-- How an attention write attempt ends (R430). -/
inductive AttEnd where
  | acked | noAck | lostArb
  deriving DecidableEq, Repr

/-- What a debug access asks of an unlocked port (R486). -/
inductive DbgAccess where
  | readBar0 (offset : Nat) (live : Bool)
  | writeBar0 (offset : Nat) (value : W32)
  | readBar2 (offset : Nat)
  | readRam (core : FwIsland) (address : Nat)
  deriving DecidableEq, Repr

/-- The commands. Each docstring cites the row's rule. -/
inductive Instr where
  -- host descriptors (06)
  | nop (d : Desc)
  | getStatus (d : Desc)
  | eventFilter (d : Desc)
  | powerState (d : Desc)
  | paramRead (d : Desc)
  | paramWrite (d : Desc)
  | txnBegin (d : Desc)
  | txnCommit (d : Desc)
  | txnRollback (d : Desc)
  | txnStatus (d : Desc)
  | liftCall (d : Desc)
  | liftCancel (d : Desc)
  | liftHome (d : Desc)
  | liftHold (d : Desc)
  | liftRelease (d : Desc)
  | doorOpen (d : Desc)
  | doorClose (d : Desc)
  | doorHold (d : Desc)
  | axisMoveAbs (d : Desc)
  | axisMoveVel (d : Desc)
  | axisRetune (d : Desc)
  | axisStop (d : Desc)
  | axisHome (d : Desc)
  | axisGear (d : Desc)
  | axisPower (d : Desc)
  | axisSetPos (d : Desc)
  | grindRun (d : Desc)
  | grindStop (d : Desc)
  | fieldWrite (d : Desc)
  | fieldPulse (d : Desc)
  | fieldRead (d : Desc)
  | counterRead (d : Desc)
  | counterClear (d : Desc)
  | guardAck (d : Desc)
  | guardStatus (d : Desc)
  | logMark (d : Desc)
  | logChallenge (d : Desc)
  | logClear (d : Desc)
  | logCopy (d : Desc)
  | fwStage (d : Desc)
  | fwActivate (d : Desc)
  | fwStatus (d : Desc)
  | journalCopy (d : Desc)
  -- registers (05, 17)
  | hostRun (line : Doorbell) (lineOk : Bool)
  | hostStop
  | hstWakeCauseRead
  | hstWakeCauseWrite (value : W32)
  | glbCause (value : W32)
  | hstDmaErr
  | supVbusMin
  | supLatch
  | clkLatch
  | logCrit
  | logFlush
  | prmId (value : W32)
  | logCursor (value : W32)
  | logWinCtl (value : W32)
  | hstJrnCursor (value : W32)
  | registerWrite (offset : Nat) (value : W32)
  | hostBadAccess (write : Bool) (offset : Nat)
  | bar2BadRead (offset dwords : Nat)
  -- host link (05, 06)
  | poll (line : Option Doorbell) (fetch : List (Byte × Desc))
  | fenceRelease
  | cplRingStall
  | bulkCopyStart
  | bulkCopyDone (ok : Bool)
  | hostDmaFault (k : DmaStruct)
  | mirrorWrite
  | irqModerationEnd (events : Bool)
  | hostSilence
  | liveParamApply (isl : Island)
  | pePerstNFall
  | pePerstNRise
  | flr
  | busMasterEnable (c : CfgBits)
  | d3hotEntry
  | d0Return
  | pmeTurnOff
  | linkL0
  -- transactions (07)
  | txnVote (isl : Island)
  | commitPoint
  | safePointReached (isl : Island)
  | applyStrobe
  | txnDeadline
  -- field I/O (08)
  | gFrame (f : Flight)
  | huskBoundary
  | hFrame (noise : List W24) (period : Nat)
  | gFrameMissing
  | safeStateTimeout
  | fldStale
  | huskWatchdog
  | debouncedChange (e : InputEdge)
  | fldWireBreak (ch : Fin 16) (broken : Bool)
  | fldOutFault (ch : Fin 32) (kind : Nat)
  | fldOpenLoad (ch : Fin 32) (isOpen : Bool)
  | bankRise (b : Fin 2)
  | bankRiseTimeout (b : Fin 2)
  | demagEnd (ch : Fin 32)
  | fldDemagSlow (b : Fin 2)
  | bankShort (b : Fin 2)
  | fldBankTrip (b : Fin 2)
  | pulseEnd (ch : Fin 32)
  | fieldWriteJournal
  | keepalive (side : Side)
  | keepaliveReceived (side : Side) (interval : Nat)
  | fldSleepHunt (side : Side)
  | fldSleepLost (side : Side)
  -- supply and heat (03)
  | shedL1 (vbus : W24)
  | shedL2 (vbus : W24)
  | shedL3 (vbus : W24)
  | shedL4 (vbus : W24)
  | shedL5 (vbus : W24)
  | shedStepUp (vbus : W24)
  | shedRecover (vbus : W24)
  | vbusOver (vbus : W24)
  | ovEnd (vbus : W24)
  | f24Low (mv : W24)
  | f24Good (mv : W24)
  | f24Uvlo
  | huskResume (mv : W24)
  | aux5Overload
  | aux3v3Overload
  | auxRetry (is5 limited : Bool)
  | tempPrewarn (die : Die) (t : W24)
  | tempShutdown (die : Die) (t : W24)
  | tempRestart (die : Die) (t : W24)
  | ntcMeasure (ohm : Option Nat)
  -- reset, clocks, islands (04)
  | powerOn
  | coldStart (c : StartIn)
  | resetNFall (tenths : Nat)
  | resetNRise (c : StartIn)
  | islandWdt (isl : Island)
  | islandRestarted (isl : Island)
  | restartTimeout (isl : Island)
  | handshakeTmo (sender receiver : Island)
  | clkFault (bad : Fin 5)
  | guardClockFault
  | logOscFault
  -- guard (10)
  | guardPass
  | estop (a b : Bool)
  | estopDiscrepancy
  | safeStopTimeout
  -- axes (09)
  | profileTick
  | axStall (a : Fin 5)
  | axLatch (a : Fin 5) (us : Fin 50) (ns : Fin 1000)
  | axOvercurrent (a : Fin 5) (bridge : Fin 2) (kind : Nat)
  | axOpenLoad (a : Fin 5) (bridge : Fin 2) (isOpen : Bool)
  | holdCurrent (a : Fin 5)
  | axIdleOff (a : Fin 5)
  | axVerify (a : Fin 5)
  | stepEdge (second : Bool) (dirHigh : Bool)
  -- lift (11)
  | liftDispatch
  | liftDwellEnd
  | liftPark
  | liftMoveStart
  | liftArrived
  | liftLevelled
  | liftStopComplete
  | liftTripAbandoned
  -- doors (12)
  | doorDecision
  | holdOpenEnd (d : Fin 2)
  | lockConfirmTimeout (d : Fin 2)
  | doorForced (d : Fin 2)
  | doorObstructed (d : Fin 2) (curtain : Bool)
  | nudgeRetry (d : Fin 2)
  -- grinder (13)
  | prechargeDone (bootOk : Bool)
  | alignDone
  | grindHandover (rpm : W24)
  | grindStartFail (residual : W24)
  | grindTick (rpm : W24) (revs : Nat)
  | grindDone
  | grindRotorLoss (jump : Bool) (rpm : W24)
  | catchSettle
  | catchMeasured (rpm : Option W24)
  | grindRelocked
  | catchTimeout
  | relockHoldEnd
  | grindJam (rpm : W24)
  | grindUnjam
  | grindStandstill
  | grindOvercurrent (phase : Fin 3) (ma : W24)
  | grindGateUv (which : Fin 4)
  -- recorder (15)
  | flushTimer (bad : List Nat)
  | tokenRefill (c : Fin 16)
  | logCleared
  | nonceExpiry
  -- firmware and debug (16)
  | fwStaged
  | activationSafePoint
  | fwActivated
  | fwFallback (code : W24)
  | activationTimeout
  | dbgChallenge
  | dbgToken (scope : Byte) (token : List Byte)
  | dbgRelock
  | dbgRefuseEnd
  | dbgHalt (isl : FwIsland)
  | dbgCoreHalted (isl : FwIsland)
  | dbgResume (isl : FwIsland)
  | jtTrst
  | bypass
  | idcode
  | samplePreload (preload : List Bool)
  | extest
  | clamp
  | highz
  | dbgAccess (a : DbgAccess)
  -- two-wire port (14)
  | statusRead (bytes : Nat) (hang : Bool)
  | heartbeat (counter crc : Byte) (extra : Nat)
  | stop (reason crc : Byte) (extra : Nat)
  | release (arg crc : Byte) (extra : Nat)
  | twpHbLost
  | sdaRelease
  | twpSleep
  | attentionWrite (r : AttEnd)
  | attRetry
  | attBusTimeout
  -- rows added after the first reading of the table
  | vbusBelow9v
  | vbusNotGood
  | referenceClockChange (present : Bool)
  | crystalLock (c : StartIn)
  | prewarnEnd (die : Die) (t : W24)
  | hstStatusReady
  | linkDown
  | encoderEdge (source : Fin 6) (up : Bool)
  | unitWritten
  | unacceptedWrite (bytes : List Byte)
  | portWake
  deriving DecidableEq, Repr

end Sys2Proof
end

