-- ==== Sys2Proof/Decode.lean ====
section
/-! DEFINITION. The words of the opcode table. Its rows give no bits: a command of this block is a descriptor in host memory,
a bus request or an event, and no word of the table spells one. -/

namespace Sys2Proof

/-- The command that a word of the table spells: none, for every row of spec/opcode_table.json carries no bits. -/
def decodeTableWord (_nbits _w : Nat) : Option Instr := none

end Sys2Proof
end

