-- ==== Sys2Proof/Config.lean ====
section
/-! DEFINITION. What one device fixes and what the spec leaves open: opaque constants and functions with no body, so that
no proof can see a value of them. -/

namespace Sys2Proof.Config

/-- A free 24-bit value, fresh for each count of `State.free` (log 2). -/
opaque freeWord : Nat → W24
/-- A free truth value, fresh for each count of `State.free` (log 2). -/
opaque freeBit : Nat → Bool
/-- A free byte of a nonce, by count and position: the random number generator of R456 and R485 (log 3). -/
opaque freeNonce : Nat → Nat → Byte
/-- The Device Serial Number of the factory record (R504, 17). -/
opaque serial : BitVec 64
/-- The transport key of the factory record, 32 bytes, never readable (R504, 17). -/
opaque transportKey : Vector Byte 32
/-- Whether an ECDSA P-256 signature over a byte string is valid under a public key: Glaritra's image key (0), Glaritra's
provisioning key (1) and the integrator's key (2, its 64 bytes first) (R468, R506; log 4). -/
opaque ecdsaValid : Nat → List Byte → List Byte → List Byte → Bool
/-- AES Key Wrap (RFC 3394) opened under a 32-byte key: the 32-byte key, or none where the integrity check fails (R504,
R506; log 4). -/
opaque aesUnwrap : List Byte → List Byte → Option (Vector Byte 32)
/-- HMAC-SHA-256 of a message under a key, 32 bytes (R338, R457, R485; log 4). -/
opaque hmac : List Byte → List Byte → Vector Byte 32
/-- SHA-256 of a byte string, 32 bytes (R467, R468; log 4). -/
opaque hash : List Byte → Vector Byte 32
/-- The bytes of an HMAC-SHA-256. -/
def hmacSha256 (k m : List Byte) : List Byte := (hmac k m).toList
/-- The bytes of a SHA-256. -/
def sha256 (m : List Byte) : List Byte := (hash m).toList
/-- A debugger's read of one dword of a firmware core's RAM: count of free values, island number and address (R486; log 5). -/
opaque coreRam : Nat → Nat → Nat → W32
/-- One bit of the boundary register as the lands give it (R483; log 6). -/
opaque boundaryIn : Nat → Nat → Bool
/-- The thermistor's temperature in 0.1 °C from its resistance, R25 and B value, where the exact exponential of R73 is
not stated as integer arithmetic (R73; log 7). -/
opaque ntcTenths : Nat → Nat → Nat → Int
/-- The same temperature in 1/16 °C, as SUP_TEMP_NTC shows it (R73, R75; log 7). -/
opaque ntcSixteenths : Nat → Nat → Nat → W24

end Sys2Proof.Config
end

