-- ==== Sys2Proof/Machine/State.lean ====
section
/-! DEFINITION. The state of the block as plain data. The default value of a field is its value after the power-on reset
(Table 4-2, 04); the bracket at the end of a field's docstring gives the rule, its file and that value. The tag DC<n> or
PRESUMED marks a value that the spec does not give, with log entry <n>. -/

namespace Sys2Proof.Machine

/-- Who raises a fault: no command of this model. The constructor stands for a step that the spec would leave stuck; the
LV4860 has none, so it is raised by nothing (safe). -/
inductive Fault where
  | stuck
  deriving DecidableEq, Repr

/-- Refusals: `notModelled` is the marker of a command that has no meaning yet; no meaning raises it (safe). -/
inductive Refusal where
  | notModelled (mnemonic : String)
  deriving DecidableEq, Repr

/-- Island states, encoded as GLB_ISLANDS (R110). -/
inductive IslState where
  | off | starting | run | restarting | held | recovery | fault
  deriving DecidableEq, Repr

/-- Guard states (Table 10-1). -/
inductive GuardState where
  | run | restrict | safeStop | trip | lockout
  deriving DecidableEq, Repr

/-- Transaction states (Table 5-6, +36). -/
inductive TxnState where
  | idle | opened | preparing | waiting | applying | rolledBack
  deriving DecidableEq, Repr

/-- Axis states (Table 9-3). -/
inductive AxisState where
  | off | enabling | standstill | moving | velocity | homing | stopping | geared | external | idleOff | fault
  deriving DecidableEq, Repr

/-- Car states (Table 11-2). -/
inductive CarState where
  | notHomed | idle | dispatch | run | approach | level | doorCycle | hold | fault
  deriving DecidableEq, Repr

/-- Door states (Table 12-1). -/
inductive DoorState where
  | closedLocked | unlocking | opening | opened | closing | reversing | nudging | locking | fault
  deriving DecidableEq, Repr

/-- Grinder states (Table 13-2). -/
inductive GrindState where
  | disabled | stopped | align | ramp | run | stopping | coast | catching | unjam | fault
  deriving DecidableEq, Repr

/-- States of the PCI Express link (R148): down or training, L0, L1, L2/L3 Ready. -/
inductive LinkState where
  | down | l0 | l1 | l23
  deriving DecidableEq, Repr

/-- Status codes (Table 6-7). -/
inductive Status where
  | ok | queued | deferred | badOpcode | badArg | badPid | pidNotLive | noTxn | txnOpen | txnRolledBack | txnFull
  | busy | interlock | notHomed | shed | islandHeld | targetLocked | superseded | authFail | sealed | debugLocked | internal
  deriving DecidableEq, Repr

/-- An accepted command: its journal sequence and what the completion, the outcome entry and CMD_DONE carry. -/
structure Ref where
  jseq : Nat
  tag : W32
  op : Byte
  flags : Byte
  txn : W16
  deriving DecidableEq, Repr

/-- A posted completion entry (Table 6-4) with its ring index. -/
structure CplEntry where
  index : W24
  tag : W32
  status : Status
  op : Byte
  jseq : W32
  result : W24
  extra : Byte
  phase : Bool
  deriving DecidableEq, Repr

/-- A posted event entry (Table 6-5) with its ring index; `w2` and `w3` are dwords 2 and 3. -/
structure EvtEntry where
  index : W24
  code : W16
  sev : Nat
  seq : W32
  w2 : W32
  w3 : W32
  phase : Bool
  deriving DecidableEq, Repr

/-- What the decoder waits for before it takes the next descriptor (R162, R271, R330, R458, R528). -/
inductive Block where
  | fence (op : Byte) (d : Desc)
  | fieldWrite (d : Desc) (id : Nat)
  | counterClear (d : Desc) (counter : Fin 8)
  | guardAck (d : Desc)
  | logClear (d : Desc) (jseq : Nat)
  | clearNext (d : Desc)
  deriving DecidableEq, Repr

/-- A copy of the bulk engine (R180): its command, address, length in bytes and first record or sequence. -/
structure BulkJob where
  ref : Ref
  addr : BitVec 64
  len : Nat
  first : Nat
  deriving DecidableEq, Repr

/-- A status mirror (Table 5-6) without its heartbeat. -/
structure Mirror where
  cmdCons : W24 := 0
  cplProd : W24 := 0
  evtProd : W24 := 0
  supGuard : W24 := 0
  jrnLo : W24 := 0
  jrnHi : W24 := 0
  wake : W24 := 0
  islands : W24 := 0
  txn : W24 := 0
  deriving DecidableEq, Repr

/-- The answer of the last register access, configuration request, debug access or JTAG read: Successful Completion with data,
Unsupported Request, or Configuration Request Retry Status (R107). -/
inductive BusResp where
  | none | sc (v : W32) | ur | crs
  deriving DecidableEq, Repr

/-- One MSI-X table entry (R117). -/
structure MsixEntry where
  addrLo : W32 := 0
  addrHi : W32 := 0
  data : W32 := 0
  masked : Bool := true
  deriving DecidableEq, Repr

/-- An entry that HOST could not write because DMA was closed: it is written when DMA opens again (R116, log 57). -/
inductive HeldEntry where
  | cpl (op : Byte) (tag : W32) (urgent : Bool) (st : Status) (jseq : W32) (result : W24) (extra : Byte)
  | evt (code : W16) (sev : Nat) (seq w2 w3 : W32) (urgent : Bool)
  deriving DecidableEq, Repr

/-- Registers and rings of HOST (05, 06). -/
structure HostSt where
  /-- HST_CTL.RUN [R150 05; reset 0] -/
  run : Bool := false
  /-- HST_STATUS.READY [R150 05; reset 0] -/
  ready : Bool := false
  /-- HST_STATUS.RUNNING [R150 05; reset 0] -/
  running : Bool := false
  /-- a stop waits for the descriptor being decoded [R124 05; reset false] -/
  stopping : Bool := false
  /-- HST_STATUS.SETUP_ERR [R150 05; reset 0] -/
  setupErr : Bool := false
  /-- HST_STATUS.ERR_CODE [R150 05; reset 0] -/
  errCode : BitVec 3 := 0
  /-- HST_STATUS.SLEEP_READY and mirror bit 8 [R130 05; reset 0] -/
  sleepReady : Bool := false
  /-- HST_STATUS.DMA_FAULT [R151 05; reset 0] -/
  dmaFault : Bool := false
  /-- HST_STATUS.GEN_CHANGED [R128 05; reset 0] -/
  genChanged : Bool := false
  /-- ring paused for a HOST activation, HST_STATUS bit 10 [R150 05; reset 0] -/
  paused : Bool := false
  /-- the function is in D3hot, HST_STATUS 12:11 [R144 05; reset D0] -/
  d3hot : Bool := false
  /-- the function is in D3cold [R144 05; reset false] -/
  d3cold : Bool := false
  /-- HST_CMD_BASE_L/M/H [R150 05; reset 0] -/
  cmdBase : BitVec 64 := 0
  /-- HST_CPL_BASE_L/M/H [R150 05; reset 0] -/
  cplBase : BitVec 64 := 0
  /-- HST_EVT_BASE_L/M/H [R150 05; reset 0] -/
  evtBase : BitVec 64 := 0
  /-- HST_DB_ADDR_L/M/H [R150 05; reset 0] -/
  dbAddr : BitVec 64 := 0
  /-- HST_MIR_ADDR_L/M/H [R150 05; reset 0] -/
  mirAddr : BitVec 64 := 0
  /-- HST_RING_SIZE, bits 11:0 [R150 05; reset 0] -/
  ringSize : BitVec 12 := 0
  /-- HST_POLL_FAST [R150 05; reset 0x32] -/
  pollFast : W24 := 0x32
  /-- HST_POLL_IDLE [R150 05; reset 0xA00] -/
  pollIdle : W24 := 0xA00
  /-- HST_POLL_HOLD [R150 05; reset 0x1388] -/
  pollHold : W24 := 0x1388
  /-- HST_SILENCE_TMO as last written; none: the register reads PID 0x0800 [R139 R150 05; reset PID 0x0800] -/
  silTmo : Option W24 := none
  /-- HST_SILENCE_ACT as last written; none: the register reads PID 0x0801 [R139 R150 05; reset PID 0x0801] -/
  silAct : Option W24 := none
  /-- HST_VEC_MAP [R150 05; reset 0xFA_C688] -/
  vecMap : W24 := 0xFAC688
  /-- HST_IRQ_MOD [R150 05; reset 0] -/
  irqMod : W24 := 0
  /-- HST_POLL_NOW [R150 05; reset 0] -/
  pollNow : W24 := 0
  /-- HST_GEN [R150 05; reset 0, kept across PE_PERST_N] -/
  gen : W24 := 0
  /-- HST_JRN_CURSOR [R217 R150 05; reset 0] -/
  jrnCursor : W24 := 0
  /-- HST_DMA_ERR 7:0, failed reads [R150 05; reset 0] -/
  dmaErrRead : Byte := 0
  /-- HST_DMA_ERR 15:8, failed writes [R150 05; reset 0] -/
  dmaErrWrite : Byte := 0
  /-- what software writes in configuration space [R113 R116 05; reset 0, Max_Read_Request_Size code 2, PRESUMED PCI Express 9] -/
  cfg : CfgBits := {}
  /-- MSI pending bits, one for each vector [R113 05; reset 0, PRESUMED PCI Express 9] -/
  msiPend : BitVec 8 := 0
  /-- link state [R148 05; reset down] -/
  link : LinkState := .down
  /-- PME_Turn_Off received and not answered yet [R145 05; reset false] -/
  pmeDue : Bool := false
  /-- D3hot asked for; the descriptor being decoded finishes first [R144 05; reset false] -/
  d3Due : Bool := false
  /-- PM_PME message sent for a wake cause in D3hot [R144 05; reset false] -/
  pmePending : Bool := false
  /-- MSI-X table, 8 entries [R117 R493 17; reset masked, other words 0 PRESUMED PCI Express 9] -/
  msix : Vector MsixEntry 8 := Vector.replicate 8 {}
  /-- MSI-X PBA [R493 17; reset 0] -/
  pba : BitVec 8 := 0
  /-- Vendor ID, Subsystem Vendor ID, Subsystem ID in configuration space [R113 05; reset 0x6C47, 0x6C47, 0x4860] -/
  ids : W16 × W16 × W16 := (0x6C47, 0x6C47, 0x4860)
  deriving DecidableEq, Repr

/-- Rings and polling (06). -/
structure RingSt where
  /-- command consumer index [R155 06; reset 0] -/
  cmdCons : W24 := 0
  /-- descriptors announced by the latest poll and not fetched yet [R134 05; reset 0] -/
  announced : Nat := 0
  /-- descriptors fetched and not decoded [R124 05; reset empty] -/
  backlog : List (Byte × Desc) := []
  /-- the descriptor whose decode waits [R162 R271 R330 R458 R528; reset none] -/
  block : Option Block := none
  /-- command producer index at the latest poll [R135 05; reset 0] -/
  cmdProd : W24 := 0
  /-- completion producer index [R155 06; reset 0] -/
  cplProd : W24 := 0
  /-- completion consumer index read at the latest poll [R159 06; reset 0] -/
  cplCons : W24 := 0
  /-- event producer index [R155 06; reset 0] -/
  evtProd : W24 := 0
  /-- event consumer index read at the latest poll [R160 06; reset 0] -/
  evtCons : W24 := 0
  /-- completions written to the completion ring, newest first [Table 6-4 06; reset empty] -/
  cpl : List CplEntry := []
  /-- events written to the event ring, newest first [Table 6-5 06; reset empty] -/
  evts : List EvtEntry := []
  /-- events not posted for want of space [R160 06; reset 0] -/
  evtMissed : Nat := 0
  /-- a run of polls with a bad command producer index [R156 06; reset false] -/
  badRun : Bool := false
  /-- a run of failed doorbell reads [R151 05; reset false] -/
  readRun : Bool := false
  /-- CPL_RING_STALL already logged for this stall [R159 06; reset false] -/
  stalled : Bool := false
  /-- host heartbeat at the latest poll [R135 R137 05; reset none] -/
  beat : Option W24 := none
  /-- sleep request flag at the latest poll [R130 05; reset false] -/
  sleepReq : Bool := false
  /-- time of the last activity, µs [R135 05; reset 0] -/
  lastActivity : Nat := 0
  /-- an URGENT descriptor was decoded since the latest poll [Table 6-3 06; reset false] -/
  urgentSeen : Bool := false
  /-- minimum severity in force per class, in the order of Table 6-16 [R183 06; reset 2, DC8] -/
  minSev : Vector Nat 14 := Vector.replicate 14 2
  /-- accepted commands without a final outcome, oldest first [R162 R167 06; reset empty] -/
  outstanding : List Ref := []
  /-- finished commands whose CMD_DONE is held until the ring runs [R220 07, R480 16; reset empty] -/
  heldDone : List (Ref × Status × W24) := []
  /-- bulk copy running, with the dwords it writes and its result, taken when it started [R180 06; reset none] -/
  bulkRun : Option (BulkJob × List W32 × W24) := none
  /-- bulk copies accepted and waiting [R180 06; reset empty] -/
  bulkWait : List BulkJob := []
  /-- entries that wait for DMA to open, oldest first [R116 05, R160 R167 06; reset empty] -/
  waiting : List HeldEntry := []
  /-- interrupt sources that wait for the mirror write they report, oldest first [R143 05; reset empty] -/
  irqDue : List Nat := []
  /-- the last bulk buffer written to host memory: address and dwords [R179 06; reset none] -/
  bulkOut : Option (BitVec 64 × List W32) := none
  /-- interrupt messages sent, newest first: source and vector [R142 05; reset empty] -/
  irqs : List (Nat × Nat) := []
  /-- moderation interval running for completions, for events [R143 05; reset false] -/
  modCpl : Bool := false
  modEvt : Bool := false
  /-- an interrupt held back by moderation [R143 05; reset false] -/
  heldCpl : Bool := false
  heldEvt : Bool := false
  /-- the last status mirror written [R131 05; reset zero] -/
  mirror : Mirror := {}
  /-- mirror device heartbeat [R131 05; reset 0] -/
  mirrorBeat : W24 := 0
  /-- time of the last mirror write [R132 05; reset none] -/
  mirrorAt : Option Nat := none
  /-- recorder records staged during a HOST activation pause [R480 16; reset 0] -/
  pauseRecs : Nat := 0
  deriving DecidableEq, Repr

/-- The host-silence timer (05). -/
structure SilenceSt where
  /-- armed by the first RUN after a full reset [R137 05; reset false] -/
  armed : Bool := false
  /-- suspended in D3 after SLEEP_READY [R137 05; reset false] -/
  suspended : Bool := false
  /-- host silence active [R140 05; reset false] -/
  active : Bool := false
  /-- when the timer last began its full timeout, µs [R137 05; reset 0] -/
  began : Nat := 0
  /-- when silence began, µs [R153 05; reset 0] -/
  since : Nat := 0
  /-- timeout (ms) and action that govern while RUN is set, as the RUN write took them [R139 R152 05; reset 0] -/
  tmoRun : Nat := 0
  actRun : Nat := 0
  /-- PARK in force: its cause holds while silence is active [R140 05; reset false] -/
  park : Bool := false
  deriving DecidableEq, Repr

/-- Global registers, islands and the start (04). -/
structure GlbSt where
  /-- GLB_CAUSE [R110 R91 04; reset bit 0 after power-on] -/
  cause : W24 := 1
  /-- cold start step reached, GLB_STATUS 2:0 [R96 R110 04; reset 0] -/
  step : Fin 8 := 0
  /-- BOOT_SEL sampled [R45 02; reset 0] -/
  bootSel : Bool := false
  /-- TW_ADR sampled [R45 R47 02; reset 0] -/
  twAdr : BitVec 3 := 0
  /-- image bank loaded: B [R103 04; reset 0] -/
  bankB : Bool := false
  /-- GLB_STATUS.DEFAULTS [R104 04; reset 0] -/
  defaults : Bool := false
  /-- GLB_STATUS.BANK_BAD [R103 04; reset 0] -/
  bankBad : Bool := false
  /-- retention RAM valid at start, GLB_STATUS bit 11 [R110 04; reset 0] -/
  retValid : Bool := false
  /-- FAULT_N driven low [R102 04; reset true] -/
  faultN : Bool := true
  /-- island states by number, GLB_ISLANDS; GLB_FIELD_STATE follows from the Awn link and the Husk die [R110 04; reset OFF] -/
  isl : Vector IslState 8 := Vector.replicate 8 .off
  /-- GLB_BOOT_TIME [R110 04; reset 0] -/
  bootTime : W24 := 0
  /-- GLB_WDT_COUNT [R110 04; reset 0] -/
  wdtCount : W24 := 0
  /-- GLB_WDT_LAST [R110 04; reset 0xF] -/
  wdtLast : BitVec 4 := 15
  /-- GLB_RESET_COUNT, kept in ferroelectric memory [R110 04; reset kept, 0 at first power-on DC10] -/
  resetCount : W24 := 0
  /-- axes restored at this start [R105 R110 04; reset 0] -/
  restored : BitVec 5 := 0
  /-- axes awaiting encoder verification [R106 R110 04; reset 0] -/
  awaiting : BitVec 5 := 0
  /-- time of each island's last watchdog miss [R93 04; reset none] -/
  wdtAt : Vector (Option Nat) 8 := Vector.replicate 8 none
  /-- when each restarting island began its restart [R92 R112 04; reset none] -/
  restartAt : Vector (Option Nat) 8 := Vector.replicate 8 none
  /-- start reference time: VBUS good, or the end of the reset [R96 04; reset 0] -/
  startAt : Nat := 0
  /-- the start waits at step 2 for the crystal [R85 04; reset false] -/
  waitCrystal : Bool := false
  /-- a full reset is held: by RESET_N (bit 0), by L5 (1), by a Grain shutdown (2) [R56 R69 R90 04; reset none] -/
  held : BitVec 3 := 0
  /-- the step at which the next start resumes: 1, 2 or 4 (Table 4-2) [R88 04; reset 1] -/
  resumeAt : Fin 5 := 1
  /-- the guard has been in RUN or RESTRICT since the start [R363 11; reset false] -/
  guardSeen : Bool := false
  /-- machine state SLEEP [R171 06; reset ACTIVE] -/
  sleep : Bool := false
  /-- POWER_STATE change that runs [R171 06; reset none] -/
  powerRef : Option Ref := none
  deriving DecidableEq, Repr

/-- Clock supervision (04). -/
structure ClkSt where
  /-- CLK_STATUS, 1 good [R111 04; reset 0] -/
  good : BitVec 11 := 0
  /-- CLK_LATCH [R111 04; reset 0] -/
  latch : BitVec 11 := 0
  /-- crystal runs and its PLLs lock [R85 04; reset true DC11] -/
  crystal : Bool := true
  /-- PCIe reference valid [R80 04; reset true DC11] -/
  refclk : Bool := true
  /-- CLK_GUARD_KHZ [R111 04; reset 0] -/
  guardKhz : W24 := 0
  /-- CLK_LOG_KHZ [R111 04; reset 0] -/
  logKhz : W24 := 0
  /-- CLK_KEEP_CHZ [R111 04; reset 0] -/
  keepChz : W24 := 0
  /-- CLK_FIELD_KHZ [R111 04; reset 0] -/
  fieldKhz : W24 := 0
  deriving DecidableEq, Repr

/-- Supply and heat (03). -/
structure SupSt where
  /-- shedding level, SUP_STATUS 2:0 [R56 R75 03; reset 0] -/
  level : Fin 6 := 0
  /-- over-voltage, SUP_STATUS bit 3 [R63 R75 03; reset 0] -/
  overV : Bool := false
  /-- recovery timer running, SUP_STATUS bit 4 [R59 R75 03; reset 0] -/
  recovering : Bool := false
  /-- deepest level of this episode [R76 03; reset 0] -/
  deepest : Fin 6 := 0
  /-- SUP_VBUS [R75 03; reset 0] -/
  vbus : W24 := 0
  /-- SUP_VBUS_MIN [R75 03; reset 0xFF_FFFF] -/
  vbusMin : W24 := 0xFFFFFF
  /-- lowest VBUS seen, kept for SHED_L5 [R76 03; reset 0xFF_FFFF] -/
  lowest : W24 := 0xFFFFFF
  /-- SUP_F24 [R75 03; reset 0xFF_FFFF] -/
  f24 : W24 := 0xFFFFFF
  /-- F24 state 0 good, 1 low, 2 below 15 V or no frames [R52 R75 03; reset 0] -/
  f24State : Fin 3 := 0
  /-- AUX5 limited or off, AUX3V3 limited or off [R55 R75 03; reset 0] -/
  aux5Bad : Bool := false
  aux3Bad : Bool := false
  /-- the overload of the present episode has been logged: AUX5, AUX3V3 [R55 03; reset false] -/
  aux5Logged : Bool := false
  aux3Logged : Bool := false
  /-- AUX5 on, AUX3V3 on [R32 02; reset on] -/
  aux5On : Bool := true
  aux3On : Bool := true
  /-- prewarn of Grain, Spindle, Husk, SUP_STATUS 11:9 [R68 R75 03; reset 0] -/
  prewarn : BitVec 3 := 0
  /-- shutdown of Grain, Spindle, Husk; SUP_STATUS 13:12 for the last two [R68 R75 03; reset 0] -/
  shutdown : BitVec 3 := 0
  /-- SUP_TEMP_GRAIN, SUP_TEMP_SPINDLE, SUP_TEMP_HUSK [R75 03; reset 0x80_0000] -/
  temp : Vector W24 3 := Vector.replicate 3 0x800000
  /-- SUP_TEMP_NTC [R75 03; reset 0x80_0000] -/
  tempNtc : W24 := 0x800000
  /-- SUP_STATUS.NTC_OVER [R73 R75 03; reset 0] -/
  ntcOver : Bool := false
  /-- an open or shorted thermistor has been reported [R73 03; reset false] -/
  ntcBadSent : Bool := false
  /-- SUP_LATCH [R75 03; reset 0] -/
  latch : BitVec 12 := 0
  /-- SUP_LOST [R75 R71 03; reset 0] -/
  lost : W24 := 0
  deriving DecidableEq, Repr

/-- An event raised while LOG is in reset, which LOG writes at the next start (R76, Table 15-2 bit 0, log 67). -/
structure Late where
  code : W16
  sev : Nat
  isl : Nat
  w0 : W24
  w1 : W24
  deriving DecidableEq, Repr

/-- Retained state of an axis (R105). -/
structure Retained where
  index : BitVec 10
  pos : W24
  bankB : Bool
  ratio : W24
  enc : W24
  crcOk : Bool
  deriving DecidableEq, Repr

/-- KEEP: retention RAM and wake logic (04, 05). -/
structure KeepSt where
  /-- retention RAM valid [R54 R92 04; reset false] -/
  valid : Bool := false
  /-- retained axes [R105 04; reset none] -/
  ret : Vector (Option Retained) 5 := Vector.replicate 5 none
  /-- count of staged records lost, where valid [R71 03; reset none] -/
  lostCount : Option Nat := none
  /-- the lost count came from a Grain thermal shutdown [R71 03; reset false] -/
  lostThermal : Bool := false
  /-- HST_WAKE_CAUSE [R146 05; reset 0 after power-on] -/
  cause : BitVec 6 := 0
  /-- causes that have occurred since the last snapshot [R147 05; reset 0] -/
  since : BitVec 6 := 0
  /-- HST_WAKE_EN [R149 05; reset 0x3F] -/
  wakeEn : BitVec 6 := 0x3F
  /-- PE_WAKE_N driven low [R148 05; reset released] -/
  wakeN : Bool := false
  /-- events raised while LOG is in reset, oldest first [R76 03; reset none] -/
  late : List Late := []
  deriving DecidableEq, Repr

/-- Input and strap lands that the block keeps the level of (02). -/
structure LandSt where
  /-- RESET_N high [R32 02; reset high, pulled up] -/
  resetN : Bool := true
  /-- PE_PERST_N high [R32 02; reset low, pulled down] -/
  perstN : Bool := false
  /-- PE_CLKREQ_N driven low [R115 05; reset low] -/
  clkreqN : Bool := true
  deriving DecidableEq, Repr

/-- One parameter bank (R103, R208). -/
structure Bank where
  valid : Bool := false
  epoch : Nat := 0
  txn : W16 := 0
  vals : List (Nat × W24) := []
  deriving DecidableEq, Repr

/-- One ferroelectric copy of a microstep table (R294): entries that differ from the built-in table. -/
structure TblCopy where
  valid : Bool := false
  epoch : Nat := 0
  entries : List (Nat × W24) := []
  deriving DecidableEq, Repr

/-- Identity content (R506, R507). -/
structure Ident where
  accepted : Bool := false
  recNo : Nat := 0
  ids : Option (W16 × W16 × W16) := none
  pubKey : Option (List Byte) := none
  clearKey : Option (List Byte) := none
  sealKey : Option (List Byte) := none
  debugKey : Option (List Byte) := none
  /-- the accepted record's 96 words, its wrapped-key fields zero (R499) -/
  record : List W24 := []
  deriving DecidableEq, Repr

/-- Parameters and images (07, 17). -/
structure PrmSt where
  /-- committed values that differ from the default [R208 07; reset loaded at start, none DC12] -/
  committed : List (Nat × W24) := []
  /-- live values in force [R186 R187 07; reset none] -/
  live : List (Nat × W24) := []
  /-- live writes waiting for the owner's next tick [R186 07; reset none] -/
  due : List (Nat × W24) := []
  /-- epoch of the image in force, TXN_EPOCH [R209 07; reset loaded; 0 default image] -/
  epoch : Nat := 0
  /-- PRM_ID [R222 R499 17; reset 0] -/
  prmId : W16 := 0
  /-- parameter banks A and B in ferroelectric memory [R103 04, R208 07; reset kept, invalid DC12] -/
  bankA : Bank := {}
  bankB : Bank := {}
  /-- highest epoch ever assigned [R209 07; reset kept, 0 DC12] -/
  highEpoch : Nat := 0
  /-- committed microstep tables A and B of each axis, entries that differ from the built-in table [R290 R291 09; reset built-in] -/
  tblA : Vector (List (Nat × W24)) 5 := Vector.replicate 5 []
  tblB : Vector (List (Nat × W24)) 5 := Vector.replicate 5 []
  /-- ferroelectric table copies, two for each bank of each axis: index 2 * (2 * axis + bank) + copy [R294 09; reset kept, the
  first copy of each bank valid with the built-in table DC12] -/
  tblNv : Vector TblCopy 20 := Vector.ofFn (fun k => { valid := k.val % 2 = 0 })
  /-- identity content in force [R507 R508 17; reset loaded, none DC12] -/
  ident : Ident := {}
  /-- the two ferroelectric identity copies with validity and epoch [R507 17; reset kept, invalid DC12] -/
  identNv : Vector (Bool × Nat × Ident) 2 := Vector.replicate 2 (false, 0, {})
  deriving DecidableEq, Repr

/-- The transaction coordinator (07). -/
structure TxnSt where
  /-- transaction state [R190 07; reset IDLE] -/
  st : TxnState := .idle
  /-- transaction id [R221 07; reset 0] -/
  id : W16 := 0
  /-- FORCE_QUIESCE, TXN_STATE bit 3 [R221 07; reset 0] -/
  force : Bool := false
  /-- unseal authorised, TXN_STATE bit 4 [R221 R338 10; reset 0] -/
  authd : Bool := false
  /-- deadline, ms [R193 07; reset 0] -/
  deadlineMs : Nat := 0
  /-- expiry time of the deadline, TXN_LEFT [R203 R221 07; reset none] -/
  deadline : Option Nat := none
  /-- staged values, oldest first [R195 07; reset none] -/
  staged : List (Nat × W24) := []
  /-- staged table entries: axis, bank B, entry, word [R293 09; reset none] -/
  tables : List (Nat × Bool × Nat × W24) := []
  /-- staged identity words [R505 17; reset none] -/
  idWords : Option (List (Nat × W24)) := none
  /-- TXN_VOTED [R221 07; reset 0] -/
  voted : BitVec 9 := 0
  /-- TXN_AT_SAFE: touched islands that have reached and hold their safe point [R199 R221 07; reset 0] -/
  atSafe : BitVec 9 := 0
  /-- the new image is written but for its header [R190 R208 07; reset false] -/
  written : Bool := false
  /-- the commit point has been reached: image header written [R208 07; reset false] -/
  imageDone : Bool := false
  /-- the TXN_COMMIT that runs [R197 07; reset none] -/
  ref : Option Ref := none
  /-- TXN_FAIL 3:0 [R221 07; reset 0xF] -/
  failIsl : BitVec 4 := 15
  /-- TXN_FAIL 7:4 [R221 07; reset 0] -/
  failCause : BitVec 4 := 0
  /-- TXN_LAST [R221 07; reset 0] -/
  lastId : W16 := 0
  lastCommit : Bool := false
  deriving DecidableEq, Repr

/-- What the third part of a journal entry holds (Table 7-6). -/
inductive JBody where
  | command (d3 d4 d5 : W32)
  | outcome (cmdSeq : Nat) (result : W24) (extra : Byte) (cause : Byte)
  deriving DecidableEq, Repr

/-- A journal entry (Table 7-6). -/
structure JEntry where
  seq : Nat
  op : Byte
  flags : Byte
  tag : W32
  txn : W16
  atStart : Bool := false
  status : Status
  body : JBody
  deriving DecidableEq, Repr

/-- The command journal (07). -/
structure JrnSt where
  /-- retained entries, newest first, at most 4,096 [R212 07; reset kept, empty DC12] -/
  entries : List JEntry := []
  /-- last journal sequence, HST_JRN_HEAD [R212 07; reset kept, 0 DC12] -/
  head : Nat := 0
  deriving DecidableEq, Repr

/-- A recorder record (Table 15-1). -/
structure Rec where
  seq : Nat
  code : W16
  sev : Nat
  isl : Nat
  flags : Byte := 0
  repeats : Nat := 0
  w0 : W24 := 0
  w1 : W24 := 0
  w2 : W24 := 0
  w3 : W24 := 0
  deriving DecidableEq, Repr

/-- A running clear (R458): its regions, the head before and the reserved sequence. -/
structure ClearRun where
  full : Bool
  prevHead : Nat
  reserved : Nat
  deriving DecidableEq, Repr

/-- The event recorder (15). -/
structure LogSt where
  /-- LOG_STATUS.mounted [R460 R461 15; reset 0] -/
  mounted : Bool := false
  /-- staging buffer, oldest first, at most 64 [R443 15; reset empty] -/
  staged : List Rec := []
  /-- KEEP slots filled: index and record, rising index [R440 R441 15; reset kept, empty DC12] -/
  keep : List (Nat × Rec) := []
  /-- ROLL slots filled: index and record, rising index [R440 R442 15; reset kept, empty DC12] -/
  roll : List (Nat × Rec) := []
  /-- LOG_HEAD, last sequence assigned [R437 R461 15; reset kept, 0 DC12] -/
  head : Nat := 0
  /-- sequence reservation in ferroelectric memory [R438 15; reset kept, 0 DC12] -/
  reserve : Nat := 0
  /-- LOG_CURSOR [R461 15; reset 0] -/
  cursor : W24 := 0
  /-- LOG_WIN_CTL bit 0 [R461 15; reset 0] -/
  seqMode : Bool := false
  /-- LOG_WIN_GEN [R454 R461 15; reset 0] -/
  winGen : W24 := 0
  /-- LOG_CRIT [R450 R461 15; reset kept, 0 DC12] -/
  crit : BitVec 6 := 0
  /-- bad-slot map, LOG_BAD_SLOTS [R446 R461 15; reset kept, empty DC12] -/
  badSlots : List Nat := []
  /-- LOG_DROP_0 to LOG_DROP_7 [R442 R461 15; reset kept, 0 DC12] -/
  drops : Vector W24 8 := Vector.replicate 8 0
  /-- tokens of each rate class [R448 15; reset full: 32; class 15: 16] -/
  tokens : Vector Nat 16 := (Vector.replicate 16 32).set 15 16
  /-- records not staged because the buffer was full [R445 15; reset 0] -/
  overflow : Nat := 0
  /-- a clear runs, LOG_STATUS bit 3 [R458 R461 15; reset none] -/
  clear : Option ClearRun := none
  /-- clear marker in ferroelectric memory [R458 R459 15; reset kept, none DC12] -/
  marker : Option ClearRun := none
  /-- ferroelectric memory marked clean [R72 03; reset kept, clean DC12] -/
  clean : Bool := true
  /-- a nonce awaiting its keyed command: purpose and 16 bytes [R177 06, R456 15; reset none] -/
  nonce : Option (Nat × List Byte) := none
  deriving DecidableEq, Repr

/-- The guard (10). -/
structure GuardSt where
  /-- guard state [R320 10; reset SAFE_STOP before step 3 DC13] -/
  st : GuardState := .safeStop
  /-- last stop or trip cause, GUARD_STATUS 15:11 [R331 10; reset 0] -/
  cause : Fin 32 := 0
  /-- permits granted, bit per permit code [R326 10; reset none granted] -/
  permits : BitVec 17 := 0
  /-- rules failing at the last pass, GUARD_STATUS pages 2 and 3 [R326 10; reset 0] -/
  failing : BitVec 32 := 0
  /-- withdrawn permits whose loss action RAMP has been taken [R326 10; reset all: none is granted] -/
  ramped : BitVec 17 := BitVec.allOnes 17
  /-- rules latched failed [R332 10; reset 0] -/
  latched : BitVec 32 := 0
  /-- ESTOP_A_N high, ESTOP_B_N high [R323 10, R44 02; reset low: an open land reads low] -/
  estopA : Bool := false
  estopB : Bool := false
  /-- discrepancy latched [R324 10; reset false] -/
  disc : Bool := false
  /-- when both channels went low together, while a discrepancy is latched [R324 10; reset none] -/
  bothLow : Option Nat := none
  /-- both channels have been low together for 10 ms since the latch [R324 10; reset false] -/
  lowSeen : Bool := false
  /-- supervisor stop latch [R329 10; reset false] -/
  stopLatch : Bool := false
  /-- second copy of the lattice rules [R333 10; reset equal to the image] -/
  copyB : List (Nat × W24) := []
  /-- device heartbeat of the status word [R418 14; reset 0 DC14] -/
  beat : Byte := 0
  /-- guard passes since the device heartbeat moved: 500 passes of 20 µs are 10 ms [R418 14; reset 0] -/
  beatPass : Nat := 0
  deriving DecidableEq, Repr

/-- The supervisor's two-wire port (14). -/
structure TwpSt where
  /-- heartbeat OK [R425 14; reset false] -/
  hbOk : Bool := false
  /-- last accepted counter [R426 14; reset 0 DC14] -/
  counter : Byte := 0
  /-- the port is asleep [R427 14; reset false] -/
  asleep : Bool := false
  /-- the port is waking after NACK_FIRST [R427 14; reset false] -/
  waking : Bool := false
  /-- SDA held low by the port [R421 14; reset released] -/
  sdaLow : Bool := false
  /-- attention causes pending: trip, L3, log critical [R428 14; reset 0] -/
  attPend : BitVec 3 := 0
  /-- attention attempts made in this series [R430 14; reset 0] -/
  attTries : Nat := 0
  /-- waiting 1 ms after a failed attempt [R430 14; reset false] -/
  attWait : Bool := false
  /-- bytes the last read returned [R418 R419 14; reset none] -/
  out : List Byte := []
  /-- the last write's CRC byte was acknowledged [R420 14; reset false] -/
  acked : Bool := false
  /-- attention bytes sent, newest first [R428 14; reset none] -/
  sent : List Byte := []
  deriving DecidableEq, Repr

/-- A running or queued motion of an axis. -/
structure Move where
  /-- fixed target of a position move [R284 09] -/
  target : Option Int
  /-- direction +1 or −1 -/
  dir : Int
  /-- commanded speed, µstep/s [R285 09] -/
  speed : Nat
  /-- acceleration and deceleration, 16 µstep/s², and whether each took the default [R287 09] -/
  acc : Nat
  dec : Nat
  accDef : Bool
  decDef : Bool
  /-- jerk, 256 µstep/s³, 0 none [R284 09] -/
  jerk : Nat
  /-- a deceleration that applies from the next deceleration on [R287 09] -/
  decDue : Option Nat := none
  deriving DecidableEq, Repr

/-- Electronic gearing of a follower (R304). -/
structure Gear where
  master : Fin 6
  ratio : W24
  origin : W24
  offset : W24
  /-- armed switch: new ratio, master position, whether m was below it when armed, its command [R306 09] -/
  armed : Option (W24 × W24 × Ref) := none
  /-- last master position, to see the switch position passed [R306 09] -/
  lastM : W24 := 0
  deriving DecidableEq, Repr

/-- What an axis does once its stage is enabled: it stands, it starts a motion in a state, or it engages a gear (R283, R314). -/
inductive AfterEnable where
  | stand
  | move (st : AxisState) (m : Move)
  | gear (g : Gear)
  deriving DecidableEq, Repr

/-- One axis (09). -/
structure Axis where
  /-- axis state [R282 09; reset OFF] -/
  st : AxisState := .off
  /-- homed [R282 09; reset 0] -/
  homed : Bool := false
  /-- stall latched [R282 09; reset 0] -/
  stall : Bool := false
  /-- negative limit active, positive limit active [R308 09; reset 0] -/
  limNeg : Bool := false
  limPos : Bool := false
  /-- hold current in force [R311 09; reset 0] -/
  hold : Bool := false
  /-- emergency ramp running [R289 09; reset 0] -/
  emg : Bool := false
  /-- restored without encoder verification [R314 09; reset 0] -/
  noVerify : Bool := false
  /-- open load on bridge A, on bridge B [R315 09; reset 0] -/
  openA : Bool := false
  openB : Bool := false
  /-- stage enabled and conducting [R14 R283 09; reset disabled] -/
  stage : Bool := false
  /-- commanded position in units of 1 / 62,500,000,000 microstep, within 24 signed bits of microsteps [R280 R281 R284 09; reset 0] -/
  x : Int := 0
  /-- speed in units of 1 / 1,562,500 µstep/s, signed [R284 09; reset 0] -/
  v : Int := 0
  /-- acceleration in units of 16 / 1,250 µstep/s², signed [R284 09; reset 0] -/
  a : Int := 0
  /-- the running motion [R284 R288 09; reset none] -/
  move : Option Move := none
  /-- commands that end with the running motion [R169 06; reset none] -/
  refs : List Ref := []
  /-- stop commands that end at standstill [R289 09; reset none] -/
  stops : List Ref := []
  /-- status and extra with which the running command ends at standstill [R289 R310 09; reset none] -/
  endWith : Option (Status × Byte) := none
  /-- table offset k [R281 09; reset 0 DC15] -/
  k : BitVec 10 := 0
  /-- encoder count [R301 09; reset 0 DC15] -/
  enc : W24 := 0
  /-- reference pair e0, p0 [R302 09; reset 0 DC15] -/
  refE : W24 := 0
  refP : W24 := 0
  /-- consecutive ticks with the deviation outside the window [R302 09; reset 0] -/
  dev : Nat := 0
  /-- gearing [R304 09; reset none] -/
  gear : Option Gear := none
  /-- deceleration and jerk of a stop that runs: 16 µstep/s², 256 µstep/s³ [R287 R289 09; reset 0] -/
  stopDec : Nat := 0
  stopJerk : Nat := 0
  /-- it stops after gearing to ENCM [R317 09; reset false] -/
  encmStop : Bool := false
  /-- AX_HOME_MAX as the running search took it [R310 R316 09; reset 0] -/
  homeMax : Nat := 0
  /-- step target of an external axis [R296 09; reset 0 DC15] -/
  stepTarget : W24 := 0
  /-- last step period and time of the last edge, µs [R297 09; reset none] -/
  stepPeriod : Nat := 0
  stepAt : Option Nat := none
  /-- step edges not counted [R298 09; reset 0] -/
  ignored : Nat := 0
  /-- following suspended by AXIS_STOP [R298 09; reset false] -/
  suspended : Bool := false
  /-- latch armed [R309 09; reset false] -/
  latchArmed : Bool := false
  /-- latched position and encoder count [R309 09; reset none] -/
  latch : Option (W24 × W24) := none
  /-- position and count that the H-frame with the latch's edge gave, until AX_LATCH takes them [R309 09; reset none] -/
  edge : Option (W24 × W24) := none
  /-- travel of the home search so far, microsteps [R310 09; reset 0] -/
  travel : Nat := 0
  /-- what follows once the stage is enabled and verified [R283 R314 09; reset none] -/
  after : Option AfterEnable := none
  /-- the AXIS_POWER or lift step that awaits the enable [R283 09; reset none] -/
  powerRefs : List Ref := []
  /-- the stage waits for the verification of a retained count [R314 09; reset false] -/
  verifying : Bool := false
  /-- retained state loaded at start and used at the next enable [R105 R314 09; reset none] -/
  retained : Option Retained := none
  /-- the retained state came from retention RAM at this start [R314 09; reset false] -/
  fromRam : Bool := false
  /-- a move handed over to start at the first tick after standstill [R377 12; reset none] -/
  next : Option Move := none
  /-- whole ticks with zero speed [R311 09; reset 0] -/
  still : Nat := 0
  deriving DecidableEq, Repr

/-- Two encoders and the axes (09). -/
structure MotionSt where
  /-- the five axes [R276 09] -/
  ax : Vector Axis 5 := Vector.replicate 5 {}
  /-- master encoder count [R304 R317 09; reset 0 DC15] -/
  encM : W24 := 0
  /-- the count at the last tick, ticks since it changed, and its last change with the ticks that it took [R304 R305 09; reset 0] -/
  encSeen : W24 := 0
  encGap : Nat := 0
  encRate : Int × Nat := (0, 1)
  /-- stage-enable lines active [R283 R320 10; reset inactive] -/
  lines : Bool := false
  /-- ferroelectric copy of the retained states [R56 R105 04; reset kept, none DC12] -/
  nv : Vector (Option Retained) 5 := Vector.replicate 5 none
  deriving DecidableEq, Repr

/-- A call of the lift (R349). -/
structure Call where
  landing : Fin 12
  prio : Fin 4
  door : Bool
  /-- the longest dwell asked for, ms; a call asked for LDG_DWELL, taken at the stop (R174, Table 11-1) -/
  dwell : Nat
  dwellDef : Bool
  order : Nat
  refs : List Ref
  dispatched : Bool := false
  deriving DecidableEq, Repr

/-- The stage of a trip or of homing within a car state. -/
inductive LiftPhase where
  | none | verify | brakeRelease | moving | levelling | brakeSet | homeVerify | homeBrake | homeSearch
  deriving DecidableEq, Repr

/-- The lift engine (11). -/
structure LiftSt where
  /-- car state [R346 11; reset NOT_HOMED] -/
  st : CarState := .notHomed
  /-- last landing, 0xF none [R346 11; reset 0xF] -/
  last : Fin 16 := 15
  /-- committed target, 0xF none [R346 11; reset 0xF] -/
  target : Fin 16 := 15
  /-- direction: 1 UP, −1 DOWN, 0 NONE [R352 11; reset NONE] -/
  dir : Int := 0
  /-- call list [R349 11; reset empty] -/
  calls : List Call := []
  /-- arrival order counter [R349 11; reset 0] -/
  order : Nat := 0
  /-- hold pending: its cause [R360 11; reset none] -/
  pendHold : Option (Fin 7) := none
  /-- hold cause in force [R360 11; reset 0] -/
  holdCause : Fin 7 := 0
  /-- door whose FAULT ended a door cycle [R360 11; reset none] -/
  holdDoor : Option (Fin 2) := none
  /-- hold cause 6 has been taken since the last release [R360 11; reset false] -/
  holdL3 : Bool := false
  /-- speeds of the trip and its acceleration and deceleration, as its dispatch took them: LIFT_VRUN, LDG_VAPP, LIFT_ACC,
  LIFT_DEC [R355 R356 R367 11; reset 0] -/
  vRun : Nat := 0
  vApp : Nat := 0
  acc : Nat := 0
  dec : Nat := 0
  /-- LIFT_HOLD commands waiting for HOLD [Table 6-12 06; reset none] -/
  holdRefs : List Ref := []
  /-- phase inside the state [R355 R358 R362 11; reset none] -/
  phase : LiftPhase := .none
  /-- the dwell of the last stop has not elapsed [R351 11; reset false] -/
  dwell : Bool := false
  /-- the trip is a park trip [R354 11; reset false] -/
  park : Bool := false
  /-- the trip is the verification trip of a homing [R362 11; reset false] -/
  verifyTrip : Bool := false
  /-- the running LIFT_HOME [R362 11; reset none] -/
  homeRef : Option Ref := none
  /-- brake output commanded on [R364 11; reset off] -/
  brake : Bool := false
  /-- level error of the check [R357 11; reset 0] -/
  err : Int := 0
  /-- fault cause [R361 11; reset 0] -/
  cause : Fin 7 := 0
  /-- a trip stops on the emergency ramp and is abandoned at standstill [R359 11; reset false] -/
  abandon : Bool := false
  /-- landing of the door cycle's call is being served [R358 11; reset false] -/
  cycle : Option (Fin 2) := none
  deriving DecidableEq, Repr

/-- One hatch door (12). -/
structure Door where
  /-- door state [R372 12; reset FAULT: not yet judged] -/
  st : DoorState := .fault
  /-- fault cause, Table 12-3 [R374 12; reset 0] -/
  cause : Fin 8 := 0
  /-- judged since the LIFT start [R374 12; reset false] -/
  judged : Bool := false
  /-- reversal count [R373 12; reset 0] -/
  rev : Nat := 0
  /-- obstructed nudge attempts [R378 12; reset 0] -/
  tries : Nat := 0
  /-- hold-open time asked for, ms; none: DR_HOLD_MS as the next OPEN takes it [R379 R382 R384 12; reset none] -/
  holdMs : Option Nat := none
  /-- end of the hold-open time, µs [R373 12; reset none] -/
  holdEnd : Option Nat := none
  /-- hold with no end, by DOOR_HOLD [R381 12; reset false] -/
  holdInf : Bool := false
  /-- a close is due [R375 12; reset false] -/
  closeDue : Bool := false
  /-- an open is due (DOOR_OPEN accepted or lift cycle) [R373 R382 12; reset false] -/
  openDue : Bool := false
  /-- commands that end at OPEN, at CLOSED_LOCKED [Table 6-12 06; reset none] -/
  openRefs : List Ref := []
  closeRefs : List Ref := []
  /-- in a lift door cycle [R382 12; reset false] -/
  cycle : Bool := false
  /-- obstructed attempt standing, waiting 1,000 ms [R378 12; reset false] -/
  retryWait : Bool := false
  /-- recovery close from FAULT on an axis that is not homed [R378 12; reset false] -/
  recovery : Bool := false
  /-- reference pair of the closing move, and ticks outside the window [R376 12; reset 0] -/
  refE : W24 := 0
  refP : W24 := 0
  obsTicks : Nat := 0
  /-- the standstill after an obstruction judges the position [R377 12; reset false] -/
  judgeDue : Bool := false
  /-- nudge attempts allowed, as the close took DR_NUDGE_TRIES [R378 R384 12; reset 0] -/
  maxTries : Nat := 0
  /-- current of the closing move, mA; 0: AX_I_RUN [Table 12-1 12; reset 0] -/
  current : Nat := 0
  /-- lock output commanded on, buzzer output commanded on [R372 12; reset off] -/
  lock : Bool := false
  buzzer : Bool := false
  /-- a recovery close ran [R387 12; reset false] -/
  recovered : Bool := false
  deriving DecidableEq, Repr

/-- Where COAST leads (Table 13-3). -/
inductive AfterCoast where
  | stopped | retry | faultStart | faultLost | jam
  deriving DecidableEq, Repr

/-- The grinder drive (13). -/
structure GrindSt where
  /-- drive state [R395 R388 13; reset DISABLED] -/
  st : GrindState := .disabled
  /-- precharge running: before ALIGN, or before UNJAM [R391 13; reset none] -/
  precharge : Option Bool := none
  /-- catch attempt of the loss episode [R395 R405 13; reset 0] -/
  attempt : Fin 3 := 0
  /-- dose running [R395 13; reset 0] -/
  doseRun : Bool := false
  /-- regenerative limit active; logged in this ramp-down [R399 13; reset 0] -/
  regen : Bool := false
  regenLogged : Bool := false
  /-- standstill [R393 13; reset true DC16] -/
  still : Bool := true
  /-- fault cause [R395 13; reset 0] -/
  cause : Fin 6 := 0
  /-- dose unit: electrical revolutions [R395 13; reset 0] -/
  revs : Bool := false
  /-- dose and count delivered [R401 13; reset 0] -/
  dose : Nat := 0
  count : Nat := 0
  /-- speed argument, 0 takes GR_RPM_DEF [R400 13; reset 0] -/
  arg : Nat := 0
  /-- commanded speed target, 1/1000 rpm [R398 13; reset 0] -/
  target : Nat := 0
  /-- mechanical speed, rpm, signed [R395 13; reset 0] -/
  rpm : W24 := 0
  /-- q-current set-point and integral, mA and 0.00001 mA [R398 13; reset 0] -/
  iq : Int := 0
  integ : Int := 0
  /-- open-loop current vector of ALIGN, RAMP and UNJAM, mA [R397 R407 13; reset 0] -/
  vec : Nat := 0
  /-- GR_RAMP_MA and GR_RAMP_ACC as the start took them [R397 R411 13; reset 0] -/
  rampMa : Nat := 0
  rampAcc : Nat := 0
  /-- GR_UNJAM_EN, GR_UNJAM_MA and GR_UNJAM_DEG as the jam took them [R407 R411 13; reset 0] -/
  unjamEn : Bool := false
  unjamMa : Nat := 0
  unjamDeg : Nat := 0
  /-- milliseconds since ALIGN [R401 R413 13; reset 0] -/
  ms : Nat := 0
  /-- the running GRIND_RUN [R400 13; reset none] -/
  ref : Option Ref := none
  /-- GRIND_STOP commands waiting for standstill [R402 13; reset none] -/
  stops : List Ref := []
  /-- start failures of the running command [R396 13; reset 0] -/
  fails : Nat := 0
  /-- where COAST leads [Table 13-3 13; reset STOPPED] -/
  after : AfterCoast := .stopped
  /-- GRIND_STOP in FAULT waits for standstill [R402 13; reset false] -/
  clearDue : Bool := false
  /-- CATCH: the settle time has elapsed; switching runs [R404 13; reset false] -/
  settled : Bool := false
  switching : Bool := false
  /-- last measured speed of the episode [R413 13; reset 0] -/
  measured : W24 := 0
  deriving DecidableEq, Repr

/-- The one-shot requests of a G-frame as toggles (R528). -/
structure Toggles where
  strobe : Bool := false
  discard : Bool := false
  pulse : Bool := false
  clr : BitVec 8 := 0
  deriving DecidableEq, Repr

/-- A FIELD_WRITE that is not finished (R271). -/
structure FieldCmd where
  id : Nat
  /-- the command, once journaled -/
  ref : Option Ref := none
  /-- the channels that it writes, and those that it switches on -/
  mask : BitVec 24
  on : BitVec 24
  /-- the channels that it switches on under SERIAL, judged at its decode (R270) -/
  serial : BitVec 24 := 0
  /-- the channels that it switches on and that wait under SERIAL -/
  wait : BitVec 24
  /-- the sequence of the G-frame that first carried it -/
  seq : Option W16 := none
  /-- an H-frame has acknowledged that frame -/
  acked : Bool := false
  /-- a final status that came before its journaling -/
  early : Option (Status × Byte) := none
  deriving DecidableEq, Repr

/-- What a G-frame says of a FIELD_WRITE that no H-frame has acknowledged yet: the sequence that first carried it, its channels and
those under SERIAL (log 89). -/
structure GWrite where
  seq : W16
  mask : BitVec 24
  serial : BitVec 24
  deriving DecidableEq, Repr

/-- A G-frame on the wire: its 15 words as they arrive, the time since the start of the frame before, in ns as the Husk die measures
it, the writes that it carries, whether LINK knows of SILENCE_APPLIED, and whether its pulse was judged under SERIAL (R245, R247,
R249, R260, R270, log 89). -/
structure GAir where
  words : List W24
  period : Nat := 31250
  writes : List GWrite := []
  known : Bool := false
  pulseSerial : Bool := false
  deriving DecidableEq, Repr

/-- What FIELD has found and reports with its next H-frame: an event's payload, a wake, the end of a pulse with the sequence of the
last valid G-frame before it, safe states taken with their reason, a restart (log 89). -/
inductive News where
  | event (code : W16) (sev : Nat) (w0 w1 : W24)
  | wake
  | pulseEnd (ch : Fin 24) (seq : W16)
  | safe (why : Fin 3) (mask : BitVec 24)
  | restart (why : Fin 2)
  deriving DecidableEq, Repr

/-- A FIELD_PULSE that has not ended: channel, on-time, command, whether its decode judged it under SERIAL, and the sequence of the
G-frame that first carried its request (R243, R273). -/
structure PulseCmd where
  ch : Fin 24
  time : W24
  ref : Ref
  serial : Bool := false
  seq : Option W16 := none
  deriving DecidableEq, Repr

/-- How LINK or the Husk sends: HELLO at link start, DATA, KEEPALIVE in sleep (R251, R264). -/
inductive LinkMode where
  | hello | data | sleep
  deriving DecidableEq, Repr

/-- LINK, the Grain end of the Awn link (08). -/
structure AwnSt where
  /-- what LINK sends [R251 08; reset HELLO] -/
  mode : LinkMode := .hello
  /-- valid frames received since link start [R251 08; reset 0] -/
  heard : Nat := 0
  /-- FLD_LINK_UP logged: handshake ended [R251 08; reset false] -/
  up : Bool := false
  /-- a DATA H-frame has been received since link start [R251 08; reset false] -/
  heardData : Bool := false
  /-- sequence of the first DATA frame sent since link start [R251 08; reset none] -/
  dataSeq : Option W16 := none
  /-- G-frame sequence [R247 08; reset 0 DC17] -/
  seq : W16 := 0
  /-- commanded output state, channel k + 8 in bit k [R247 R251 08; reset 0] -/
  cmd : BitVec 24 := 0
  /-- request toggles as sent, and the echoes last received [R528 08; reset 0] -/
  tog : Toggles := {}
  echo : Toggles := {}
  /-- requests that became due and wait [R528 08; reset none] -/
  strobeDue : Bool := false
  discardDue : Bool := false
  clrDue : BitVec 8 := 0
  /-- pulse channel and on-time held in the frame [R247 08; reset 0] -/
  pulseCh : Fin 24 := 0
  pulseTime : W24 := 0
  /-- next active slice of the refresh; an active slice is due in this frame [R252 08; reset 0] -/
  slice : Fin 36 := 0
  activeTurn : Bool := true
  /-- active slices with a new live value, sent before the refresh [R186 07, Table 8-8 08; reset none] -/
  liveDue : List (Fin 36) := []
  /-- shadow slices still to be acknowledged, each with the frame that first carried its present words [R255 08; reset none] -/
  shadow : List (Fin 36 × Option W16) := []
  /-- the inputs are STALE [R261 08; reset true] -/
  stale : Bool := true
  /-- when STALE began, µs; consecutive valid configured frames since [R261 R275 08; reset 0] -/
  staleAt : Nat := 0
  fresh : Nat := 0
  /-- a valid H-frame has been received and none of FLD_STALE, a LINK start or F24_UVLO since: frames arrive [Table 3-7 03; reset false] -/
  hears : Bool := false
  /-- a restart of the Husk die has been found and it has not come up since [R262 08; reset false] -/
  restarted : Bool := false
  /-- received input states, wire-break flags [R247 08; reset 0] -/
  inputs : BitVec 16 := 0
  wb : BitVec 16 := 0
  /-- received driver states, output faults [R247 08; reset 0] -/
  drivers : BitVec 24 := 0
  faults : BitVec 24 := 0
  /-- outputs whose fault latch has been reported and that no write of off has cleared since [R234 08; reset 0] -/
  latched : BitVec 24 := 0
  /-- received bank states: on, tripped, demagnetising [R247 08; reset 0] -/
  bankOn : BitVec 2 := 0
  bankTrip : BitVec 2 := 0
  bankDemag : BitVec 2 := 0
  /-- received counters and frames since each sample [R175 06, R247 08; reset 0] -/
  counters : Vector W24 8 := Vector.replicate 8 0
  age : Vector Nat 8 := Vector.replicate 8 0
  /-- flags of the last H-frame: CONFIGURED, thermal shutdown, SILENCE_APPLIED [R247 08; reset 0] -/
  configured : Bool := false
  huskHot : Bool := false
  silenced : Bool := false
  /-- diagnostic index and current of the last H-frame [R247 08; reset 0] -/
  diag : BitVec 24 := 0
  /-- a run of bad H-frames; H-frames missed [R249 R275 08; reset false, 0] -/
  badRun : Bool := false
  missed : Nat := 0
  /-- sequence of the last valid H-frame [R275 08; reset 0] -/
  hSeq : W16 := 0
  /-- the next H-frame is the first after a link start or a gap, exempt from the period test [R249 08; reset true] -/
  exempt : Bool := true
  /-- valves that count as on or clamping though commanded off; sequence of the frame that commands each off [R242 08; reset 0] -/
  clampCount : BitVec 24 := 0
  offSeq : Vector W16 24 := Vector.replicate 24 0
  /-- field writes and pulses in flight; identifier of the next write [R271 R273 08; reset none] -/
  writes : List FieldCmd := []
  pulses : List PulseCmd := []
  nextId : Nat := 0
  /-- keepalive hunt running; expected keepalive period, µs [R265 R266 08; reset false, 1000] -/
  hunt : Bool := false
  period : Nat := 1000
  /-- the frame on the wire to the Husk, to the Grain [R245 R247 08; reset none] -/
  gAir : Option GAir := none
  hAir : Option (List W24) := none
  /-- what FIELD reports with the H-frames since the last valid one [log 89; reset none] -/
  hNews : List News := []
  deriving DecidableEq, Repr

/-- A frequency measurement (R230). -/
structure Meas where
  /-- time the measurement opened, ticks of 48 MHz, and periods so far -/
  opened : Option Nat := none
  periods : Nat := 0
  /-- time of the last rising edge, ticks -/
  lastRise : Option Nat := none
  deriving DecidableEq, Repr

/-- The Husk die and its FIELD island (08). -/
structure HuskSt where
  /-- the die runs: F24 present [R53 03; reset false DC18] -/
  alive : Bool := false
  /-- F24 measured, mV [R247 08; reset 0 DC18] -/
  f24 : W24 := 0
  /-- what FIELD sends [R251 08; reset HELLO] -/
  mode : LinkMode := .hello
  /-- valid frames received since link start [R251 08; reset 0] -/
  heard : Nat := 0
  /-- H-frame sequence; sequence of the last valid G-frame [R247 08; reset 0 DC17] -/
  seq : W16 := 0
  gSeq : W16 := 0
  /-- a DATA frame has been received since the last HELLO; SAFE_NOW in the last valid G-frame [R251 R259 08; reset false] -/
  heardData : Bool := false
  sn : Bool := false
  /-- a run of bad G-frames; the next G-frame is the first after a link start or a gap [R249 08; reset false, true] -/
  badRun : Bool := false
  exempt : Bool := true
  /-- consecutive missing G-frames [R256 08; reset 0] -/
  missing : Nat := 0
  /-- time of the last valid G-frame's end, µs [R258 08; reset 0] -/
  lastValid : Nat := 0
  /-- CONFIGURED [R254 08; reset 0] -/
  configured : Bool := false
  /-- active slices received since the last start [R254 08; reset 0] -/
  got : BitVec 36 := 0
  /-- active bank: words that differ from the default, key = 8 × slice + word [R252 08; reset defaults] -/
  active : List (Nat × W24) := []
  /-- shadow slices written since the last strobe: slice and its 8 words [R255 08; reset none] -/
  shadow : List (Nat × List W24) := []
  /-- requests last acted on: the echoes [R528 08; reset 0] -/
  echo : Toggles := {}
  /-- slice written from the last valid frame, 0x3F none; its bank; REPAIRED [R247 R253 08; reset none] -/
  wrote : Nat := 63
  wroteBank : Bool := false
  repaired : Bool := false
  /-- last commanded output state and permits [R250 08; reset 0] -/
  cmd : BitVec 24 := 0
  permits : BitVec 10 := 0
  /-- output drivers on [R250 08; reset off] -/
  out : BitVec 24 := 0
  /-- outputs that have taken their safe state through silence or SAFE_NOW, and SILENCE_APPLIED [R260 08; reset 0] -/
  silenced : Bool := false
  silentBy : Fin 3 := 0
  /-- outputs that hold a safe state until they are written [R260 08; reset none] -/
  held : BitVec 24 := 0
  /-- pulses timed on the Husk [R273 08; reset none] -/
  pulsing : BitVec 24 := 0
  /-- valves waiting under SERIAL, in command order [R243 08; reset none] -/
  waiting : List (Fin 24) := []
  /-- valves still clamping [R239 08; reset 0] -/
  clamping : BitVec 24 := 0
  /-- bank switches on; banks rising; banks closing through their sequence; tripped [R238 R239 R240 08; reset 0] -/
  bankOn : BitVec 2 := 0
  rising : BitVec 2 := 0
  closing : BitVec 2 := 0
  tripped : BitVec 2 := 0
  /-- valves that switch on once their bank has risen [R238 08; reset 0] -/
  riseFor : BitVec 24 := 0
  /-- debounced input states [R226 08; reset 0] -/
  inputs : BitVec 16 := 0
  /-- WIRE_BREAK flags [R227 08; reset 0] -/
  wb : BitVec 16 := 0
  /-- fault latches that switch the output off; open-load flags [R234 R235 08; reset 0] -/
  faults : BitVec 24 := 0
  openLoad : BitVec 24 := 0
  /-- counters, cleared mask of the next H-frame that carries them, values before the clear [R229 R232 08; reset 0] -/
  counters : Vector W24 8 := Vector.replicate 8 0
  cleared : BitVec 8 := 0
  before : Vector W24 8 := Vector.replicate 8 0
  /-- frequency measurements [R230 08; reset none] -/
  meas : Vector Meas 8 := Vector.replicate 8 {}
  /-- Husk junction, 1/16 °C; thermal shutdown [R68 03; reset 0x80_0000, false] -/
  temp : W24 := 0x800000
  hot : Bool := false
  /-- consecutive G-frame periods measured, and their sum in ns [R231 08; reset 0] -/
  trimCount : Nat := 0
  trimSum : Nat := 0
  /-- the trim in force: the measured length of 256 nominal periods (8,000,000 ns), ns [R231 08; reset 8,000,000, untrimmed] -/
  trimNs : Nat := 8000000
  /-- keepalive hunt running; expected period, µs [R265 R266 08; reset false, 1000] -/
  hunt : Bool := false
  period : Nat := 1000
  /-- a valid keepalive that waits for the next boundary [R250 R264 08; reset none] -/
  inbox : Option GAir := none
  /-- what FIELD has found since its last H-frame [log 89; reset none] -/
  news : List News := []
  deriving DecidableEq, Repr

/-- What a flash slot holds (R465, R467): the header fields of its image and its verified mark. -/
structure Slot where
  verified : Bool := false
  version : W24 := 0
  epoch : Nat := 0
  /-- lowest and highest epoch accepted for HOST, LIFT, GRIND -/
  lo : Vector Nat 3 := Vector.replicate 3 0
  hi : Vector Nat 3 := Vector.replicate 3 255
  /-- units written since the last erase: unit number and its 64 dwords -/
  units : List (Nat × List W32) := []
  erases : Nat := 0
  deriving DecidableEq, Repr

/-- The slots of one firmware island (R465, R489). -/
structure FwSlots where
  /-- slot marked active in the directory: B [R466 16] -/
  activeB : Bool := false
  /-- slot the island runs: 0 A, 1 B, 2 recovery [R489 16] -/
  running : Fin 3 := 0
  a : Slot := {}
  b : Slot := {}
  rcv : Slot := {}
  deriving DecidableEq, Repr

/-- A staging command (R472): its command, island, whether the slot is erased first, LAST, first unit and the units. -/
structure StageJob where
  ref : Ref
  isl : FwIsland
  last : Bool
  unit : Nat
  data : List W32
  deriving DecidableEq, Repr

/-- Activation phases (R489). -/
inductive ActPhase where
  | waiting | restarting
  deriving DecidableEq, Repr

/-- A firmware activation (R475). -/
structure Activation where
  ref : Ref
  isl : FwIsland
  phase : ActPhase := .waiting
  safeAt : Nat := 0
  deriving DecidableEq, Repr

/-- Firmware (16). -/
structure FwSt where
  /-- slots of HOST, LIFT, GRIND [R465 R466 16; reset as delivered: slot A active and verified, epoch 0, every range 0 to 255, DC19] -/
  slots : Vector FwSlots 3 := Vector.replicate 3 { a := { verified := true }, rcv := { verified := true } }
  /-- staging that runs, staging that waits [R169 06, R472 16; reset none] -/
  stage : Option StageJob := none
  stageNext : Option StageJob := none
  /-- activation that runs, FWU_STATUS [R475 R489 16; reset none] -/
  act : Option Activation := none
  /-- FWU_LAST [R489 16; reset 0] -/
  last : W24 := 0
  deriving DecidableEq, Repr

/-- Debug access and JTAG (16). -/
structure DbgSt where
  /-- unlocked, scope [R485 R490 16; reset locked] -/
  unlocked : Bool := false
  scope : BitVec 2 := 0
  /-- open challenge: 16 bytes [R485 R490 16; reset none] -/
  nonce : Option (List Byte) := none
  /-- challenge requests refused for 1 s [R485 16; reset false] -/
  refusing : Bool := false
  /-- halted and halt requested, bit per HOST, LIFT, GRIND [R487 R490 16; reset 0] -/
  halted : BitVec 3 := 0
  haltReq : BitVec 3 := 0
  /-- halt requests that wait for the end of the island's activation [R487 16; reset 0] -/
  haltWait : BitVec 3 := 0
  /-- when each core halted, µs [R492 16; reset 0] -/
  haltAt : Vector Nat 3 := Vector.replicate 3 0
  /-- the high word latched by the last debug read of a low word, with its offset [R81 04; reset none] -/
  pairHi : Option (Nat × W24) := none
  /-- DBG_FAILS [R490 16; reset kept, 0 DC12] -/
  fails : W24 := 0
  /-- JTAG instruction in force: 0 BYPASS, 1 IDCODE, 2 SAMPLE/PRELOAD, 3 EXTEST, 4 CLAMP, 5 HIGHZ, 6 DBG_ACCESS [R483 16; reset IDCODE, PRESUMED IEEE 1149.1 20] -/
  ir : Fin 7 := 1
  /-- preloaded boundary register; sampled boundary register [R483 R484 16; reset empty DC20] -/
  preload : List Bool := []
  sampled : List Bool := []
  /-- the debug port's last 16-byte answer [R485 16; reset none] -/
  answer : List Byte := []
  deriving DecidableEq, Repr

/-- The state of the block. -/
structure State where
  /-- commands that wait, first in first out -/
  pending : List Instr := []
  /-- the model's microsecond clock -/
  now : Nat := 0
  /-- the model's counter of free values (log 2), not the spec's -/
  free : Nat := 0
  /-- answer of the last register read or debug read [R497 17] -/
  resp : BusResp := .none
  glb : GlbSt := {}
  clk : ClkSt := {}
  sup : SupSt := {}
  keep : KeepSt := {}
  land : LandSt := {}
  host : HostSt := {}
  ring : RingSt := {}
  sil : SilenceSt := {}
  prm : PrmSt := {}
  txn : TxnSt := {}
  jrn : JrnSt := {}
  log : LogSt := {}
  grd : GuardSt := {}
  twp : TwpSt := {}
  mot : MotionSt := {}
  lift : LiftSt := {}
  door : Vector Door 2 := Vector.replicate 2 {}
  grind : GrindSt := {}
  awn : AwnSt := {}
  husk : HuskSt := {}
  fw : FwSt := {}
  dbg : DbgSt := {}
  deriving DecidableEq, Repr

/-- The block right after the power-on reset, before the cold start (Table 4-2, 04): every field at its default. -/
def State.reset : State := {}

end Sys2Proof.Machine
end

