-- ==== Sys2Proof/Machine/Params.lean ====
section
/-! DEFINITION. The parameter directory (Table 17-3, R502) with the tables of every block: the range, the default, whether a
parameter is live, and whether it is a "Safe point" parameter; the owner of each block (Table 7-1, R185). -/

namespace Sys2Proof.Machine

/-- What a parameter table gives a PID. -/
structure PInfo where
  lo : Int
  hi : Int
  dflt : Int
  live : Bool
  safe : Bool
  deriving DecidableEq, Repr

/-- A live parameter. -/
def pLive (lo hi d : Int) : PInfo := ⟨lo, hi, d, true, false⟩
/-- A non-live parameter that applies at the apply strobe. -/
def pStrobe (lo hi d : Int) : PInfo := ⟨lo, hi, d, false, false⟩
/-- A "Safe point" parameter. -/
def pSafe (lo hi d : Int) : PInfo := ⟨lo, hi, d, false, true⟩

/-- The largest 24-bit value. -/
abbrev m24 : Int := 16777215

/-- Table 3-6 (R74), index in block 0x02. -/
def supTable : List (Nat × PInfo) :=
  [(0x00, pStrobe 28500 60000 28500), (0x01, pStrobe 26500 58000 26500), (0x02, pStrobe 24500 56000 24500),
   (0x03, pStrobe 21000 54000 21000), (0x04, pStrobe 31000 64000 31000), (0x05, pStrobe 60000 85000 85000),
   (0x10, pLive 18000 24000 18000), (0x18, pLive 0 1 0), (0x19, pStrobe 1000 100000 10000),
   (0x1A, pStrobe 2000 5000 3435), (0x1B, pLive (-400) 1250 900), (0x1C, pLive 0 1 0)]

/-- Tables 5-13 and 6-16 (R152, R183), index in block 0x08. -/
def hostParam (k : Nat) : Option PInfo :=
  if k = 0 then some (pLive 50 60000 2000)
  else if k = 1 then some (pLive 0 2 1)
  else if 0x10 ≤ k ∧ k ≤ 0x1D then some (pLive 0 8 2) else none

/-- Table 9-5 (R316): the first half of the indices of axis n. -/
def axisTableA (n : Nat) : List (Nat × PInfo) :=
  [(0x00, pLive 100 (if n = 0 then 4500 else 2000) 1000), (0x01, pLive 0 100 50), (0x02, pLive 1 10000 200),
   (0x03, pLive 0 65535 0), (0x04, pStrobe 0 1 1), (0x05, pSafe 0 1 0), (0x08, pLive 1 m24 51200),
   (0x09, pLive 1 m24 25600), (0x0A, pLive 1 m24 6400), (0x0B, pLive 1 m24 6400), (0x0C, pStrobe 1 m24 64000),
   (0x0D, pLive 0 m24 0), (0x10, pSafe 8 256 64), (0x11, pSafe 4 32 16), (0x12, pSafe 0 15 4), (0x13, pSafe 0 1 0),
   (0x18, pSafe 0 2 0), (0x19, pSafe 1 m24 0x1400), (0x1A, pSafe 0 1 0), (0x1B, pLive 0 65535 0),
   (0x1C, pLive 1 1000 20), (0x1D, pStrobe 0 2 0), (0x1E, pLive 0 255 8)]

/-- Table 9-5 (R316): the second half. `AX_SRC` 1 is refused on axes 0 to 2. -/
def axisTableB (n : Nat) : List (Nat × PInfo) :=
  [(0x20, pStrobe 0 0x1F 0x1F), (0x21, pStrobe 0 0x1F 0x1F), (0x22, pStrobe 0 3 0), (0x23, pStrobe 0 1 0),
   (0x28, pStrobe 0 2 0), (0x29, pStrobe 0 15 0), (0x2A, pStrobe 0 2 0), (0x2B, pStrobe 0 1 1),
   (0x2C, pStrobe (-8388608) 8388607 0), (0x2D, pLive 1 8388607 8388607), (0x2E, pLive 1 m24 12800),
   (0x30, pSafe 0 (if n < 3 then 0 else 1) 0), (0x31, pSafe 0 4 4), (0x32, pLive 256 65535 4096), (0x38, pLive 1 65535 1024)]

/-- Table 11-6 (R367), block 0x20. -/
def liftTable : List (Nat × PInfo) :=
  [(0x00, pSafe 0 1 0), (0x01, pLive 0 2 0), (0x02, pSafe 8 0x1F 0x1F), (0x03, pLive 0 1000 150), (0x04, pLive 0 1000 150),
   (0x05, pLive 1 m24 40000), (0x06, pLive 1 m24 6400), (0x07, pLive 1 m24 6400), (0x08, pSafe 256 65535 2048),
   (0x09, pSafe 1 4095 64), (0x0A, pSafe 1 65535 1024), (0x0B, pLive 1 m24 2560), (0x0C, pLive 0 3600000 0), (0x0D, pSafe 0 11 0)]

/-- Table 11-1 (R344), field k of a landing. -/
def landingTable : List (Nat × PInfo) :=
  [(0, pSafe (-8388608) 8388607 0), (1, pSafe 0 0x1F 0x1F), (2, pSafe (-65535) 0 0), (3, pSafe 0 65535 0), (4, pSafe 0 2 0),
   (5, pLive 1 m24 6400), (6, pLive 0 600000 3000), (7, pLive 0 15 15), (8, pSafe 0 1 0), (9, pSafe 0 1 0)]

/-- Table 12-4 (R384), index k of a door. -/
def doorTable : List (Nat × PInfo) :=
  [(0x00, pSafe 0 1 0), (0x01, pSafe (-8388608) 8388607 0), (0x02, pSafe (-8388608) 8388607 25600), (0x03, pSafe 8 0x1F 0x1F),
   (0x04, pSafe 0 0x1F 0x1F), (0x05, pSafe 0 0x1F 0x1F), (0x06, pSafe 0 0x1F 0x1F), (0x07, pSafe 8 0x1F 0x1F),
   (0x08, pLive 1 m24 25600), (0x09, pLive 1 m24 12800), (0x0A, pLive 100 2000 600), (0x0B, pLive 1 m24 25600),
   (0x0C, pLive 0 600000 5000), (0x0D, pLive 0 15 3), (0x0E, pLive 1 m24 3200), (0x0F, pLive 100 2000 400),
   (0x10, pLive 1 65535 24), (0x11, pLive 1 1000 4), (0x12, pLive 1 15 5)]

/-- Table 13-7 (R411), first half. -/
def grindTableA : List (Nat × PInfo) :=
  [(0x00, pSafe 0 1 0), (0x01, pSafe 1 16 4), (0x02, pSafe 1 10000 100), (0x03, pSafe 1 100000 500),
   (0x04, pSafe 10 1000000 3000), (0x05, pSafe 16000 48000 20000), (0x06, pSafe 6 120 24), (0x07, pSafe 500 100000 5000),
   (0x08, pSafe 0 3 2), (0x09, pSafe 500 50000 10000), (0x0A, pLive 100 50000 8000), (0x0B, pSafe 100 3000 1000),
   (0x0C, pLive 0 65535 500), (0x0D, pLive 0 65535 2000), (0x10, pLive 100 50000 3000), (0x11, pLive 10 2000 200),
   (0x12, pLive 100 50000 4000), (0x13, pLive 10 100000 2000), (0x14, pSafe 10 10000 300), (0x15, pLive 50 5000 1000)]

/-- Table 13-7 (R411), second half. -/
def grindTableB : List (Nat × PInfo) :=
  [(0x18, pSafe 100 90000 3000), (0x19, pLive 100 90000 1200), (0x1A, pLive 10 100000 3000), (0x1B, pLive 10 100000 3000),
   (0x1C, pLive 0 1 0), (0x20, pLive 10 50000 1500), (0x21, pLive 1 1000 40), (0x22, pLive 10 10000 400), (0x23, pLive 1 50 5),
   (0x24, pSafe 10 90000 800), (0x25, pLive 10 10000 500), (0x28, pLive 10 5000 200), (0x29, pLive 0 1 0),
   (0x2A, pLive 100 50000 4000), (0x2B, pLive 30 1440 360), (0x2C, pLive 10 2000 200)]

/-- Table 8-8 (R269, R270): field k of channel c, with the values that R270 refuses left out where they end the range. -/
def fieldParam (c k : Nat) : Option PInfo :=
  if k = 0 then some (if c < 16 then pSafe 0 3 2 else pSafe 0 3 3)
  else if k = 1 then some (pLive 0 65535 1000)
  else if k = 2 then some (pLive 0 1 0)
  else if k = 3 then some (pSafe 0 1 1)
  else if k = 4 then some (pSafe 0 2 0)
  else if k = 5 then some (pSafe 0 4 0)
  else if k = 6 then some (pLive 1 1000 100)
  else if k = 7 then some (pLive 0 1 0) else none

/-- Table 8-9 (R270), block 0x34. -/
def fieldGlobalTable : List (Nat × PInfo) :=
  [(0, pSafe 100 100000 10000), (1, pSafe 0 2 1), (2, pSafe 0 2 1), (3, pLive 500 2500 2000), (4, pLive 500 2500 2000),
   (5, pLive 1 100 5), (6, pSafe 100 2000 2000), (7, pLive 1 1000 10), (8, pLive 1 1000 50)]

/-- Table 10-11 (R340), word k of a rule. -/
def ruleParam (k : Nat) : PInfo := if k = 5 ∨ k = 6 then pSafe 0 0 0 else pSafe 0 m24 0

/-- Table 10-12 (R340), block 0x3C. -/
def guardTable : List (Nat × PInfo) := [(0, pSafe 0 1 0), (1, pSafe 5 500 50), (2, pSafe 100 10000 3000), (3, pSafe 0 0x1FFFF 0x1FFFF)]

/-- Table 14-4 (R431), block 0x40. -/
def twpTable : List (Nat × PInfo) :=
  [(0, pSafe 0 1 0), (1, pSafe 10 10000 500), (2, pSafe 0 15 1), (3, pSafe 0 1 0), (4, pSafe 0 0x77 0), (5, pSafe 0 7 7), (6, pSafe 0 2 0)]

/-- Table 15-6 (R462), block 0x48. -/
def logParam (k : Nat) : Option PInfo :=
  if k = 0 then some (pLive 10 1000 1000)
  else if k = 1 then some (pStrobe 0 7 3)
  else if 0x10 ≤ k ∧ k ≤ 0x2F then
    let c := (k - 0x10) / 2
    if k % 2 = 0 then some (pLive 0 65535 (if c = 14 then 0 else if c = 15 then 16 else 32))
    else some (pLive 1 60000 (if c = 15 then 1000 else 100))
  else none

/-- What the directory gives a PID; none where no table lists it (R501). The table ranges 0x1nC0 and 0x1nC1 and the
identity range are judged by `isTablePid` and `isIdentPid`. -/
def pinfo (pid : Nat) : Option PInfo :=
  let b := pid / 256
  let k := pid % 256
  if b = 0x02 then supTable.lookup k
  else if b = 0x08 then hostParam k
  else if 0x10 ≤ b ∧ b ≤ 0x14 then (axisTableA (b - 0x10) ++ axisTableB (b - 0x10)).lookup k
  else if b = 0x18 then (if k = 0 then some (pSafe 0 2 0) else if k = 1 then some (pSafe 0 1 0) else none)
  else if b = 0x20 then liftTable.lookup k
  else if b = 0x21 then (if k < 0xC0 then landingTable.lookup (k % 16) else none)
  else if b = 0x24 then (if k < 0x80 then doorTable.lookup (k % 0x40) else none)
  else if b = 0x28 then (grindTableA ++ grindTableB).lookup k
  else if b = 0x30 then fieldParam (k / 8) (k % 8)
  else if b = 0x34 then fieldGlobalTable.lookup k
  else if b = 0x38 then some (ruleParam (k % 8))
  else if b = 0x3C then guardTable.lookup k
  else if b = 0x40 then twpTable.lookup k
  else if b = 0x48 then logParam k
  else none

/-- A microstep table range (R293). -/
def isTablePid (pid : Nat) : Bool := 0x10 ≤ pid / 256 && pid / 256 ≤ 0x14 && (pid % 256 = 0xC0 || pid % 256 = 0xC1)
/-- A word of the identity range (R505). -/
def isIdentPid (pid : Nat) : Bool := 0x180 ≤ pid && pid ≤ 0x1DF
/-- A PID that exists (R499, R501). -/
def pidExists (pid : Nat) : Bool := (pinfo pid).isSome || isTablePid pid || isIdentPid pid || pid = 0x1E0

/-- The owner of a block (Table 7-1, R185). -/
def blockOwner (b : Nat) : Nat :=
  if b = 0x01 ∨ b = 0x08 then 0
  else if b = 0x02 then 7
  else if 0x10 ≤ b ∧ b ≤ 0x18 then 1
  else if b = 0x20 ∨ b = 0x21 ∨ b = 0x24 then 2
  else if b = 0x28 then 3
  else if b = 0x30 ∨ b = 0x34 then 8
  else if b = 0x38 ∨ b = 0x3C ∨ b = 0x40 then 4
  else 5

/-- The signed or unsigned number a PID's word stands for: a table with a negative lower bound is signed (R5, R499). -/
def pidNumber (i : PInfo) (v : W24) : Int := if i.lo < 0 then v.int else (v.toNat : Int)

/-- The joint range checks of single values beside the table's range: gaps of channel numbers, R270, R340, R431. -/
def valueGap (pid : Nat) (v : W24) : Bool :=
  let b := pid / 256
  let k := pid % 256
  let n := v.toNat
  if 0x10 ≤ b ∧ b ≤ 0x14 then (k = 0x20 || k = 0x21) && 15 < n && n != 0x1F
  else if b = 0x20 then k = 0x02 && 23 < n && n != 0x1F
  else if b = 0x21 then k % 16 = 1 && 15 < n && n != 0x1F
  else if b = 0x24 then
    let d := k % 0x40
    ((d = 0x03 || d = 0x07) && 23 < n && n != 0x1F) || ((d = 0x04 || d = 0x05 || d = 0x06) && 15 < n && n != 0x1F)
  else if b = 0x30 then
    let c := k / 8
    (k % 8 = 0 && ((16 ≤ c && (n = 1 || n = 2)) || (c < 8 && n = 3))) || (k % 8 = 4 && 24 ≤ c && n = 1) ||
      (k % 8 = 5 && n != 0 && !(c < 4 || (8 ≤ c && c < 12)))
  else if b = 0x38 then
    k % 8 = 0 && (v.extractLsb' 8 2 = 3#2 || v.extractLsb' 5 3 != 0#3 || v.extractLsb' 11 12 != 0#12)
  else if b = 0x40 then k = 4 && 0 < n && n < 8
  else false

/-- A value within its table's range (R196). -/
def inRange (pid : Nat) (v : W24) : Bool :=
  match pinfo pid with
  | none => false
  | some i => i.lo ≤ pidNumber i v && pidNumber i v ≤ i.hi && !valueGap pid v

/-- The default value of a PID. -/
def pidDefault (pid : Nat) : W24 := match pinfo pid with
  | none => 0
  | some i => w24i i.dflt

/-- The committed value of a PID. -/
def State.committed (s : State) (pid : Nat) : W24 := (s.prm.committed.lookup pid).getD (pidDefault pid)
/-- The value in force of a PID (R186, R187). -/
def State.pv (s : State) (pid : Nat) : W24 := (s.prm.live.lookup pid).getD (s.committed pid)
/-- The value in force as a natural number. -/
def State.pn (s : State) (pid : Nat) : Nat := (s.pv pid).toNat
/-- The value in force read as signed. -/
def State.pz (s : State) (pid : Nat) : Int := (s.pv pid).int
/-- The staged value, else the committed one: what a vote and R74 judge. -/
def State.judged (s : State) (pid : Nat) : W24 := (s.txn.staged.lookup pid).getD (s.committed pid)
/-- The judged value as a natural number. -/
def State.jn (s : State) (pid : Nat) : Nat := (s.judged pid).toNat

/-- Whether the flag parameter is set. -/
abbrev State.pb (s : State) (pid : Nat) : Bool := s.pn pid != 0

/-- PID of index k of axis a. -/
abbrev axP (a k : Nat) : Nat := 0x1000 + 256 * a + k
/-- PID of field k of landing n. -/
abbrev ldgP (n k : Nat) : Nat := 0x2100 + 16 * n + k
/-- PID of index k of door d. -/
abbrev drP (d k : Nat) : Nat := 0x2400 + 64 * d + k
/-- PID of field k of channel c. -/
abbrev fldP (c k : Nat) : Nat := 0x3000 + 8 * c + k

/-- A list of (key, value) with one value replaced or added, at most one entry a key. -/
def assocSet {β : Type} (l : List (Nat × β)) (k : Nat) (v : β) : List (Nat × β) :=
  match l with
  | [] => [(k, v)]
  | (a, b) :: t => if a = k then (k, v) :: t else (a, b) :: assocSet t k v

/-- A list without a key. -/
def assocErase {β : Type} (l : List (Nat × β)) (k : Nat) : List (Nat × β) := l.filter (fun p => p.1 != k)

/-- Committed values with one value stored: the default is not listed. -/
def commitSet (l : List (Nat × W24)) (pid : Nat) (v : W24) : List (Nat × W24) :=
  if v = pidDefault pid then assocErase l pid else assocSet l pid v

/-- The live values of an island's parameters give way to the committed ones (R187). -/
def restoreLive (n : Nat) (s : State) : State :=
  { s with prm.live := s.prm.live.filter (fun p => blockOwner (p.1 / 256) != n), prm.due := s.prm.due.filter (fun p => blockOwner (p.1 / 256) != n) }

end Sys2Proof.Machine
end

