-- ==== Sys2Proof/Machine/Flags.lean ====
section
/-! DEFINITION. Code and status-word computations: status codes (Table 6-7), island and guard codes, the cyclic redundancy
checks of R248, R422 and R435, byte orders (R7), and the words that the mirror and the registers show. -/

namespace Sys2Proof.Machine

/-- Table 6-7. -/
def Status.code : Status → Byte
  | .ok => 0x00 | .queued => 0x01 | .deferred => 0x02 | .badOpcode => 0x10 | .badArg => 0x11 | .badPid => 0x12
  | .pidNotLive => 0x13 | .noTxn => 0x14 | .txnOpen => 0x15 | .txnRolledBack => 0x16 | .txnFull => 0x17 | .busy => 0x20
  | .interlock => 0x21 | .notHomed => 0x22 | .shed => 0x23 | .islandHeld => 0x24 | .targetLocked => 0x25
  | .superseded => 0x26 | .authFail => 0x30 | .sealed => 0x31 | .debugLocked => 0x32 | .internal => 0x3F

/-- A status of an accepted command (R166). -/
def Status.accepted : Status → Bool
  | .ok | .queued | .deferred => true
  | _ => false

/-- GLB_ISLANDS codes (R110). -/
def IslState.code : IslState → Nat
  | .off => 0 | .starting => 1 | .run => 2 | .restarting => 3 | .held => 4 | .recovery => 5 | .fault => 6

/-- Table 10-1 codes. -/
def GuardState.code : GuardState → Nat
  | .run => 0 | .restrict => 1 | .safeStop => 2 | .trip => 3 | .lockout => 4

/-- Table 5-6, +36 codes. -/
def TxnState.code : TxnState → Nat
  | .idle => 0 | .opened => 1 | .preparing => 2 | .waiting => 3 | .applying => 4 | .rolledBack => 5

/-- Table 9-3 codes. -/
def AxisState.code : AxisState → Nat
  | .off => 0 | .enabling => 1 | .standstill => 2 | .moving => 3 | .velocity => 4 | .homing => 5 | .stopping => 6
  | .geared => 7 | .external => 8 | .idleOff => 9 | .fault => 10

/-- Table 11-2 codes. -/
def CarState.code : CarState → Nat
  | .notHomed => 0 | .idle => 1 | .dispatch => 2 | .run => 3 | .approach => 4 | .level => 5 | .doorCycle => 6 | .hold => 7 | .fault => 8

/-- Table 12-1 codes. -/
def DoorState.code : DoorState → Nat
  | .closedLocked => 0 | .unlocking => 1 | .opening => 2 | .opened => 3 | .closing => 4 | .reversing => 5 | .nudging => 6
  | .locking => 7 | .fault => 8

/-- Table 13-2 codes. -/
def GrindState.code : GrindState → Nat
  | .disabled => 0 | .stopped => 1 | .align => 2 | .ramp => 3 | .run => 4 | .stopping => 5 | .coast => 6 | .catching => 7
  | .unjam => 8 | .fault => 9

/-- The number of an island (Table 4-1, R78). -/
def islNum : Island → Nat
  | .host => 0 | .motion => 1 | .lift => 2 | .grind => 3 | .guard => 4 | .log => 5 | .link => 6 | .keep => 7 | .field => 8

/-- The number of a firmware island (R489). -/
def fwNum : FwIsland → Nat
  | .host => 0 | .lift => 2 | .grind => 3
/-- The group of a firmware island (R489). -/
def fwIdx : FwIsland → Nat
  | .host => 0 | .lift => 1 | .grind => 2

/-- The number of a die (Table 3-8). -/
def dieNum : Die → Nat
  | .grain => 0 | .spindle => 1 | .husk => 2

/-- The number of a side of the Awn link (Table 8-10). -/
def sideNum : Side → Nat
  | .grain => 0 | .husk => 1

/-- A list truth map as a number, bit i from element i. -/
def bitsOf (l : List Bool) : Nat := l.foldr (fun b n => bit b + 2 * n) 0

/-- One step of a byte-wise CRC-8 (R422), eight bit steps. -/
def crc8Bits : Nat → Byte → Byte
  | 0, c => c
  | n + 1, c => crc8Bits n (if c.msb then (c <<< 1) ^^^ 0x07#8 else c <<< 1)

/-- CRC-8 (R422). -/
def crc8 (l : List Byte) : Byte := l.foldl (fun c b => crc8Bits 8 (c ^^^ b)) 0

/-- Bit steps of the CRC-24 (R248). -/
def crc24Bits : Nat → W24 → W24
  | 0, c => c
  | n + 1, c => crc24Bits n (if c.msb then (c <<< 1) ^^^ 0x864CFB#24 else c <<< 1)

/-- CRC-24 over 24-bit words sent most significant bit first (R245, R248). A 24-bit word is three bytes of the stream. -/
def crc24 (l : List W24) : W24 := l.foldl (fun c w => crc24Bits 24 (c ^^^ w)) 0xB704CE#24

/-- CRC-24 over bytes (R248). -/
def crc24Bytes (l : List Byte) : W24 := l.foldl (fun c b => crc24Bits 8 (c ^^^ ((b.zeroExtend 24 : W24) <<< (16 : Nat)))) 0xB704CE#24

/-- Bit steps of the reflected CRC-32C (R435). -/
def crc32Bits : Nat → W32 → W32
  | 0, c => c
  | n + 1, c => crc32Bits n (if c.getLsbD 0 then (c >>> 1) ^^^ 0x82F63B78#32 else c >>> 1)

/-- CRC-32C (R435). -/
def crc32c (l : List Byte) : W32 := (l.foldl (fun c b => crc32Bits 8 (c ^^^ b.zeroExtend 32)) 0xFFFFFFFF#32) ^^^ 0xFFFFFFFF#32

/-- The n low bytes of a number, least significant first (R7). -/
def leBytes : Nat → Nat → List Byte
  | 0, _ => []
  | n + 1, v => BitVec.ofNat 8 v :: leBytes n (v / 256)

/-- The dwords of a byte list, little-endian (R7). -/
def dwordsOf : List Byte → List W32
  | a :: b :: c :: d :: t => (d ++ c ++ b ++ a : W32) :: dwordsOf t
  | _ => []

/-- The bytes of dwords, little-endian (R7). -/
def bytesOf (l : List W32) : List Byte := l.flatMap (fun w => leBytes 4 w.toNat)

/-- The value a run of bytes stands for, least significant first. -/
def leNat : List Byte → Nat
  | [] => 0
  | b :: t => b.toNat + 256 * leNat t

/-- ESTOP healthy (R325). -/
def State.estopOk (s : State) : Bool := s.grd.estopA && s.grd.estopB && !s.grd.disc

/-- The state of an island by number. -/
def State.isl (s : State) (i : Nat) : IslState := s.glb.isl.toList.getD i .off
/-- The state with an island's state replaced. -/
def State.setIsl (s : State) (i : Nat) (v : IslState) : State := { s with glb.isl := s.glb.isl.setIfInBounds i v }
/-- Whether an island serves: running, in recovery or held by nothing else. -/
def State.islUp (s : State) (i : Nat) : Bool := s.isl i = .run || s.isl i = .recovery

/-- The debug index of an island number: 0 HOST, 1 LIFT, 2 GRIND. -/
def fwOf (i : Nat) : Option (Fin 3) := if i = 0 then some 0 else if i = 2 then some 1 else if i = 3 then some 2 else none
/-- A firmware core halted or halting (R487). -/
def State.haltedIsl (s : State) (i : Nat) : Bool := match fwOf i with
  | none => false
  | some k => s.dbg.halted.getLsbD k || s.dbg.haltReq.getLsbD k

/-- The state that GLB_ISLANDS shows: a halted or halting island shows HELD (R487). -/
def State.islShown (s : State) (i : Nat) : Nat := if s.haltedIsl i then 4 else (s.isl i).code

/-- GLB_ISLANDS (R110). -/
def State.glbIslands (s : State) : W24 := w24 ((List.range 8).foldr (fun i n => s.islShown i * 8 ^ i + n) 0)

/-- Status mirror +16 (Table 5-6). -/
def State.supGuard (s : State) : W24 :=
  w24 (s.sup.level.val + 8 * bit s.sup.overV + 16 * s.grd.st.code + 128 * bit s.sil.active + 256 * bit s.host.sleepReady +
    512 * bit s.estopOk + 1024 * bit s.host.paused)

/-- Status mirror +36 (Table 5-6). -/
def State.txnWord (s : State) : W24 := w24 (s.txn.st.code + 256 * s.txn.id.toNat)

/-- The mirror that the state gives now (Table 5-6). -/
def State.mirrorNow (s : State) : Mirror :=
  { cmdCons := s.ring.cmdCons, cplProd := s.ring.cplProd, evtProd := s.ring.evtProd, supGuard := s.supGuard,
    jrnLo := lo24 s.jrn.head, jrnHi := hi24 s.jrn.head, wake := s.keep.cause.zeroExtend 24, islands := s.glbIslands, txn := s.txnWord }

/-- A bit of a word set or cleared. -/
def setB {n : Nat} (x : BitVec n) (i : Nat) (b : Bool) : BitVec n :=
  if b then x ||| BitVec.twoPow n i else x &&& ~~~ BitVec.twoPow n i

/-- The class position of an event code in the order of Table 6-16 (R183, R447). -/
def classPos (code : Nat) : Nat :=
  ([0x01, 0x02, 0x03, 0x04, 0x10, 0x20, 0x24, 0x28, 0x30, 0x38, 0x40, 0x48, 0x60, 0x78] : List Nat).findIdx (· = code / 256)

/-- The rate class of a record (R447). -/
def rateClass (code sev : Nat) : Nat := if 6 ≤ sev then 14 else if code = 0x4802 then 15 else classPos code

/-- The island that raises an event (R78): ISLAND_RESTARTED and HANDSHAKE_TMO are raised with their own island (R84, R92); LOG loads
the image and repairs the journal (R103, R216), MOTION restores (R105); any other is read from its class (DEDUCED, log 21). -/
def raiser (code : Nat) : Nat :=
  if code = 0x4802 then 0 else if code = 0x0106 || code = 0x0107 || code = 0x0406 then 5 else if code = 0x0108 || code = 0x0109 then 1 else
  match code / 256 with
  | 0x02 => 7 | 0x03 => 0 | 0x10 => 1 | 0x20 => 2 | 0x24 => 2 | 0x28 => 3 | 0x30 => 6 | 0x48 => 5 | 0x60 => 0 | _ => 4

/-- The commanded microstep of an axis: the integer part of its fine position (R280). -/
def Axis.pos (a : Axis) : Int := a.x / 62500000000
/-- The speed of an axis in µstep/s, rounded towards zero. -/
def Axis.speed (a : Axis) : Int := Int.tdiv a.v 1562500

end Sys2Proof.Machine
end

