-- ==== Sys2Proof/Machine/Ops.lean ====
section
/-! DEFINITION. The named operations that every family shares: free values, the event recorder's staging and flush (15), the
rings' entries and interrupts (05, 06), wake causes (05), the journal and the end of a command (07). -/

namespace Sys2Proof.Machine

/-! ### Free values (log 2) -/

/-- The state with the free-value counter advanced. -/
def State.tick (s : State) : State := { s with free := s.free + 1 }
/-- The free word at the present count. -/
def State.freeWord (s : State) : W24 := Config.freeWord s.free
/-- The free truth value at the present count. -/
def State.freeBit (s : State) : Bool := Config.freeBit s.free

/-! ### Interrupts (R142, R143) -/

/-- HOST can master the bus: memory requests allowed in D0 (R116), the level above L4 (R56), the link in L0 or L1. -/
def State.dmaOpen (s : State) : Bool :=
  s.host.cfg.bme && s.host.cfg.mse && !s.host.d3hot && s.sup.level.val < 4 && (s.host.link = .l0 || s.host.link = .l1)

/-- Whether an interrupt message can be sent: memory requests allowed, MSI-X or MSI enabled (R116, R142). -/
def State.irqOpen (s : State) : Bool := s.dmaOpen && (s.host.cfg.msix || s.host.cfg.msi)

/-- The vector of a source (R142). -/
def State.vector (s : State) (src : Nat) : Nat :=
  let v := s.host.vecMap.toNat / 8 ^ src % 8
  if s.host.cfg.msix then v else v % 2 ^ s.host.cfg.msiLog.val

/-- A source of Table 5-8 raised: its message waits for the mirror write that it reports (R143). -/
def sendIrq (src : Nat) (s : State) : State := if s.irqOpen then { s with ring.irqDue := s.ring.irqDue ++ [src] } else s

/-- The message of a source sent, or its pending bit set where MSI-X or MSI masks the vector (R113, R117, R142). -/
def putIrq (src : Nat) (s : State) : State :=
  let v := s.vector src
  if s.host.cfg.msix then
    (if s.host.cfg.fnMask || (s.host.msix.toList.getD v {}).masked then { s with host.pba := setB s.host.pba v true }
     else { s with ring.irqs := (src, v) :: s.ring.irqs })
  else if s.host.cfg.msiMask.getLsbD v then { s with host.msiPend := setB s.host.msiPend v true }
  else { s with ring.irqs := (src, v) :: s.ring.irqs }

/-- Source 0 or 1 with moderation (R143); an urgent one bypasses it (Table 6-3). -/
def irqMod (evt urgent : Bool) (s : State) : State :=
  if urgent || s.host.irqMod = 0 then sendIrq (if evt then 1 else 0) s
  else if evt then
    (if s.ring.modEvt then { s with ring.heldEvt := true } else sendIrq 1 { s with ring.modEvt := true })
  else (if s.ring.modCpl then { s with ring.heldCpl := true } else sendIrq 0 { s with ring.modCpl := true })

/-! ### The event ring (06) -/

/-- The size of a ring from its field of HST_RING_SIZE: 0 command, 1 completion, 2 event (R154). -/
def State.ringLog (s : State) (k : Nat) : Nat := s.host.ringSize.toNat / 16 ^ k % 16
/-- The entries a ring holds (R154). -/
def State.ringEntries (s : State) (k : Nat) : Nat := 2 ^ s.ringLog k

/-- The phase bit of an index (R157). -/
def phaseOf (n : Nat) (i : W24) : Bool := !i.getLsbD n

/-- Free entries of the event ring (R160). -/
def State.evtFree (s : State) : Nat := s.ringEntries 2 - (s.ring.evtProd - s.ring.evtCons).toNat
/-- Free entries of the completion ring (R159). -/
def State.cplFree (s : State) : Nat := s.ringEntries 1 - (s.ring.cplProd - s.ring.cplCons).toNat

/-- One event entry written at the producer index (Table 6-5). -/
def putEvt (code : W16) (sev : Nat) (seq w2 w3 : W32) (urgent : Bool) (s : State) : State :=
  let i := s.ring.evtProd
  irqMod true urgent
    { s with ring.evts := ⟨i, code, sev, seq, w2, w3, phaseOf (s.ringLog 2) i⟩ :: s.ring.evts, ring.evtProd := i + 1 }

/-- An entry written while two are free, else counted (R160). -/
def placeEvt (code : W16) (sev : Nat) (seq w2 w3 : W32) (urgent : Bool) (s : State) : State :=
  if 2 ≤ s.evtFree then putEvt code sev seq w2 w3 urgent s else { s with ring.evtMissed := s.ring.evtMissed + 1 }

/-- An event for the ring: placed while HOST posts (R124, R480); while the rings run with DMA closed it waits behind the entries that
wait already (R116, log 57). -/
def postEvt (code : W16) (sev : Nat) (seq w2 w3 : W32) (urgent : Bool) (s : State) : State :=
  if !(s.host.run && s.host.running && !s.host.paused) then s
  else if s.dmaOpen then placeEvt code sev seq w2 w3 urgent s
  else { s with ring.waiting := s.ring.waiting ++ [.evt code sev seq w2 w3 urgent] }

/-! ### The recorder's staging (R437 to R449) -/

/-- The latest retained record with a code that is stored, or sequence 0 (R449). -/
def lastStored (l : List (Nat × Rec)) (code : W16) : Nat := l.foldl (fun m p => if p.2.code = code then max m p.2.seq else m) 0

/-- A record with its repeat count raised by one (R434, Table 15-2 bit 1). -/
def Rec.again (r : Rec) : Rec :=
  if r.repeats = 65535 then { r with flags := r.flags ||| 2 } else { r with repeats := r.repeats + 1 }

/-- The stored records with the repeat count of one sequence raised. -/
def againStored (l : List (Nat × Rec)) (seq : Nat) : List (Nat × Rec) :=
  l.map (fun p => if p.2.seq = seq then (p.1, p.2.again) else p)

/-! ### The event-log window (R452 to R454) -/

/-- The retained records, stored and staged, each with whether it is staged. -/
def State.retained (s : State) : List (Rec × Bool) :=
  s.log.keep.map (fun p => (p.2, false)) ++ s.log.roll.map (fun p => (p.2, false)) ++ s.log.staged.map (fun r => (r, true))

/-- The retained record with the lowest sequence at or above a bound. -/
def lowestFrom (l : List (Rec × Bool)) (q : Nat) : Option (Rec × Bool) :=
  l.foldl (fun m p => if p.1.seq < q then m else match m with
    | none => some p
    | some r => if p.1.seq < r.1.seq then some p else some r) none

/-- The n retained records from a sequence on, in sequence order. -/
def runFrom (l : List (Rec × Bool)) : Nat → Nat → List (Option (Rec × Bool))
  | 0, _ => []
  | n + 1, q => match lowestFrom l q with
    | none => List.replicate (n + 1) none
    | some r => some r :: runFrom l n (r.1.seq + 1)

/-- The sequence that LOG_CURSOR resolves to (R453): none where there is none of 1 or more. -/
def State.winStart (s : State) : Option Nat :=
  let h := s.log.head + 1
  let back := (h + 16777216 - s.log.cursor.toNat % 16777216) % 16777216
  if back < h then some (h - back) else none

/-- The eight slots of the event-log window (R452, R453). -/
def State.window (s : State) : List (Option (Rec × Bool)) :=
  if s.log.seqMode then
    (match s.winStart with
     | none => List.replicate 8 none
     | some q => runFrom s.retained 8 q)
  else (List.range 8).map (fun k =>
    let i := (s.log.cursor.toNat + k) % 8192
    ((if i < 1024 then s.log.keep else s.log.roll).lookup i).map (fun r => (r, false)))

/-- LOG_WIN_GEN counts a change of what the window shows (R454). -/
def bumpWin (old s : State) : State := if old.window = s.window then s else { s with log.winGen := s.log.winGen + 1 }

/-! ### Staging -/

/-- Burst of a rate class (R448). -/
def State.burst (s : State) (c : Nat) : Nat := s.pn (0x4810 + 2 * c)

/-- Whether LOG takes records: it runs. -/
def State.logUp (s : State) : Bool := s.isl 5 = .run

/-- A record put into the staging buffer under the next sequence; the reservation moves on (R437, R438); the memory is
marked unclean (R72). -/
def stageAt (code : W16) (sev isl : Nat) (flags : Byte) (w0 w1 w2 w3 : W24) (s : State) : State :=
  let q := s.log.head + 1
  bumpWin s { s with
    log.head := q
    log.reserve := if s.log.reserve < q then s.log.reserve + 64 else s.log.reserve
    log.clean := false
    log.staged := s.log.staged ++ [{ seq := q, code := code, sev := sev, isl := isl, flags := flags, w0 := w0, w1 := w1, w2 := w2, w3 := w3 }]
    ring.pauseRecs := if s.host.paused then s.ring.pauseRecs + 1 else s.ring.pauseRecs }

/-- A record that LOG does not take: counted while LOG restarts (R445), held for the next start while LOG is in reset (R76, log 67). -/
def unstaged (code : W16) (sev isl : Nat) (w0 w1 : W24) (s : State) : State :=
  if s.isl 5 = .restarting then { s with log.overflow := s.log.overflow + 1 } else { s with keep.late := s.keep.late ++ [⟨code, sev, isl, w0, w1⟩] }

/-- The recorder's answer to a record: staged with or without a token, counted as a repeat, or counted as not staged
(R445, R448, R449). The number is the sequence, 0 if no record was staged. -/
def stage (code : W16) (sev isl : Nat) (flags : Byte) (w0 w1 w2 w3 : W24) (s : State) : Nat × State :=
  if !s.logUp then (0, unstaged code sev isl w0 w1 s)
  else
    let c := rateClass code.toNat sev
    let full : Bool := 64 ≤ s.log.staged.length
    let ovf : State := { s with log.overflow := s.log.overflow + 1 }
    let tok := s.log.tokens.toList.getD c 0
    if s.burst c = 0 then (if full then (0, ovf) else (s.log.head + 1, stageAt code sev isl flags w0 w1 w2 w3 s))
    else if 0 < tok then
      (if full then (0, ovf)
       else (s.log.head + 1, stageAt code sev isl flags w0 w1 w2 w3 { s with log.tokens := s.log.tokens.setIfInBounds c (tok - 1) }))
    else if s.log.staged.any (fun r => r.code = code) then
      let last := s.log.staged.foldl (fun m r => if r.code = code then max m r.seq else m) 0
      (0, bumpWin s { s with log.staged := s.log.staged.map (fun r => if r.seq = last then r.again else r) })
    else
      let k := max (lastStored s.log.keep code) (lastStored s.log.roll code)
      if k = 0 then (if full then (0, ovf) else (s.log.head + 1, stageAt code sev isl (flags ||| 4) w0 w1 w2 w3 s))
      else (0, bumpWin s { s with log.keep := againStored s.log.keep k, log.roll := againStored s.log.roll k })

/-- Whether the event ring admits an event (R182). -/
def State.admits (s : State) (code : W16) (sev : Nat) : Bool := s.ring.minSev.toList.getD (classPos code.toNat) 8 ≤ sev

/-- An event: recorded, and posted as R182 admits, without the flush triggers. -/
def raiseCore (code : W16) (sev isl : Nat) (w0 w1 w2 w3 : W24) (s : State) : State :=
  let p := stage code sev isl 0 w0 w1 w2 w3 s
  let t := p.2
  if t.admits code sev then postEvt code sev (BitVec.ofNat 32 p.1) (w0.zeroExtend 32) (w1.zeroExtend 32) false t else t

/-! ### Wake causes and attention (R146 to R148, R428) -/

/-- Whether a latched and enabled cause calls for a wake (R148). -/
def State.wakeDue (s : State) : Bool := s.keep.cause &&& s.keep.wakeEn != 0#6

/-- A wake cause latched in KEEP: HOST_WAKE, and PM_PME in D3hot (R144, R146). A cause latched before D3hot is entered, or before PME_En
is set, sends no PM_PME (DESIGN CHOICE, log 97). The pin follows in `sync`. -/
def wake (bitNo : Nat) (s : State) : State :=
  let c := setB s.keep.cause bitNo true
  let t : State := { s with keep.cause := c, keep.since := setB s.keep.since bitNo true,
                            host.pmePending := s.host.pmePending || (s.host.d3hot && s.host.cfg.pmeEn && s.keep.wakeEn.getLsbD bitNo) }
  raiseCore 0x030B 3 0 (c.zeroExtend 24) (s.keep.wakeEn.zeroExtend 24) 0 0 t

/-- An attention cause: pending when enabled (R428). -/
def attention (bitNo : Nat) (s : State) : State :=
  if s.pn 0x4004 != 0 && (s.pv 0x4005).getLsbD bitNo then { s with twp.attPend := setB s.twp.attPend bitNo true } else s

/-- A bit of LOG_CRIT set; its change from 0 wakes and calls the supervisor (R450, R451). -/
def setCrit (bitNo : Nat) (s : State) : State :=
  if s.log.crit.getLsbD bitNo then s
  else attention 2 (wake 4 { s with log.crit := setB s.log.crit bitNo true })

/-! ### Placement and flush (R440 to R446) -/

/-- The lowest index from `i`, within `fuel` indices, that is neither listed in the sorted `used` nor in `bad`. -/
def firstFree (bad : List Nat) : Nat → Nat → List Nat → Option Nat
  | 0, _, _ => none
  | n + 1, i, [] => if bad.contains i then firstFree bad n (i + 1) [] else some i
  | n + 1, i, u :: us =>
    if u = i then firstFree bad n (i + 1) us
    else if bad.contains i then firstFree bad n (i + 1) (u :: us) else some i

/-- A slot written in the list of filled slots, rising index. -/
def putSlot (l : List (Nat × Rec)) (i : Nat) (r : Rec) : List (Nat × Rec) :=
  match l with
  | [] => [(i, r)]
  | (j, x) :: t => if j = i then (i, r) :: t else if i < j then (i, r) :: (j, x) :: t else (j, x) :: putSlot t i r

/-- The ROLL slot whose record has the lowest sequence among those of severity at most `sev` (R442). -/
def victim (l : List (Nat × Rec)) (sev : Nat) : Option (Nat × Nat) :=
  l.foldl (fun m p => if sev < p.2.sev then m else match m with
    | none => some (p.1, p.2.seq)
    | some q => if p.2.seq < q.2 then some (p.1, p.2.seq) else some q) none

/-- Where a record goes: none means it is dropped (R441, R442). -/
def State.slotFor (s : State) (r : Rec) : Option Nat :=
  let k := if s.pn 0x4801 ≤ r.sev then firstFree s.log.badSlots 1024 0 (s.log.keep.map Prod.fst) else none
  match k with
  | some i => some i
  | none => match firstFree s.log.badSlots 7168 1024 (s.log.roll.map Prod.fst) with
    | some i => some i
    | none => (victim s.log.roll r.sev).map Prod.fst

/-- KEEP slots still empty and usable. -/
def State.keepOpen (s : State) : Bool := (firstFree s.log.badSlots 1024 0 (s.log.keep.map Prod.fst)).isSome

/-- One record written, with the slots in `bad` failing their read-back twice (R446). -/
def writeRec (r : Rec) : Nat → List Nat → State → State
  | fuel, bad, s =>
    match s.slotFor r with
    | none =>
      setCrit 1 { s with log.drops := s.log.drops.setIfInBounds r.sev (satInc (s.log.drops.toList.getD r.sev 0)) }
    | some i =>
      match fuel with
      | 0 => s
      | n + 1 =>
        if bad.contains i then
          writeRec r n bad (raiseCore 0x4807 7 5 (w24 i) 0 0 0 (setCrit 5 { s with
            log.badSlots := i :: s.log.badSlots
            log.keep := s.log.keep.filter (fun p => p.1 != i), log.roll := s.log.roll.filter (fun p => p.1 != i) }))
        else
          let t : State := if i < 1024 then { s with log.keep := putSlot s.log.keep i r } else { s with log.roll := putSlot s.log.roll i r }
          let t := if s.keepOpen && !t.keepOpen then raiseCore 0x4804 3 5 (w24 r.seq) 0 0 0 t else t
          if r.sev = 7 then setCrit 0 t else t

/-- Whether a record may be written now: during a clear only those below the reserved sequence (R458). -/
def State.writable (s : State) (r : Rec) : Bool := match s.log.clear with
  | none => true
  | some c => r.seq < c.reserved

/-- The staged records that may be written, written in sequence order. -/
def drain (bad : List Nat) (s : State) : State :=
  (s.log.staged.filter s.writable).foldl (fun u r =>
    bumpWin u (writeRec r (bad.length + 1) bad { u with log.staged := u.log.staged.erase r })) s

/-- LOG_STAGE_OVERFLOW with the count of the records not staged, once it can be staged itself (R445). -/
def reportOverflow (s : State) : State :=
  if s.log.overflow = 0 || 64 ≤ s.log.staged.length then s
  else setCrit 2 (raiseCore 0x4805 6 5 (sat24 s.log.overflow) 0 0 0 { s with log.overflow := 0 })

/-- The sequences of the stored severity-7 records. -/
def LogSt.sevens (l : LogSt) : List Nat := ((l.keep ++ l.roll).filter (fun p => p.2.sev = 7)).map (fun p => p.2.seq)

/-- A flush (R443): the staged records written, the overflow reported (R445), and the records that this staged written too. Interrupt
source 4 is raised once where a severity-7 record was written or a record dropped (R451). -/
def flushBad (bad : List Nat) (s : State) : State :=
  if !s.logUp then s else
  let v := drain bad (drain bad (reportOverflow (drain bad s)))
  if v.log.sevens.any (fun q => !s.log.sevens.contains q) || v.log.drops != s.log.drops then sendIrq 4 v else v

/-- A flush with every slot sound. -/
def flush (s : State) : State := flushBad [] s

/-- The flush triggers of a record (Table 15-3): 32 records staged, or one of severity 5 or higher staged since `old`. -/
def flushOn (sev : Nat) (old s : State) : State :=
  if (5 ≤ sev && s.log.head != old.log.head) || 32 ≤ s.log.staged.length then flush s else s

/-- An event raised by an island: recorded, posted, and flushed where Table 15-3 says (R182, R443). -/
def raiseBy (isl : Nat) (code : W16) (sev : Nat) (w0 w1 : W24) (s : State) : State := flushOn sev s (raiseCore code sev isl w0 w1 0 0 s)

/-- An event raised by the island that its code names. -/
def raise (code : W16) (sev : Nat) (w0 w1 : W24) (s : State) : State := raiseBy (raiser code.toNat) code sev w0 w1 s

/-- An event with four payload words. -/
def raise4 (code : W16) (sev : Nat) (w0 w1 w2 w3 : W24) (s : State) : State :=
  flushOn sev s (raiseCore code sev (raiser code.toNat) w0 w1 w2 w3 s)

/-- A record that LOG writes at a start for an event before it (Table 15-2 bit 0), posted to no ring. -/
def lateRec (code : W16) (sev : Nat) (w0 w1 : W24) (s : State) : State :=
  flushOn sev s (stage code sev (raiser code.toNat) 1 w0 w1 0 0 s).2

/-! ### The journal and completions (R166, R167, R212 to R215) -/

/-- A journal entry appended; the oldest falls out of the ring of 4,096 (R212). -/
def journal (op flags : Byte) (tag : W32) (txn : W16) (atStart : Bool) (st : Status) (b : JBody) (s : State) : State :=
  let q := s.jrn.head + 1
  { s with jrn.head := q, jrn.entries := (⟨q, op, flags, tag, txn, atStart, st, b⟩ :: s.jrn.entries).take 4096 }

/-- The flags byte of a descriptor (dword 0 bits 15:8). -/
def dFlags (d : Desc) : Byte := d.d0.extractLsb' 0 8
/-- FENCE. -/
def dFence (d : Desc) : Bool := d.d0.getLsbD 0
/-- TXN. -/
def dTxn (d : Desc) : Bool := d.d0.getLsbD 1
/-- SILENT. -/
def dSilent (d : Desc) : Bool := d.d0.getLsbD 2
/-- URGENT. -/
def dUrgent (d : Desc) : Bool := d.d0.getLsbD 3
/-- The transaction id field. -/
def dTxnId (d : Desc) : W16 := d.d2.extractLsb' 0 16

/-- URGENT in a flags byte. -/
def urgentFlag (f : Byte) : Bool := f.getLsbD 3

/-- A completion written at the producer index (Table 6-4). -/
def putCpl (op : Byte) (tag : W32) (urgent : Bool) (st : Status) (jseq : W32) (result : W24) (extra : Byte) (s : State) : State :=
  let i := s.ring.cplProd
  irqMod false urgent
    { s with ring.cpl := ⟨i, tag, st, op, jseq, result, extra, phaseOf (s.ringLog 1) i⟩ :: s.ring.cpl, ring.cplProd := i + 1 }

/-- A completion, unless SILENT holds back one of an accepted command (R164). HOST posts it while it runs or stops; with DMA closed
it waits (R116, log 57). -/
def postCpl (op : Byte) (d : Desc) (st : Status) (jseq : Nat) (result : W24) (extra : Byte) (s : State) : State :=
  if ((dSilent d) && st.accepted) || !s.host.running then s
  else if s.dmaOpen then putCpl op d.tag (dUrgent d) st (BitVec.ofNat 32 jseq) result extra s
  else { s with ring.waiting := s.ring.waiting ++ [.cpl op d.tag (dUrgent d) st (BitVec.ofNat 32 jseq) result extra] }

/-- An entry that waited, written now. -/
def HeldEntry.post (s : State) : HeldEntry → State
  | .cpl op tag urgent st jseq result extra => putCpl op tag urgent st jseq result extra s
  | .evt code sev seq w2 w3 urgent => placeEvt code sev seq w2 w3 urgent s

/-- The entries that waited for DMA written in their order once it is open (R116, log 57). -/
def postWaiting (s : State) : State :=
  if s.dmaOpen && s.host.running then s.ring.waiting.foldl HeldEntry.post { s with ring.waiting := [] } else s

/-- A refused command: a completion with journal sequence 0, nothing else (R166). -/
def refuse (op : Byte) (d : Desc) (st : Status) (extra : Byte) (s : State) : State := postCpl op d st 0 0 extra s

/-- The command entry of an accepted command (R214). -/
def jrnCmd (op : Byte) (d : Desc) (st : Status) (s : State) : State :=
  journal op (dFlags d) d.tag (dTxnId d) false st (.command d.d3 d.d4 d.d5) s

/-- An accepted command that completes OK at decode (R166, R214, R26): journal entry, then completion. -/
def acceptOk (op : Byte) (d : Desc) (result : W24) (extra : Byte) (s : State) : State :=
  let t := jrnCmd op d .ok s
  postCpl op d .ok t.jrn.head result extra t

/-- The reference of the command that the next journal entry accepts. -/
def State.nextRef (s : State) (op : Byte) (d : Desc) : Ref := ⟨s.jrn.head + 1, d.tag, op, (dFlags d), (dTxnId d)⟩

/-- An accepted command with a later outcome: journal entry, completion, and it stands among those without a final outcome. -/
def acceptRun (op : Byte) (d : Desc) (st : Status) (result : W24) (extra : Byte) (s : State) : State :=
  let r := s.nextRef op d
  let t := jrnCmd op d st s
  postCpl op d st t.jrn.head result extra { t with ring.outstanding := t.ring.outstanding ++ [r] }

/-- CMD_DONE posted whatever the minimum of its class (R182, Table 6-6). -/
def putDone (r : Ref) (st : Status) (result : W24) (s : State) : State :=
  postEvt 0x0310 1 0 r.tag ((result.extractLsb' 0 16 : BitVec 16) ++ r.op ++ st.code) (urgentFlag r.flags) s

/-- The final outcome of a command: its outcome entry, then CMD_DONE, held while a HOST activation pauses the ring (R167,
R214, R480). A command that has its outcome already takes no second one. -/
def finishC (cause : Byte) (r : Ref) (st : Status) (result : W24) (extra : Byte) (s : State) : State :=
  if s.ring.outstanding.contains r then
    let t := journal r.op r.flags r.tag r.txn false st (.outcome r.jseq result extra cause) s
    let t : State := { t with ring.outstanding := t.ring.outstanding.erase r }
    if t.host.paused then { t with ring.heldDone := t.ring.heldDone ++ [(r, st, result)] } else putDone r st result t
  else s

/-- The final outcome of a command without a rollback cause. -/
def finish (r : Ref) (st : Status) (result : W24) (extra : Byte) (s : State) : State := finishC 0 r st result extra s

/-- The final outcome of several commands. -/
def finishAll (l : List Ref) (st : Status) (result : W24) (extra : Byte) (s : State) : State :=
  l.foldl (fun t r => finish r st result extra t) s

/-! ### What every command ends with -/

/-- The state of FIELD that GLB_FIELD_STATE shows (R110), as LINK knows it: OFF without frames, RUN once the handshake has ended
with CONFIGURED set, RESTARTING from a found restart until then, else STARTING (DESIGN CHOICE, log 90). -/
def State.fieldState (s : State) : IslState :=
  if !s.awn.hears then .off else if s.awn.up && s.awn.configured then .run else if s.awn.restarted then .restarting else .starting

/-- FAULT_N (R102). -/
def State.faultNow (s : State) : Bool :=
  s.glb.step.val < 7 || s.grd.st = .trip || s.sup.shutdown != 0#3 || s.fieldState = .restarting ||
    (List.range 8).any (fun i => s.islShown i = 3 || s.islShown i = 4 || s.islShown i = 6)

/-- When the next mirror write may leave: 10 µs after the one before it (R132). -/
def State.mirrorTime (s : State) : Nat := match s.ring.mirrorAt with
  | none => s.now
  | some t => max s.now (t + 10)

/-- The status mirror written: one more heartbeat (R131, R132). A write that a rule demands leaves once its 10 µs have passed; the
step includes that wait (DEDUCED, log 102). -/
def writeMirror (s : State) : State :=
  { s with ring.mirror := s.mirrorNow, ring.mirrorBeat := s.ring.mirrorBeat + 1, ring.mirrorAt := some s.mirrorTime }

/-- Whether the mirror can be written: running and DMA allowed; a paused ring still gets its mirror (R480). -/
def State.mirrorOpen (s : State) : Bool := s.host.running && s.dmaOpen

/-- A field of the mirror has changed since it was written. -/
def State.mirrorStale (s : State) : Bool := s.mirrorOpen && s.mirrorNow != s.ring.mirror

/-- The mirror written when a field has changed, no more than once every 10 µs (R132). -/
def mirrorSync (s : State) : State := if s.mirrorStale && s.mirrorTime = s.now then writeMirror s else s

/-- The mirror written because a rule demands it. -/
def mirrorNowSent (s : State) : State := if s.mirrorOpen then writeMirror s else s

/-- The interrupt messages that are due, sent once the mirror shows what they report (R143). -/
def sendDue (s : State) : State :=
  if s.mirrorStale || s.ring.irqDue.isEmpty then s
  else s.ring.irqDue.foldl (fun t k => if t.irqOpen then putIrq k t else t) { s with ring.irqDue := [] }

/-- PE_WAKE_N driven low (R148). It is released when the link reaches L0, and while RESET_N is low (R32). -/
def State.wakeNow (s : State) : Bool :=
  s.land.resetN && (s.keep.wakeN || (s.wakeDue && (s.host.link = .down || s.host.link = .l23)))

/-- The lands, the mirror and the interrupts that follow from the state after a command (R32, R102, R132, R143, R148). -/
def sync (s : State) : State :=
  sendDue (mirrorSync { s with glb.faultN := s.faultNow, keep.wakeN := s.wakeNow })

/-- A command's next state. -/
def done (s : State) : Host.Outcome State Fault Refusal := .next (sync s)

/-- A next state, or the state unchanged where the event cannot occur. -/
def doneIf (c : Bool) (f : State → State) (s : State) : Host.Outcome State Fault Refusal := if c then done (f s) else .next s

/-! ### Small list helpers -/

/-- Element i of a vector with a default. -/
def vget {α : Type} {n : Nat} (v : Vector α n) (i : Nat) (d : α) : α := v.toList.getD i d
/-- A vector with element i replaced. -/
def vset {α : Type} {n : Nat} (v : Vector α n) (i : Nat) (x : α) : Vector α n := v.setIfInBounds i x
/-- A vector with element i mapped. -/
def vmap {α : Type} {n : Nat} (v : Vector α n) (i : Nat) (d : α) (f : α → α) : Vector α n := v.setIfInBounds i (f (vget v i d))

/-- A count for a payload or register: milliseconds from microseconds. -/
def msOf (us : Nat) : Nat := us / 1000

end Sys2Proof.Machine
end

