-- ==== Sys2Proof/Machine/Operands.lean ====
section
/-! DEFINITION. Descriptor operands: reserved bits, unused arguments, bulk addresses and lengths (R161, R163, R178), axis, door
and channel numbers, and the refusals that stand before every command of an island or a level (R62, R170, R481, R482). -/

namespace Sys2Proof.Machine

/-- The low 24 bits of an argument dword. -/
def arg24 (x : W32) : W24 := x.extractLsb' 0 24
/-- Bits hi:lo of an argument dword as a number. -/
def fld (x : W32) (lo w : Nat) : Nat := (x.extractLsb' lo w).toNat

/-- No bit of a dword outside a mask (R161). -/
def within (x m : W32) : Bool := x &&& ~~~ m = 0#32

/-- The bits an unused argument may hold: none. -/
abbrev m0 : W32 := 0
/-- The bits a 24-bit argument may hold. -/
abbrev mA : W32 := 0x00FFFFFF
/-- The bits a bulk dword may hold. -/
abbrev mB : W32 := 0xFFFFFFFF

/-- The form of a descriptor (R161, R163): reserved flags and bits zero, TXN only where allowed, dword 2 zero unless the
command names a transaction, and no bit of an argument outside its field. -/
def formOk (d : Desc) (txnOk names : Bool) (m3 m4 m5 m6 m7 : W32) : Bool :=
  (d.d0 &&& 0xFFFFF0#24 = 0#24) && (txnOk || !dTxn d) && (d.d2.extractLsb' 16 16 = 0#16) &&
    (names || (txnOk && dTxn d) || d.d2 = 0#32) &&
    within d.d3 m3 && within d.d4 m4 && within d.d5 m5 && within d.d6 m6 && within d.d7 m7

/-- The bulk address (Table 6-2). -/
def bulkAddr (d : Desc) : BitVec 64 := d.d6 ++ d.d5
/-- The bulk length in bytes. -/
def bulkLen (d : Desc) : Nat := d.d7.toNat
/-- A bulk address and length that R178 allows, with the command's minimum and multiple. -/
def bulkOk (d : Desc) (least mult : Nat) : Bool :=
  (bulkAddr d).toNat % 4 = 0 && bulkAddr d != 0#64 && bulkLen d != 0 && bulkLen d % mult = 0 && bulkLen d ≤ 4194304 && least ≤ bulkLen d

/-- The dwords that a bulk read of the whole buffer returns. -/
def bulkWords (d : Desc) : List W32 :=
  let n := bulkLen d / 4
  d.buf.take n ++ List.replicate (n - d.buf.length) 0
/-- The first n bytes of the bulk buffer. -/
def bulkBytes (d : Desc) (n : Nat) : List Byte := (bytesOf (bulkWords d)).take n

/-- HST_DMA_ERR counts a failed read or write, saturating (Table 5-12). -/
def dmaCount (wr : Bool) (s : State) : State :=
  let up (b : Byte) : Byte := if b = 0xFF#8 then b else b + 1
  if wr then { s with host.dmaErrWrite := up s.host.dmaErrWrite } else { s with host.dmaErrRead := up s.host.dmaErrRead }

/-- HOST_DMA_FAULT of a structure, Table 5-14. -/
def dmaEvent (wr : Bool) (structure_ : Nat) (s : State) : State := raise 0x0307 5 (w24 (bit wr)) (w24 structure_) (dmaCount wr s)

/-- A bulk transfer of the command being decoded fails: INTERNAL, extra 1 (R181). -/
def bulkFail (op : Byte) (d : Desc) (wr : Bool) (s : State) : State := refuse op d .internal 1 (dmaEvent wr 5 s)

/-- The level whose refusals apply: an over-voltage counts as L2 at least (R62). -/
def State.effLevel (s : State) : Nat := if s.sup.overV then max 2 s.sup.level.val else s.sup.level.val

/-- The least level at which Table 3-3 refuses an opcode; 6 for never. AXIS_POWER and the field commands are judged with
their arguments. -/
def shedFrom (op : Byte) : Nat :=
  if op = 0x40#8 || op = 0x61#8 then 1
  else if op = 0x30#8 || op = 0x31#8 || op = 0x34#8 || op = 0x35#8 || op = 0x22#8 || op = 0x28#8 || op = 0x29#8 || op = 0x60#8 then 2
  else if op = 0x11#8 then 3 else 6

/-- Whether the level refuses an opcode (R62). -/
def State.sheds (s : State) (op : Byte) : Bool := shedFrom op ≤ s.effLevel

/-- The island that owns an opcode's command (R170): 1 MOTION, 2 LIFT, 3 GRIND, 0 any other. -/
def opOwner (op : Byte) : Nat :=
  if 0x30#8 ≤ op && op ≤ 0x37#8 then 1
  else if 0x20#8 ≤ op && op ≤ 0x2A#8 then 2
  else if op = 0x40#8 || op = 0x41#8 then 3 else 0

/-- The commands that a HOST in RECOVERY or HELD serves (R482). -/
def recoveryOps : List Byte := [0x01, 0x02, 0x08, 0x13, 0x51, 0x60, 0x61, 0x62, 0x5B, 0x68]

/-- Why an island does not take a command: ISLAND_HELD or DEBUG_LOCKED (R170, R471, R481, R482, R487). -/
def State.islandBars (s : State) (op : Byte) : Option Status :=
  let o := opOwner op
  if (s.isl 0 = .recovery || s.isl 0 = .held) && !recoveryOps.contains op then some .islandHeld
  else if o = 1 then (if s.isl 1 = .run then none else some .islandHeld)
  else if o = 2 || o = 3 then
    (if s.haltedIsl o then some .debugLocked else if s.isl o = .run then none else some .islandHeld)
  else none

/-- The refusals that stand before a command's own checks: BAD_ARG for its form, then the island, then the level (R161,
R170, R62; their order is the model's, log 22). -/
def gate (op : Byte) (d : Desc) (form : Bool) (s : State) (k : State → State) : State :=
  if !form then refuse op d .badArg 0 s
  else match s.islandBars op with
    | some st => refuse op d st 0 s
    | none => if s.sheds op then refuse op d .shed 0 s else k s

/-- A permit that the guard grants (Table 10-3). -/
def State.permit (s : State) (i : Nat) : Bool := s.grd.permits.getLsbD i

/-- A transaction runs its commit (Table 7-2). -/
def State.committing (s : State) : Bool := s.txn.st = .preparing || s.txn.st = .waiting || s.txn.st = .applying

/-- An island is touched by the transaction (R185). -/
def State.touches (s : State) (i : Nat) : Bool :=
  s.txn.staged.any (fun p => blockOwner (p.1 / 256) = i) || (i = 1 && !s.txn.tables.isEmpty) || (i = 0 && s.txn.idWords.isSome)

/-- A staged table of the bank that AX_TBL_BANK selects (R292). -/
def State.activeTable (s : State) (a : Nat) : Bool := s.txn.tables.any (fun p => p.1 = a && p.2.1 = s.pb (0x1013 + 256 * a))

/-- The transaction stages a "Safe point" parameter of an axis; for block 0x18, a follower of ENCM or one that stops after it (Table
7-1, R317). -/
def State.axisNeeds (s : State) (a : Nat) : Bool :=
  s.txn.staged.any (fun p => p.1 / 256 = 0x10 + a && (match pinfo p.1 with | some i => i.safe | none => false)) || s.activeTable a ||
    (s.txn.staged.any (fun p => p.1 / 256 = 0x18) && (let x := s.mot.ax.toList.getD a {}
      x.encmStop || (match x.gear with | some g => g.master = 5 | none => false)))

/-- A touched island that waits for its safe point (R198). FIELD waits for its shadow slices whatever is staged (R255). -/
def State.needsSafe (s : State) (i : Nat) : Bool :=
  if i = 8 then s.touches 8
  else s.txn.staged.any (fun p => blockOwner (p.1 / 256) = i && (match pinfo p.1 with | some x => x.safe | none => false)) ||
    (i = 1 && (List.range 5).any s.activeTable)

/-- Whether a committing transaction holds an island at its safe point (R199). -/
def State.heldAtSafe (s : State) (i : Nat) : Bool := s.committing && s.txn.atSafe.getLsbD i && s.needsSafe i
/-- Whether a committing transaction holds an axis at standstill (R199, Table 7-1). -/
def State.axisHeld (s : State) (a : Nat) : Bool := s.heldAtSafe 1 && s.axisNeeds a

/-- The level window or 0x1F channel number of a parameter: none for 0x1F. -/
def State.chan (s : State) (pid : Nat) : Option Nat := if s.pn pid = 0x1F then none else some (s.pn pid)

/-- The debounced state of a field input as received (Table 8-6), off for no channel. -/
def State.input (s : State) (c : Nat) : Bool := s.awn.inputs.getLsbD c
/-- A field input available in the sense of R333. -/
def State.inputOk (s : State) (c : Nat) : Bool := !s.awn.stale && !s.awn.wb.getLsbD c

/-- The permit that gates an output channel (Table 8-1): none for FX. -/
def outPermit (c : Nat) : Option Nat :=
  if 16 ≤ c && c < 24 then some (c - 8) else if 24 ≤ c && c < 28 then some 6 else if 28 ≤ c && c < 32 then some 7 else none
/-- An output may be switched on as far as permits go (R236). -/
def State.outGranted (s : State) (c : Nat) : Bool := match outPermit c with
  | none => true
  | some p => s.permit p

/-- A channel that the lift engine or a door drives: commanded on, as far as its permit goes, or off (R237, R364, R371). -/
def driveOut (c : Option Nat) (on : Bool) (s : State) : State := match c with
  | none => s
  | some k => { s with awn.cmd := setB s.awn.cmd (k - 8) (on && s.outGranted k) }

end Sys2Proof.Machine
end

