-- ==== Sys2Proof/Machine/Axis.lean ====
section
/-! DEFINITION. The axis drives (09): positions and the table index, the profile generator's tick, stops and ramps, stage
power and retention, limits and latches, and the host's axis commands. -/

namespace Sys2Proof.Machine

/-- Units of the fine position in one microstep. -/
abbrev xUnit : Int := 62500000000
/-- Units of speed in one µstep/s. -/
abbrev vUnit : Int := 1562500
/-- Units of acceleration in one count of 16 µstep/s². -/
abbrev aUnit : Int := 1250

/-- An axis by number. -/
def State.axis (s : State) (a : Nat) : Axis := s.mot.ax.toList.getD a {}
/-- The state with an axis mapped. -/
def axMod (a : Nat) (f : Axis → Axis) (s : State) : State := { s with mot.ax := s.mot.ax.setIfInBounds a (f (s.axis a)) }

/-- The owner of an axis (R278, Table 9-3 15:14): 0 the host, 1 the lift engine, 2 a door. -/
def State.owner (s : State) (a : Nat) : Nat :=
  if a = 0 then bit (s.pb 0x2000) else if a = 1 then 2 * bit (s.pb (drP 0 0)) else if a = 2 then 2 * bit (s.pb (drP 1 0)) else 0

/-- The permit that gates an axis (Table 10-3, R279). -/
def axPermit (a : Nat) : Nat := if a = 0 then 0 else if a = 1 then 1 else if a = 2 then 2 else a + 1

/-- An axis that moves: a commanded speed or a running motion (R311). -/
def Axis.moves (x : Axis) : Bool :=
  x.v != 0 || x.move.isSome || (match x.st with
    | .moving | .velocity | .homing | .stopping | .geared => true
    | _ => false)

/-- Standstill as the guard's sources and the lift see it. -/
def Axis.stands (x : Axis) : Bool := !x.moves

/-- Wrapped position (R281). -/
def wrap24 (n : Int) : Int := (w24i n).int
/-- A fine position with its microsteps wrapped to 24 signed bits (R281). -/
def wrapX (n : Int) : Int := n % xUnit + wrap24 (n / xUnit) * xUnit
/-- A difference of fine positions taken modulo 2²⁴ microsteps as signed (R281, R304). -/
def wrapDiff (n : Int) : Int := (n + 8388608 * xUnit) % (16777216 * xUnit) - 8388608 * xUnit
/-- A position as software sees it: 24 bits (R280). -/
def Axis.word (x : Axis) : W24 := w24i x.pos

/-- The table index (R281). -/
def State.index (s : State) (a : Nat) : BitVec 10 :=
  let x := s.axis a
  let p := BitVec.ofInt 10 x.pos
  if s.pb (axP a 0x05) then x.k - p else p + x.k

/-- The position redefined by a shift; the offset k takes the opposite amount so that the index stays (R281). -/
def State.shiftPos (s : State) (a : Nat) (shift : Int) (x : Axis) : Axis :=
  let d := BitVec.ofInt 10 shift
  { x with x := wrapX (x.x + shift * xUnit), k := if s.pb (axP a 0x05) then x.k + d else x.k - d }

/-- The reference pair taken at the present count and position (R302). -/
def Axis.takeRef (x : Axis) : Axis := { x with refE := x.enc, refP := w24i x.pos, dev := 0 }

/-- An encoder is enabled (R301). -/
def State.encOn (s : State) (a : Nat) : Bool := s.pb (axP a 0x18)

/-- A quotient rounded to the nearest integer, halves away from zero. -/
def roundDiv (n d : Int) : Int := if 0 ≤ n then (2 * n + d) / (2 * d) else -((-(2 * n) + d) / (2 * d))

/-- The deviation of R302 against a reference pair, with ratio r in 1/65,536. -/
def State.deviation (s : State) (a : Nat) (e0 p0 : W24) : Int :=
  let x := s.axis a
  (x.enc - e0).int - roundDiv ((s.pn (axP a 0x19) : Int) * (w24i x.pos - p0).int) 65536

/-! ### The set-point of a stage and its chopper (R290, R292, R299, R300) -/

/-- The current that a table amplitude of ±2,047 gives, in 1/100 mA: AX_I_RUN, or the current of a door's closing move (Table 12-1),
scaled by AX_I_HOLD_PCT while hold current is in force (R277, R290). -/
def State.runCurrent (s : State) (a : Nat) : Nat :=
  let x := s.axis a
  let door : Nat := if a = 1 || a = 2 then (vget s.door (a - 1) {}).current else 0
  (if door = 0 then s.pn (axP a 0x00) else door) * (if x.hold then s.pn (axP a 0x01) else 100)

/-- The chopper of a stage: off-time, blanking time and the fast-decay part of the off-time, in units of 3.90625 ns, a sixteenth of
62.5 ns (Table 9-4). During an over-voltage the whole off-time is slow decay (R63, R300). -/
def State.chopper (s : State) (a : Nat) : Nat × Nat × Nat :=
  (16 * s.pn (axP a 0x10), 16 * s.pn (axP a 0x11), if s.sup.overV then 0 else s.pn (axP a 0x10) * s.pn (axP a 0x12))

/-! ### The end of motions -/

/-- What an enabled stage stands in: EXTERNAL where AX_SRC is 1 (R296), else STANDSTILL. -/
def State.standState (s : State) (a : Nat) : AxisState := if 3 ≤ a && s.pb (axP a 0x30) then .external else .standstill

/-- The commands that end with the running motion end with a status (R169). -/
def axEnd (a : Nat) (st : Status) (result : W24) (extra : Byte) (s : State) : State :=
  finishAll (s.axis a).refs st result extra (axMod a (fun x => { x with refs := [] }) s)

/-- The stop commands and the running command of an axis that has come to standstill (R289, R310); the reference pair is
taken again at the end of a stall action (R302). -/
def axStands (a : Nat) (s : State) : State :=
  let x := s.axis a
  let t := axMod a (fun y =>
    let z : Axis := { y with st := if y.stage then s.standState a else .off, v := 0, a := 0, emg := false, still := 0, move := none, gear := none, refs := [], stops := [], endWith := none, encmStop := false, stepTarget := y.word }
    if y.stall then z.takeRef else z) s
  let t := match x.endWith with
    | none => finishAll x.refs .ok (w24i x.pos) 0 t
    | some (st, e) => finishAll x.refs st (if st = .ok then (x.latch.map Prod.fst).getD (w24i x.pos) else 0) e t
  finishAll x.stops .ok 0 0 t

/-- The command of an armed gear switch (R306). -/
def Axis.armedRef (x : Axis) : List Ref := match x.gear with
  | some ⟨_, _, _, _, some (_, _, r), _⟩ => [r]
  | _ => []

/-- A motion stopped on a ramp: it will end with a status at standstill; the gear disengages (R289, R307). AX_DEC is taken as the
deceleration begins (R287); the stop of a position or velocity move keeps the move's jerk (DEDUCED, log 105). -/
def axStop (emg : Bool) (a : Nat) (st : Status) (extra : Byte) (s : State) : State :=
  let x := s.axis a
  if !x.moves then s else
  finishAll x.armedRef st 0 extra <| axMod a (fun y => { y with
    st := .stopping, gear := none, next := none,
    emg := y.emg || emg
    stopDec := if y.st = .stopping then y.stopDec else s.pn (axP a 0x0B)
    stopJerk := if y.st = .stopping then y.stopJerk else (y.move.map Move.jerk).getD 0
    encmStop := y.encmStop || (match y.gear with
      | some g => g.master = 5
      | none => false)
    move := none
    endWith := match y.endWith with
      | some e => some e
      | none => some (st, extra) }) s

/-- Retained state of an axis as it stands (R105, R313). -/
def State.retainNow (s : State) (a : Nat) : Retained :=
  let x := s.axis a
  { index := s.index a, pos := w24i x.pos, bankB := s.pb (axP a 0x13), ratio := s.pv (axP a 0x19), enc := x.enc, crcOk := true }

/-- A stage disabled (R312, R313, R315). At standstill a homed axis with AX_RETAIN is saved; an axis that is not homed loses
any retained state; one that moves is not homed and saves nothing. Its commands end with the status given, an AXIS_POWER that enables
it too (R283, R315). -/
def axDisable (a : Nat) (st : Status) (extra : Byte) (s : State) : State :=
  let x := s.axis a
  let moving : Bool := x.moves
  let save : Bool := x.stage && !moving && x.homed && s.pb (axP a 0x04)
  let lose : Bool := x.stage && (moving || !x.homed)
  let ret : Option Retained := if save then some (s.retainNow a) else if lose then none else vget s.keep.ret a none
  let t : State := { s with keep.ret := s.keep.ret.setIfInBounds a ret, glb.awaiting := if lose then setB s.glb.awaiting a false else s.glb.awaiting }
  let t := axMod a (fun y => { y with
    st := if y.st = .fault then .fault else .off
    homed := if y.stage && moving then false else y.homed
    stage := false, v := 0, a := 0, move := none, gear := none, emg := false, hold := false, next := none
    retained := if save || lose then none else y.retained, fromRam := y.fromRam && !save && !lose
    openA := false, openB := false, refs := [], stops := [], endWith := none, after := none, powerRefs := [], verifying := false
    latchArmed := false, edge := none, encmStop := false, still := 0 }) t
  let e := (x.endWith.getD (st, extra))
  finishAll x.powerRefs st 0 0 (finishAll x.stops .ok 0 0 (finishAll (x.refs ++ x.armedRef) e.1 0 e.2 t))

/-! ### Starting -/

/-- The stage-enable lines are active (R283, R320, R323). -/
def State.linesOn (s : State) : Bool := s.mot.lines

/-- A motion begun: run current restored, stall latch cleared (R282, R311). -/
def axBegin (a : Nat) (st : AxisState) (m : Option Move) (r : List Ref) (s : State) : State :=
  axMod a (fun x => { x with st := st, move := m, refs := r, endWith := none, stall := false, hold := false, still := 0, emg := false, a := if x.v = 0 then 0 else x.a, travel := 0 }) s

/-- The retained state that the next enable uses (R105, R314). -/
def State.retOf (s : State) (a : Nat) : Option Retained := match (s.axis a).retained with
  | some r => some r
  | none => vget s.keep.ret a none

/-- The retained state of an axis used up. -/
def retUsed (a : Nat) (s : State) : State :=
  axMod a (fun y => { y with retained := none, fromRam := false })
    { s with keep.ret := s.keep.ret.setIfInBounds a none, glb.awaiting := setB s.glb.awaiting a false }

/-- The stage enabled (R283, R314, Table 9-7). With an enabled encoder it waits for AX_VERIFY; otherwise it stands at once, and
an axis restored from retention RAM stays homed with bit 12 until it is homed. -/
def axEnable (a : Nat) (s : State) : State :=
  let wait : Bool := s.encOn a
  let t := axMod a (fun y => ({ y with
    stage := true, hold := true, suspended := false, still := 0
    verifying := wait
    noVerify := y.noVerify || (!wait && y.retained.isSome && y.homed && y.fromRam)
    st := if wait then .enabling else s.standState a
    stepTarget := y.word } : Axis).takeRef) s
  if wait then t else retUsed a t

/-- The AXIS_POWER commands that waited for an enable end (R314). -/
def axPowerDone (a : Nat) (st : Status) (s : State) : State :=
  let x := s.axis a
  let t := axMod a (fun y => { y with powerRefs := [] }) s
  x.powerRefs.foldl (fun u r =>
    if st = .ok && (List.range 5).any (fun b => b != a && (u.axis b).powerRefs.contains r) then u else
    finish r st 0 0 (if st = .ok then u else (List.range 5).foldl (fun w b => axMod b (fun y => { y with powerRefs := y.powerRefs.erase r }) w) u)) t

/-! ### The profile generator (R284 to R289) -/

/-- The speed one tick later of a position move: `v` ≥ 0 and `d` ≥ 0 along the direction, `dec` per tick, `up` the speed the
acceleration or the speed limit allows. It is the largest speed from which the deceleration still stops at the target. -/
def capSpeed (d v dec : Int) : Int :=
  if d < v then 0 else ((Int.ofNat (Nat.sqrt ((dec * dec + 4 * dec * (d - v)).toNat)) - dec) / 2)

/-- A value held within lo and hi. -/
def clampI (lo hi n : Int) : Int := max lo (min hi n)

/-- The next speed without the target: towards `want` by at most `up` or `dn`, never through zero in one tick. -/
def toward (v want up dn : Int) : Int :=
  if v = want then v
  else if 0 ≤ v ∧ 0 ≤ want then (if v < want then min want (v + up) else max want (v - dn))
  else if v ≤ 0 ∧ want ≤ 0 then (if want < v then max want (v - up) else min want (v + dn))
  else if 0 < v then max 0 (v - dn) else min 0 (v + dn)

/-- The largest change of speed in a tick from which jerk `j` brings the acceleration back to zero within `n`. -/
def jerkReach (j n : Int) : Int := if n ≤ j then n else (Int.ofNat (Nat.sqrt ((j * j + 8 * j * n).toNat)) - j) / 2

/-- The change of speed limited by jerk: the acceleration changes by at most `j` a tick, none for j = 0 (R284), and is back at
zero when the speed still to come, `togo`, has come. -/
def jerked (j a dv togo : Int) : Int :=
  if j = 0 then dv else
  let lim := jerkReach j togo.natAbs
  clampI (a - j) (a + j) (clampI (-lim) lim dv)

/-- The distance in which a speed with no acceleration stops on `dec`, with jerk `j` at both ends. -/
def rampStop (dec j v : Int) : Int :=
  if dec * dec ≤ v * j then v * v / dec + v * dec / j else 2 * Int.ofNat (Nat.sqrt ((v * v * v / j).toNat))

/-- The same from speed `v` with acceleration `a`: the speed with no acceleration that the present one comes from or leads to. -/
def stopDist (dec j v a : Int) : Int :=
  let top := v + a * a / (2 * j)
  let e := 2 * (a.natAbs : Int) * (top - a * a / (6 * j)) / j
  rampStop dec j top + (if 0 ≤ a then e else -e)

/-- One tick of a position move towards `goal` in fine units (R284): it never passes the goal and never reverses. With jerk it
speeds up or keeps its speed while it can still stop, else it slows down. -/
def posTick (goal : Int) (m : Move) (x : Axis) : Axis :=
  let d := (goal - x.x) * m.dir
  let v := x.v * m.dir
  let a := x.a * m.dir
  let dec := max 1 ((m.dec : Int) * aUnit)
  let j : Int := m.jerk
  let top := (m.speed : Int) * vUnit
  let dv := toward v top ((m.acc : Int) * aUnit) dec - v
  let up := jerked j a dv (top - v)
  let v1 := v + (if j = 0 then dv
    else if 0 ≤ v + up ∧ stopDist dec j (v + up) up + 2 * v + up ≤ d then up
    else clampI (a - j) (a + j) (-dec))
  let cap := capSpeed d v dec
  let v2 := min (max 0 v1) cap
  if d ≤ 0 ∨ cap ≤ 0 ∨ (v = 0 ∧ v2 = 0) then { x with x := goal, v := 0, a := 0 }
  else { x with x := x.x + (v + v2) * m.dir, v := v2 * m.dir, a := if v2 = 0 then 0 else (v2 - v) * m.dir }

/-- One tick of a velocity move (R288); positions wrap (R281). -/
def velTick (m : Move) (x : Axis) : Axis :=
  let want := (m.speed : Int) * vUnit * m.dir
  let v2 := x.v + jerked m.jerk x.a (toward x.v want ((m.acc : Int) * aUnit) ((m.dec : Int) * aUnit) - x.v) (want - x.v)
  { x with x := wrapX (x.x + x.v + v2), v := v2, a := v2 - x.v }

/-- One tick of a stop on the deceleration given (R289), with its jerk, 0 on the emergency ramp. It does not reverse. -/
def stopTick (dec jerk : Nat) (x : Axis) : Axis :=
  let v1 := x.v + jerked jerk x.a (toward x.v 0 0 ((dec : Int) * aUnit) - x.v) (-x.v)
  let v2 := if v1 * x.v ≤ 0 then 0 else v1
  { x with x := wrapX (x.x + x.v + v2), v := v2, a := v2 - x.v }

/-- A tick in which a follower moves towards `goal` within speed and acceleration, the goal itself moving at `vg` (R305). Its speed
relative to the goal is the largest from which it still comes to rest against it without passing it (DESIGN CHOICE, log 106). -/
def followTick (goal vg vmax acc : Int) (x : Axis) : Axis :=
  let d := wrapDiff (goal - x.x)
  let r := d - 2 * vg
  let exact := d - x.v
  let near : Bool := (exact - x.v).natAbs ≤ acc.natAbs && (exact - vg).natAbs ≤ acc.natAbs && exact.natAbs ≤ vmax.natAbs
  let w := capSpeed r.natAbs ((x.v - vg) * r.sign) acc * r.sign
  let v2 := if near then exact else clampI (-vmax) vmax (clampI (x.v - acc) (x.v + acc) (vg + w))
  { x with x := wrapX (x.x + x.v + v2), v := v2, a := v2 - x.v }

/-! ### Gearing (R304 to R307) -/

/-- The master position of a gear: the ENCM count or another axis's commanded position. -/
def State.masterPos (s : State) (m : Nat) : W24 := if m = 5 then s.mot.encM else (s.axis m).word

/-- The speed of a master: an axis's own, or for ENCM that of its last change of count, no faster than one count in the time that
has passed since (DESIGN CHOICE, log 106). -/
def State.masterSpeed (s : State) (m : Nat) : Int :=
  if m = 5 then
    let r := s.mot.encRate
    let v := r.1 * xUnit / (2 * max 1 (r.2 : Int))
    if s.mot.encGap ≤ r.2 then v else clampI (-(xUnit / (2 * s.mot.encGap))) (xUnit / (2 * s.mot.encGap)) v
  else (s.axis m).v

/-- The count of ENCM watched at a tick, for its speed. -/
def encmTick (s : State) : State :=
  let g := s.mot.encGap + 1
  if s.mot.encM = s.mot.encSeen then { s with mot.encGap := g }
  else { s with mot.encRate := ((s.mot.encM - s.mot.encSeen).int, g), mot.encGap := 0, mot.encSeen := s.mot.encM }

/-- F of R304, in microsteps; positions wrap (R281). -/
def gearPos (ratio origin m offset : W24) : W24 := w24i (roundDiv (ratio.int * (m - origin).int) 65536) + offset

/-- Whether following masters from `m` leads back to `f` (R304). -/
def State.gearLoops (s : State) (f : Nat) : Nat → Nat → Bool
  | 0, _ => true
  | n + 1, m => if m = f then true else if m = 5 then false else match (s.axis m).gear with
    | none => false
    | some g => State.gearLoops s f n g.master.val

/-! ### Limits (R308) -/

/-- A limit's level: the channel's debounced state matches its polarity, or the input is STALE or broken. -/
def State.limitOn (s : State) (a side : Nat) : Bool := match s.chan (axP a (0x20 + side)) with
  | none => false
  | some c => !s.inputOk c || s.input c = (s.pv (axP a 0x22)).getLsbD side

/-- The latch source is a limit's channel, so its action is suppressed while homing (R310). -/
def State.limitIsLatch (s : State) (a side : Nat) : Bool :=
  (s.axis a).st = .homing && (s.axis a).latchArmed && s.pn (axP a 0x28) = 2 && s.chan (axP a (0x20 + side)) = some (s.pn (axP a 0x29))

/-- The direction of an axis's motion: the sign of its speed, or of its move. -/
def Axis.heading (x : Axis) : Int := if x.v != 0 then x.v.sign else match x.move with
  | none => 0
  | some m => m.dir

/-- A limit that has become active stops the motion toward it (R308): AX_LIMIT, and the stop on AX_DEC, or the speed zero at the
next tick. A motion that already stops keeps its end and an emergency ramp keeps its deceleration. -/
def limitHit (a side : Nat) (s : State) : State :=
  let x := s.axis a
  if x.heading != (if side = 0 then -1 else 1) || s.limitIsLatch a side then s else
  let home : Bool := x.st = .homing
  let s := raise (BitVec.ofNat 16 (0x1020 + a)) 3 (w24 side) x.word s
  let s := if home then raise (BitVec.ofNat 16 (0x1060 + a)) 4 1 x.word s else s
  let s := if x.st = .stopping then s else axStop false a (if home then .notHomed else .interlock) 0 s
  if s.pn (axP a 0x23) = 0 then axMod a (fun y => { y with v := 0, a := 0 }) s else s

/-- The limits of every axis judged again after an input change. -/
def limitScan (s : State) : State :=
  (List.range 5).foldl (fun t a =>
    let n := t.limitOn a 0
    let p := t.limitOn a 1
    let x := t.axis a
    let t := axMod a (fun y => { y with limNeg := n, limPos := p }) t
    let t := if n && !x.limNeg then limitHit a 0 t else t
    if p && !x.limPos then limitHit a 1 t else t) s

/-- An active limit toward a direction (R308). -/
def State.limitBars (s : State) (a : Nat) (dir : Int) : Bool := (dir < 0 && s.limitOn a 0) || (0 < dir && s.limitOn a 1)

/-- A motion that runs, or has turned, toward an active limit stops as if the limit became active (R307, R308). -/
def limitTick (a : Nat) (s : State) : State :=
  let x := s.axis a
  if x.st = .stopping || x.v = 0 then s
  else if s.limitBars a x.v.sign then limitHit a (if x.v < 0 then 0 else 1) s else s

/-! ### Latches (R309, R310, R356, R378) -/

/-- The field input and the edge (0 rising, 1 falling, 2 both) on which an armed latch of an axis fires: the source of a home
search, the target landing's flag, or the closed switch of a recovery close; none for the index or no source. -/
def State.latchChan (s : State) (a : Nat) : Option (Nat × Nat) :=
  if (s.axis a).st = .homing then (if s.pn (axP a 0x28) = 2 then some (s.pn (axP a 0x29), s.pn (axP a 0x2A)) else none)
  else if a = 0 && s.pb 0x2000 then (s.chan (ldgP s.lift.target.val 1)).map (fun c => (c, 0))
  else if (a = 1 || a = 2) && (vget s.door (a - 1) {}).recovery then (s.chan (drP (a - 1) 5)).map (fun c => (c, 0)) else none

/-- The latch of an axis fires on the index ENCn_Z. -/
def State.latchIndex (s : State) (a : Nat) : Bool := (s.axis a).st = .homing && s.pn (axP a 0x28) = 1

/-- The H-frame that has just been taken carries the edge of an armed latch: the position at its arrival less
v × (FLD_DEBOUNCE + 32 µs), rounded down (DEDUCED, log 114), and the count (R309). `old` holds the inputs before it. -/
def latchEdge (old : BitVec 16) (a : Nat) (s : State) : State :=
  let x := s.axis a
  match s.latchChan a with
  | none => s
  | some (c, e) =>
    let now := s.input c
    if x.latchArmed && old.getLsbD c != now && (e = 2 || (e = 0) = now) then
      let back := x.v * (s.pn (fldP c 1) + 32) / 25
      axMod a (fun y => { y with edge := some (w24i ((x.x - back) / xUnit), x.enc) }) s
    else s

/-- The latches of every axis judged after the inputs of an H-frame. -/
def latchScan (old : BitVec 16) (s : State) : State := (List.range 5).foldl (fun t a => latchEdge old a t) s

/-! ### Host commands (Table 6-13) -/

/-- Axis number of d3 bits 3:0. -/
def axNum (d : Desc) : Nat := fld d.d3 0 4

/-- A speed argument in range (R285); 0 takes a default. -/
def State.speedOk (s : State) (a n : Nat) : Bool := n ≤ s.pn (axP a 0x08)
/-- An argument or its default. -/
def orDef (n d : Nat) : Nat := if n = 0 then d else n

/-- The refusal of a motion command by the axis's state (R175, R278, R283, R296, R171 for SLEEP). -/
def State.axBars (s : State) (a : Nat) : Option (Status × Byte) :=
  let x := s.axis a
  if s.owner a != 0 then some (.busy, 1)
  else if s.glb.sleep then some (.busy, 2)
  else if x.st = .off || x.st = .fault || x.st = .enabling || x.st = .external then some (.busy, 0)
  else if s.axisHeld a then some (.busy, 0) else none

/-- The motion of an accepted command: at once, or once an idle stage is enabled and verified (R283). -/
def axLaunch (op : Byte) (d : Desc) (a : Nat) (st : AxisState) (m : Move) (s : State) : State :=
  let r := s.nextRef op d
  let t := acceptRun op d .queued 0 0 s
  if (s.axis a).st = .idleOff then
    let u := axEnable a (axMod a (fun x => { x with st := .enabling }) t)
    if (u.axis a).verifying then axMod a (fun x => { x with after := some (.move st m), refs := [r], move := none }) u
    else axBegin a st (some m) [r] u
  else axBegin a st (some m) [r] t

/-- The position move of an AXIS_MOVE_ABS descriptor (Table 6-13, R281, R284). -/
def absMove (a : Nat) (d : Desc) (s : State) : Move :=
  let target := (arg24 d.d4).int
  { target := some target, dir := if target < (s.axis a).pos then -1 else 1
    speed := orDef (arg24 d.d5).toNat (s.pn (axP a 0x09))
    acc := orDef (arg24 d.d6).toNat (s.pn (axP a 0x0A)), accDef := d.d6 = 0#32
    dec := orDef (arg24 d.d7).toNat (s.pn (axP a 0x0B)), decDef := d.d7 = 0#32
    jerk := s.pn (axP a 0x0D) }

/-- The velocity move of an AXIS_MOVE_VEL descriptor. -/
def velMove (a : Nat) (d : Desc) (s : State) : Move :=
  { target := none, dir := if d.d3.getLsbD 8 then -1 else 1
    speed := orDef (arg24 d.d4).toNat (s.pn (axP a 0x09))
    acc := orDef (arg24 d.d5).toNat (s.pn (axP a 0x0A)), accDef := d.d5 = 0#32
    dec := s.pn (axP a 0x0B), decDef := true, jerk := s.pn (axP a 0x0D) }

/-- The search of an AXIS_HOME descriptor (R310). -/
def homeMove (a : Nat) (d : Desc) (s : State) : Move :=
  { target := none, dir := if s.pb (axP a 0x2B) then -1 else 1
    speed := orDef (arg24 d.d4).toNat (s.pn (axP a 0x2E)), acc := s.pn (axP a 0x0A), accDef := true
    dec := s.pn (axP a 0x0B), decDef := true, jerk := s.pn (axP a 0x0D) }

/-- The gear of an AXIS_GEAR descriptor (R304, R305). -/
def gearOf (d : Desc) (s : State) : Gear :=
  let m := fld d.d3 4 4
  { master := Fin.ofNat 6 m, ratio := arg24 d.d4, origin := arg24 d.d5, offset := arg24 d.d6, armed := none, lastM := s.masterPos m }

/-- AXIS_MOVE_ABS (Table 6-13, R283, R284, Table 6-8). -/
def decAxisMoveAbs (d : Desc) (s : State) : State :=
  let op : Byte := 0x30
  let a := axNum d
  gate op d (formOk d false false 0xF mA mA mA mA && a < 5 && s.speedOk a (arg24 d.d5).toNat) s fun s =>
  let x := s.axis a
  if s.owner a != 0 then refuse op d .busy 1 s
  else if !x.homed then refuse op d .notHomed 0 s
  else if x.st = .moving || x.st = .velocity then refuse op d .targetLocked 0 s
  else if x.st = .stopping || x.st = .homing || x.st = .geared then refuse op d .busy 0 s
  else match s.axBars a with
    | some (st, e) => refuse op d st e s
    | none =>
      let m := absMove a d s
      if !s.permit (axPermit a) || s.limitBars a m.dir then refuse op d .interlock 0 s
      else axLaunch op d a .moving m s

/-- AXIS_MOVE_VEL (Table 6-13, R288, Table 6-8). -/
def decAxisMoveVel (d : Desc) (s : State) : State :=
  let op : Byte := 0x31
  let a := axNum d
  gate op d (formOk d false false 0x10F mA mA m0 m0 && a < 5 && s.speedOk a (arg24 d.d4).toNat) s fun s =>
  let x := s.axis a
  if s.owner a != 0 then refuse op d .busy 1 s
  else if x.st = .moving then refuse op d .targetLocked 0 s
  else if x.st = .stopping || x.st = .homing || x.st = .geared then refuse op d .busy 0 s
  else match s.axBars a with
    | some (st, e) => refuse op d st e s
    | none =>
      let m := velMove a d s
      if !s.permit (axPermit a) || s.limitBars a m.dir then refuse op d .interlock 0 s
      else axLaunch op d a .velocity m (if x.st = .velocity then axEnd a .superseded 0 0 s else s)

/-- Whether a position move is in its final deceleration (R286): its target asks it to slow down. -/
def Axis.finalDec (x : Axis) (m : Move) : Bool := match m.target with
  | none => false
  | some g => let v := x.v * m.dir
    let dec := max 1 ((m.dec : Int) * aUnit)
    (g * xUnit - x.x) * m.dir ≤ (if m.jerk = 0 then v * v / dec else stopDist dec m.jerk v (x.a * m.dir))

/-- A deceleration runs: the speed falls, or the target asks it to (R287). -/
def Axis.slows (x : Axis) (m : Move) : Bool := x.a * x.v < 0 || x.finalDec m

/-- The deceleration that stops a motion within a distance, in 16 µstep/s², rounded up. -/
def neededDec (v d : Int) : Nat :=
  if d ≤ 0 then 16777215 else ((v * v * xUnit + (vUnit * vUnit * 32 * d - 1)) / (vUnit * vUnit * 32 * d)).toNat

/-- A move with a new deceleration `v` (R287): where its target needs more, what it needs, up to the larger of AX_DEC_EMG `emg` and
the deceleration before. -/
def Axis.newDec (emg v : Nat) (x : Axis) (m : Move) : Move := match m.target with
  | none => { m with dec := v, decDue := none }
  | some t => { m with dec := max v (min (neededDec x.v ((t * xUnit - x.x).natAbs : Int)) (max emg m.dec)), decDue := none }

/-- A new AX_DEC taken by a running move: at once, or once the deceleration that runs has ended (R287). -/
def Axis.takeDec (emg v : Nat) (x : Axis) (m : Move) : Move := if x.slows m then { m with decDue := some v } else x.newDec emg v m

/-- A deceleration that waited taken once none runs (R287). -/
def Axis.dueDec (emg : Nat) (x : Axis) : Axis := match x.move with
  | none => x
  | some m => match m.decDue with
    | none => x
    | some v => { x with move := some (x.takeDec emg v m) }

/-- A retune: speed and acceleration of a running position or velocity move (R286); none where it has no effect. -/
def Axis.retune (x : Axis) (speed acc : Nat) : Option Axis := match x.move with
  | none => none
  | some m =>
    if !(x.st = .moving || x.st = .velocity) then none
    else if x.st = .moving && x.finalDec m && m.speed < speed then none
    else some { x with move := some { m with speed := orDef speed m.speed, acc := orDef acc m.acc, accDef := m.accDef && acc = 0 } }

/-- AXIS_RETUNE (Table 6-13, R286). -/
def decAxisRetune (d : Desc) (s : State) : State :=
  let op : Byte := 0x32
  let a := axNum d
  gate op d (formOk d false false 0xF mA mA m0 m0 && a < 5 && s.speedOk a (arg24 d.d4).toNat) s fun s =>
  if s.owner a != 0 then refuse op d .busy 1 s
  else match (s.axis a).retune (arg24 d.d4).toNat (arg24 d.d5).toNat with
    | none => acceptOk op d 0 0 s
    | some y => acceptOk op d 1 0 (axMod a (fun _ => y) s)

/-- The axes an axis argument names: one, or each that is not owned for 0xF (R278). -/
def State.axSet (s : State) (a : Nat) : List Nat := if a = 15 then (List.range 5).filter (fun b => s.owner b = 0) else [a]

/-- One axis takes a stop command (R289, R298): the running move ends SUPERSEDED at standstill, the stop OK; the following of
external steps is suspended. -/
def stopOne (emg : Bool) (r : Ref) (s : State) (a : Nat) : State :=
  let x := s.axis a
  let s := if x.stage && s.standState a = .external then axMod a (fun y => { y with suspended := true }) s else s
  if x.moves then
    let t := axStop emg a .superseded 0 s
    axMod a (fun y => { y with stops := y.stops ++ [r] }) t
  else if x.after.isSome then axMod a (fun y => { y with after := some .stand }) (axEnd a .superseded 0 0 s)
  else s

/-- A command that waits on several axes ends once none of them holds it. -/
def finishIfFree (r : Ref) (s : State) : State :=
  if (List.range 5).any (fun a => (s.axis a).stops.contains r || (s.axis a).powerRefs.contains r) then s else finish r .ok 0 0 s

/-- AXIS_STOP (Table 6-13, R278, R289). -/
def decAxisStop (d : Desc) (s : State) : State :=
  let op : Byte := 0x33
  let a := axNum d
  gate op d (formOk d false false 0x10F m0 m0 m0 m0 && (a < 5 || a = 15)) s fun s =>
  if a < 5 && s.owner a != 0 then refuse op d .busy 1 s
  else
    let r := s.nextRef op d
    let t := (s.axSet a).foldl (stopOne (d.d3.getLsbD 8) r) (acceptRun op d .queued 0 0 s)
    finishIfFree r t

/-- AXIS_HOME (Table 6-13, R310). -/
def decAxisHome (d : Desc) (s : State) : State :=
  let op : Byte := 0x34
  let a := axNum d
  gate op d (formOk d false false 0xF mA m0 m0 m0 && a < 5 && s.speedOk a (arg24 d.d4).toNat) s fun s =>
  let x := s.axis a
  match s.axBars a with
  | some (st, e) => refuse op d st e s
  | none =>
    if x.moves then refuse op d .busy 0 s
    else
      let dir : Int := if s.pb (axP a 0x2B) then -1 else 1
      let side := if dir < 0 then 0 else 1
      let latchLimit : Bool := s.pn (axP a 0x28) = 2 && s.chan (axP a (0x20 + side)) = some (s.pn (axP a 0x29))
      if !s.permit (axPermit a) || (s.limitBars a dir && !latchLimit) then refuse op d .interlock 0 s
      else
        let m := homeMove a d s
        axMod a (fun y => { y with homed := false, latchArmed := y.st = .homing, latch := none, edge := none, travel := 0, homeMax := s.pn (axP a 0x2D) })
          (axLaunch op d a .homing m s)

/-- An axis that would be geared to ENCM while block 0x18 is held at its safe point (R199, R317). -/
def State.encmHeld (s : State) : Bool := s.heldAtSafe 1 && s.txn.staged.any (fun p => p.1 / 256 = 0x18)

/-- AXIS_GEAR (Table 6-13, R278, R296, R304 to R307). -/
def decAxisGear (d : Desc) (s : State) : State :=
  let op : Byte := 0x35
  let a := axNum d
  let m := fld d.d3 4 4
  let arm := d.d3.getLsbD 8
  gate op d (formOk d false false 0x1FF mA mA mA m0 && a < 5 && (m < 6 || m = 15) && m != a) s fun s =>
  let x := s.axis a
  if s.owner a != 0 then refuse op d .busy 1 s
  else if x.st = .external then refuse op d .busy 0 s
  else if m = 15 then
    if x.st = .geared then
      let t := acceptOk op d 0 0 s
      let t := match x.gear with
        | some ⟨_, _, _, _, some (_, _, r), _⟩ => finish r .superseded 0 0 t
        | _ => t
      axStop false a .superseded 0 t
    else acceptOk op d 0 0 s
  else if arm then
    match x.gear with
    | none => refuse op d .busy 0 s
    | some g =>
      let r := s.nextRef op d
      let t := acceptRun op d .queued 0 0 s
      let t := match g.armed with
        | none => t
        | some (_, _, q) => finish q .superseded 0 0 t
      axMod a (fun y => { y with gear := some { g with armed := some (arg24 d.d4, arg24 d.d5, r), lastM := s.masterPos g.master.val } }) t
  else match s.axBars a with
    | some (st, e) => refuse op d st e s
    | none =>
      if s.gearLoops a 6 m then refuse op d .badArg 0 s
      else if !x.homed || (m < 5 && !(s.axis m).homed) then refuse op d .notHomed 0 s
      else if x.moves || (m = 5 && s.encmHeld) then refuse op d .busy 0 s
      else if !s.permit (axPermit a) then refuse op d .interlock 0 s
      else
        let t := acceptOk op d 0 0 s
        let t := if x.st = .idleOff then axEnable a t else t
        if (t.axis a).verifying then axMod a (fun y => { y with after := some (.gear (gearOf d s)) }) t
        else axMod a (fun y => { y with gear := some (gearOf d s) }) (axBegin a .geared none [] t)

/-- AXIS_POWER on of one axis: an axis already enabled stays as it is; following resumes (R298). -/
def powerOne (r : Ref) (s : State) (a : Nat) : State :=
  let x := s.axis a
  if x.st = .fault then s
  else if x.stage then
    if x.verifying then axMod a (fun y => { y with powerRefs := y.powerRefs ++ [r] }) s
    else axMod a (fun y => { y with suspended := false, stepTarget := if y.suspended then y.word else y.stepTarget }) s
  else
    let t := axEnable a s
    if (t.axis a).verifying then axMod a (fun y => { y with powerRefs := y.powerRefs ++ [r], after := some .stand }) t else t

/-- AXIS_POWER off of one axis: the stage is disabled and a FAULT is cleared (R313, R315). -/
def unpowerOne (s : State) (a : Nat) : State :=
  axMod a (fun y => { y with st := .off }) (axDisable a .superseded 0 s)

/-- AXIS_POWER (Table 6-13, R278, R283, R314, R315; R62 for power on at L3 and L4). -/
def decAxisPower (d : Desc) (s : State) : State :=
  let op : Byte := 0x36
  let a := axNum d
  let on := d.d3.getLsbD 8
  gate op d (formOk d false false 0x10F m0 m0 m0 m0 && (a < 5 || a = 15)) s fun s =>
  if on && 3 ≤ s.effLevel then refuse op d .shed 0 s
  else if a < 5 && s.owner a != 0 then refuse op d .busy 1 s
  else if s.glb.sleep && on then refuse op d .busy 2 s
  else if (s.axSet a).any (fun b => (s.axis b).moves) then refuse op d .busy 0 s
  else if on && a < 5 && (s.axis a).st = .fault then refuse op d .busy 0 s
  else if on && !s.linesOn then refuse op d .interlock 0 s
  else
    let r := s.nextRef op d
    let t := acceptRun op d .queued 0 0 s
    finishIfFree r (if on then (s.axSet a).foldl (powerOne r) t else (s.axSet a).foldl unpowerOne t)

/-- AXIS_SET_POS (Table 6-13, R175, R281). -/
def decAxisSetPos (d : Desc) (s : State) : State :=
  let op : Byte := 0x37
  let a := axNum d
  gate op d (formOk d false false 0xF mA m0 m0 m0 && a < 5) s fun s =>
  let x := s.axis a
  if s.owner a != 0 then refuse op d .busy 1 s
  else if x.moves || x.verifying then refuse op d .busy 0 s
  else
    let y := { s.shiftPos a ((arg24 d.d4).int - x.pos) x with homed := true, noVerify := false }
    acceptOk op d 0 0 (axMod a (fun _ => ({ y with stepTarget := y.word } : Axis).takeRef) s)

end Sys2Proof.Machine
end

