-- ==== Sys2Proof/Machine/Lift.lean ====
section
/-! DEFINITION. The lift engine (11): calls and the choice of the next stop, holds and faults, homing, the steps of a trip,
and the host's lift commands. Axis 0 is the car. -/

namespace Sys2Proof.Machine

/-- LIFT_EN. -/
def State.liftEn (s : State) : Bool := s.pb 0x2000
/-- The commanded position of the car. -/
def State.carPos (s : State) : Int := (s.axis 0).pos
/-- LDG_POS of a landing. -/
def State.ldgPos (s : State) (n : Nat) : Int := s.pz (ldgP n 0)
/-- LDG_EN. -/
def State.ldgEn (s : State) (n : Nat) : Bool := s.pb (ldgP n 8)

/-- The brake output commanded (R364); its channel is none for 0x1F. -/
def brakeSet (on : Bool) (s : State) : State :=
  driveOut (s.chan 0x2002) on { s with lift.brake := on && (match s.chan 0x2002 with | none => true | some c => s.outGranted c) && s.permit 16 }

/-- The enabled landing within LIFT_LEVEL_WIN of the car, lowest number first; 0xF if none. -/
def State.carLanding (s : State) : Nat :=
  ((List.range 12).find? (fun n => s.ldgEn n && (s.ldgPos n - s.carPos).natAbs ≤ s.pn 0x2009)).getD 15

/-- Every pending call ends with a status; LIFT_CALLS_ENDED (R348, R369). -/
def endCalls (st : Status) (extra : Byte) (s : State) : State :=
  if s.lift.calls.isEmpty then s else
  let l := s.lift.calls
  let t := finishAll (l.flatMap Call.refs) st 0 extra { s with lift.calls := [] }
  raise 0x200A 4 (w24 l.length) (st.code.zeroExtend 24) t

/-- The car in HOLD: the event, and each LIFT_HOLD that waited ends OK (R360). -/
def enterHold (cause : Nat) (s : State) : State :=
  let r := s.lift.holdRefs
  let t : State := { s with lift.st := .hold, lift.holdCause := Fin.ofNat 7 cause, lift.pendHold := none, lift.holdRefs := [], lift.dir := 0,
                            lift.target := 15, lift.phase := .none, lift.abandon := false, lift.dwell := false, lift.holdL3 := s.lift.holdL3 || cause = 6 }
  finishAll r .ok 0 0 (raise 0x2004 3 (w24 cause) (w24 t.carLanding) t)

/-- A hold cause: at once from IDLE, else marked pending in a trip or a door cycle (R360). -/
def holdCause (cause : Nat) (s : State) : State :=
  match s.lift.st with
  | .idle => enterHold cause s
  | .hold => { s with lift.holdCause := Fin.ofNat 7 cause, lift.holdL3 := s.lift.holdL3 || cause = 6 }
  | .notHomed | .fault => s
  | _ => { s with lift.pendHold := some (Fin.ofNat 7 cause), lift.holdL3 := s.lift.holdL3 || cause = 6 }

/-- IDLE, or HOLD where one is pending (Table 11-3). -/
def toIdle (s : State) : State := match s.lift.pendHold with
  | some c => enterHold c.val s
  | none => { s with lift.st := .idle, lift.phase := .none, lift.target := 15 }

/-- The car NOT_HOMED: every pending call ends (R348). -/
def carLost (s : State) : State :=
  endCalls .notHomed 0 { s with lift.st := .notHomed, lift.last := 15, lift.target := 15, lift.dir := 0, lift.phase := .none, lift.pendHold := none, lift.holdL3 := false, lift.abandon := false, lift.verifyTrip := false, lift.park := false, lift.dwell := false, lift.cycle := none }

/-- Once axis 0 stands still in car FAULT: the brake output off, the stage powered off by the engine, NOT_HOMED (R361). -/
def liftFaultEnd (s : State) : State :=
  if s.lift.st = .fault && (s.axis 0).stands then carLost (axMod 0 (fun x => { x with st := .off }) (axDisable 0 .notHomed 0 (brakeSet false s))) else s

/-- The states from which the car enters FAULT: a trip, or NOT_HOMED during homing (Table 11-3). -/
def State.mayFault (s : State) : Bool := s.liftEn && (match s.lift.st with
  | .dispatch | .run | .approach | .level => true
  | .notHomed => s.lift.homeRef.isSome
  | _ => false)

/-- Car FAULT (R361, Table 11-3): the event, the calls and commands end NOT_HOMED, axis 0 stops on its emergency ramp. A car that
stands outside a trip keeps its state; its next dispatch finds the axis (DEDUCED, log 108). -/
def liftFault (cause : Nat) (s : State) : State :=
  if !s.mayFault then s else
  let hr := s.lift.homeRef.toList ++ s.lift.holdRefs
  let t : State := { s with lift.st := .fault, lift.cause := Fin.ofNat 7 cause, lift.homeRef := none, lift.holdRefs := [], lift.phase := .none,
                            lift.pendHold := none, lift.abandon := false, lift.verifyTrip := false, lift.park := false, lift.target := 15, lift.cycle := none }
  let t := raise 0x2008 5 (w24 cause) (w24i s.carPos) t
  let t := finishAll hr .notHomed 0 0 (endCalls .notHomed 0 t)
  liftFaultEnd (axStop true 0 .notHomed 0 t)

/-- A failed homing: LIFT_HOME_FAIL, and the car enters FAULT (R362; the fault cause of a failed search is DEDUCED, log 25). -/
def homeFail (why cause : Nat) (s : State) : State := liftFault cause (raise 0x2007 4 (w24 why) (w24i s.carPos) s)

/-- A dispatch undone before its move starts: IDLE, target cleared, brake output off (Table 11-3). -/
def undispatch (s : State) : State :=
  toIdle (brakeSet false { s with lift.calls := s.lift.calls.map (fun c => { c with dispatched := false }), lift.park := false })

/-- A trip stopped on the emergency ramp (R359): abandoned at standstill; before its move starts the dispatch is undone; a
homing fails. A car that waits for its brake after the level check is not stopped on a ramp, and its stop completes. -/
def liftAbandon (s : State) : State :=
  if !s.liftEn then s else
  match s.lift.st with
  | .dispatch => undispatch s
  | .run | .approach => axStop true 0 .interlock 0 { s with lift.abandon := true }
  | .level => if s.lift.phase = .brakeSet then s else axStop true 0 .interlock 0 { s with lift.abandon := true }
  | .notHomed => if s.lift.homeRef.isSome && s.lift.phase != .brakeSet then homeFail (bit s.lift.verifyTrip) 3 s else s
  | _ => s

/-! ### The choice of the next stop (R351, R352) -/

/-- Distance of a call from the car. -/
def State.callDist (s : State) (c : Call) : Nat := (s.ldgPos c.landing.val - s.carPos).natAbs

/-- The better of two calls: nearer, then higher priority, then earlier arrival (R352). -/
def State.better (s : State) (a b : Call) : Call :=
  if s.callDist a < s.callDist b then a else if s.callDist b < s.callDist a then b
  else if b.prio < a.prio then a else if a.prio < b.prio then b else if a.order ≤ b.order then a else b

/-- The best of a list of calls. -/
def State.best (s : State) (l : List Call) : Option Call := l.foldl (fun m c => match m with
  | none => some c
  | some b => some (s.better b c)) none

/-- The calls strictly ahead in a direction. -/
def State.ahead (s : State) (dir : Int) (l : List Call) : List Call :=
  l.filter (fun c => 0 < (s.ldgPos c.landing.val - s.carPos) * dir)

/-- COLLECTIVE (R352). -/
def State.collective (s : State) (l : List Call) : Option Call :=
  match s.best (l.filter (fun c => s.callDist c ≤ s.pn 0x2009)) with
  | some c => some c
  | none =>
    if s.lift.dir = 0 then s.best l
    else match s.best (s.ahead s.lift.dir l) with
      | some c => some c
      | none => s.best (s.ahead (-s.lift.dir) l)

/-- The call that arrived first (FIFO, R352). -/
def earliest (l : List Call) : Option Call := l.foldl (fun m c => match m with
  | none => some c
  | some b => if c.order < b.order then some c else some b) none

/-- The calls of the highest priority pending. -/
def topPrio (l : List Call) : List Call :=
  let m := l.foldl (fun n c => max n c.prio.val) 0
  l.filter (fun c => c.prio.val = m)

/-- The call that the policy in force selects (R352). -/
def State.select (s : State) : Option Call :=
  if s.pn 0x2001 = 0 then s.collective s.lift.calls
  else if s.pn 0x2001 = 1 then earliest s.lift.calls
  else s.collective (topPrio s.lift.calls)

/-- LIFT runs and no debugger holds it. -/
def State.liftUp (s : State) : Bool := s.liftEn && s.isl 2 = .run && !s.haltedIsl 2

/-- An activation of an island runs (R476: LIFT then dispatches no new trip). -/
def State.activating (s : State) (i : FwIsland) : Bool := match s.fw.act with
  | none => false
  | some a => a.isl = i

/-- The dispatch conditions of R351. A commit under FORCE_QUIESCE that touches LIFT dispatches no new trip (R204). -/
def State.mayDispatch (s : State) : Bool :=
  s.liftUp && s.lift.st = .idle && !s.lift.dwell && s.sup.level = 0 && !s.sup.overV && s.permit 0 && s.permit 16 &&
    !s.heldAtSafe 2 && !s.axisHeld 0 && !s.glb.sleep && !s.activating .lift &&
    !((s.txn.st = .preparing || s.txn.st = .waiting) && s.txn.force && s.touches 2)

/-- The dispatch conditions that must hold until the move of a trip starts (R351, Table 11-3). -/
def State.dispatchOk (s : State) : Bool :=
  s.sup.level = 0 && !s.sup.overV && s.permit 0 && s.permit 16 && !s.heldAtSafe 2 && !s.axisHeld 0 && !s.glb.sleep

/-- A dispatch whose conditions fail before its move starts (Table 11-3). -/
def dispatchCheck (s : State) : State := if s.liftUp && s.lift.st = .dispatch && !s.dispatchOk then undispatch s else s

/-! ### Trips -/

/-- The speeds and accelerations of a trip to a landing, taken as it is dispatched (R355, R356, Tables 11-1 and 11-6). -/
def takeSpeeds (n : Nat) (s : State) : State :=
  { s with lift.vRun := s.pn 0x2005, lift.vApp := s.pn (ldgP n 5), lift.acc := s.pn 0x2006, lift.dec := s.pn 0x2007 }

/-- A trip begun towards a landing: the stage readied, the brake output on (R355). The verification of an idle or retained
stage comes first. -/
def startTrip (n : Nat) (park : Bool) (s : State) : State :=
  let dir : Int := if s.ldgPos n < s.carPos then -1 else if s.carPos < s.ldgPos n then 1 else s.lift.dir
  let t : State := takeSpeeds n { s with lift.st := .dispatch, lift.target := Fin.ofNat 16 n, lift.park := park, lift.dir := dir, lift.phase := .brakeRelease }
  let t := raise 0x2001 2 (w24 (n + 16 * bit park)) (w24 t.lift.calls.length) t
  if (t.axis 0).st = .fault then liftFault 2 t
  else if !(t.axis 0).homed then liftFault 1 t else
  let t := if (t.axis 0).stage then t else axEnable 0 t
  if (t.axis 0).verifying then axMod 0 (fun x => { x with after := some .stand }) { t with lift.phase := .verify }
  else brakeSet true t

/-- The door of a landing: 0 none, 1 door 0, 2 door 1. -/
def State.ldgDoor (s : State) (n : Nat) : Nat := s.pn (ldgP n 4)

/-- The dwell of a call at its stop: the longest asked for, with LDG_DWELL where a call left it to the landing (R174, R350). -/
def State.dwellOf (s : State) (c : Call) : Nat := if c.dwellDef then max c.dwell (s.pn (ldgP c.landing.val 6)) else c.dwell

/-- A lift door cycle begun: the door opens with the call's dwell as hold-open time (R358, R382). -/
def startCycle (n dwell : Nat) (s : State) : State :=
  let k := s.ldgDoor n - 1
  let t : State := { s with lift.st := .doorCycle, lift.phase := .none, lift.target := 15, lift.cycle := some (Fin.ofNat 2 k) }
  { t with door := vmap t.door k {} (fun x => { x with cycle := true, openDue := true, holdMs := some dwell, holdInf := false }) }

/-- The call for a landing served without a door cycle: it ends OK, its dwell starts (R358). -/
def serveCall (c : Call) (s : State) : State :=
  let t : State := { s with lift.calls := s.lift.calls.filter (fun x => x.landing != c.landing), lift.last := Fin.ofNat 16 c.landing.val, lift.dwell := s.dwellOf c != 0 }
  finishAll c.refs .ok 0 0 t

/-- A decision's selected call: the car's own landing is served without a trip, any other is dispatched (R347, R358). -/
def takeCall (c : Call) (s : State) : State :=
  if s.callDist c ≤ s.pn 0x2009 then
    if c.door then startCycle c.landing.val (s.dwellOf c) { s with lift.calls := s.lift.calls.map (fun x => if x.landing = c.landing then { x with dispatched := true } else x), lift.last := Fin.ofNat 16 c.landing.val }
    else toIdle (serveCall c s)
  else startTrip c.landing.val false { s with lift.calls := s.lift.calls.map (fun x => if x.landing = c.landing then { x with dispatched := true } else x) }

/-- The move of a trip, with the lift's speed and accelerations (R355). -/
def tripMove (target : Int) (speed : Nat) (s : State) : Move :=
  { target := some target, dir := if target < s.carPos then -1 else 1, speed := speed, acc := s.lift.acc, dec := s.lift.dec, accDef := false, decDef := false, jerk := s.pn (axP 0 0x0D) }

/-- APPROACH: the latch of axis 0 armed on the target's flag channel (R356); a verification trip shows NOT_HOMED. -/
def enterApproach (s : State) : State :=
  axMod 0 (fun x => { x with latchArmed := true, latch := none, edge := none }) { s with lift.st := if s.lift.verifyTrip then .notHomed else .approach }

/-- The position move of a trip started (R355, R356). -/
def startMove (s : State) : State :=
  let n := s.lift.target.val
  let short : Bool := (s.ldgPos n - s.carPos).natAbs ≤ s.pn 0x2008
  let m := tripMove (s.ldgPos n) (if short then s.lift.vApp else s.lift.vRun) s
  let t := axBegin 0 .moving (some m) [] { s with lift.phase := .moving, lift.st := if s.lift.verifyTrip then .notHomed else .run }
  let t := axMod 0 (fun x => { x with latchArmed := false, latch := none }) t
  if short then enterApproach t else t

/-- The remaining distance at which axis 0 is retuned to LDG_VAPP (R356). -/
def State.retuneAt (s : State) : Nat :=
  s.pn 0x2008 + (s.lift.vRun * s.lift.vRun - s.lift.vApp * s.lift.vApp) / (2 * 16 * max 1 s.lift.dec)

/-- What the profile tick does to a trip: the retune, and APPROACH once LDG_VAPP is reached (R356). -/
def tripTick (s : State) : State :=
  if s.lift.phase != .moving || (s.axis 0).latchArmed then s else
  let n := s.lift.target.val
  let x := s.axis 0
  let left := (s.ldgPos n - x.pos).natAbs
  let w := s.lift.vApp
  let t := if left ≤ s.retuneAt then axMod 0 (fun y => { y with move := y.move.map (fun m => { m with speed := w }) }) s else s
  if left ≤ s.pn 0x2008 && x.v.natAbs ≤ w * 1562500 then enterApproach t else t

/-- The expected offset of a landing's flag edge for the arriving direction (R344, R357). -/
def State.flagOffset (s : State) (n : Nat) : Int := if 0 ≤ s.lift.dir then s.pz (ldgP n 2) else s.pz (ldgP n 3)

/-- The end of LEVEL: the brake output off; the stop is complete after LIFT_BRAKE_SET_MS (R358). -/
def endLevel (s : State) : State := brakeSet false { s with lift.phase := .brakeSet, lift.st := if s.lift.verifyTrip then .notHomed else .level }

/-- The level check at standstill at the target (R357). -/
def levelCheck (s : State) : State :=
  let n := s.lift.target.val
  let s := axMod 0 (fun x => { x with latchArmed := false }) { s with lift.st := if s.lift.verifyTrip then .notHomed else .level }
  if (s.chan (ldgP n 1)).isNone then endLevel (raise 0x2002 2 (w24 n) 0 { s with lift.err := 0 })
  else match (s.axis 0).latch with
    | none => if s.lift.verifyTrip then homeFail 1 3 s else liftFault 3 s
    | some (p, _) =>
      let e := (p : W24).int - (s.ldgPos n + s.flagOffset n)
      let s := raise 0x2002 2 (w24 n) (w24i e) { s with lift.err := e }
      if e.natAbs ≤ s.pn 0x2009 then endLevel s
      else if e.natAbs ≤ s.pn 0x200A then
        let m := { tripMove (s.ldgPos n + e) (s.pn 0x200B) s with dir := e.sign }
        axBegin 0 .moving (some m) [] { s with lift.phase := .levelling }
      else if s.lift.verifyTrip then homeFail 2 4 s else liftFault 4 s

/-- The stop complete (R358): the verification of a homing, a park trip, or the call of the landing. -/
def stopComplete (s : State) : State :=
  let n := s.lift.target.val
  let s : State := { s with lift.last := Fin.ofNat 16 n, lift.target := 15, lift.phase := .none }
  if s.lift.verifyTrip then
    let r := s.lift.homeRef.toList
    let t : State := { s with lift.verifyTrip := false, lift.homeRef := none, lift.dir := 0, lift.st := .idle }
    finishAll r .ok 0 0 (raise 0x2006 3 (w24 n) (w24i s.lift.err) t)
  else if s.lift.park then toIdle { s with lift.park := false }
  else match s.lift.calls.find? (fun c => c.dispatched) with
    | none => toIdle s
    | some c => if c.door then startCycle n (s.dwellOf c) s else toIdle (serveCall c s)

/-- The end of a door cycle at CLOSED_LOCKED, or at the door's FAULT (R358, R360, R382). -/
def cycleEnd (k : Nat) (ok : Bool) (s : State) : State :=
  if s.lift.st != .doorCycle || s.lift.cycle != some (Fin.ofNat 2 k) then s else
  let c := s.lift.calls.find? (fun c => c.dispatched)
  let s : State := { s with lift.calls := s.lift.calls.filter (fun c => !c.dispatched), lift.cycle := none, lift.phase := .none }
  let refs := (c.map Call.refs).getD []
  if ok then toIdle (finishAll refs .ok 0 0 { s with lift.st := .idle })
  else enterHold 5 (finishAll refs .interlock 0 0 { s with lift.st := .idle, lift.holdDoor := some (Fin.ofNat 2 k) })

/-- The home search begun on axis 0 (R310, R362). -/
def startHome (s : State) : State :=
  let dir : Int := if s.pb (axP 0 0x2B) then -1 else 1
  let m : Move := { target := none, dir := dir, speed := s.pn (axP 0 0x2E), acc := s.pn (axP 0 0x0A), accDef := true, dec := s.pn (axP 0 0x0B), decDef := true, jerk := s.pn (axP 0 0x0D) }
  let t := axBegin 0 .homing (some m) [] { s with lift.phase := .homeSearch }
  axMod 0 (fun x => { x with homed := false, latchArmed := true, latch := none, edge := none, travel := 0, homeMax := s.pn (axP 0 0x2D) }) t

/-- After a found home: the verification trip to LIFT_VERIFY_LDG (R362). -/
def verifyHome (s : State) : State :=
  let n := s.pn 0x200D
  startMove (takeSpeeds n { s with lift.verifyTrip := true, lift.target := Fin.ofNat 16 n, lift.dir := if s.ldgPos n < s.carPos then -1 else 1 })

/-- The brake of a car whose LIFT restarts, has restarted or is halted, or that SAFE_STOP has stopped, set once axis 0 stands still
(Table 4-3, Table 10-1). -/
def brakeAtRest (s : State) : State :=
  if s.lift.brake && (s.axis 0).stands && (s.isl 2 != .run || s.haltedIsl 2 || s.grd.st = .safeStop || s.lift.st = .hold || (s.lift.st = .notHomed && s.lift.phase = .none)) then brakeSet false s else s

/-- What axis 0's standstill means to the engine (R361, R362). -/
def liftStands (s : State) : State :=
  let s := brakeAtRest (liftFaultEnd s)
  if s.lift.phase = .homeSearch && (s.axis 0).stands then
    if (s.axis 0).homed then verifyHome s else homeFail 0 3 s
  else s

/-- Axis 0 verified or failed on stage enable (R355, R347, R363). -/
def liftVerified (ok : Bool) (s : State) : State :=
  if s.lift.phase = .homeVerify then brakeSet true { s with lift.phase := .homeBrake }
  else if s.lift.phase != .verify then s
  else if s.lift.st = .dispatch then
    (if ok then brakeSet true { s with lift.phase := .brakeRelease } else liftFault 5 s)
  else if ok then
    { s with lift.st := .idle, lift.phase := .none, lift.dir := 0, lift.last := Fin.ofNat 16 s.carLanding }
  else { s with lift.phase := .none }

/-! ### Host commands (Table 6-12) -/

/-- Commands of LIFT that R342 refuses while LIFT_EN is clear. -/
def liftGate (op : Byte) (d : Desc) (form : Bool) (s : State) (k : State → State) : State :=
  gate op d form s fun s => if !s.liftEn then refuse op d .busy 0 s else k s

/-- LIFT_CALL (Table 6-12, R174, R349, R350). -/
def decLiftCall (d : Desc) (s : State) : State :=
  let op : Byte := 0x20
  let n := fld d.d3 0 4
  let p := fld d.d3 4 2
  let door := d.d3.getLsbD 8
  liftGate op d (formOk d false false 0x13F mA m0 m0 m0 && n < 12 && (arg24 d.d4).toNat ≤ 600000 && s.ldgEn n &&
      (s.pv (ldgP n 7)).getLsbD p && (!door || s.ldgDoor n != 0)) s fun s =>
  if s.lift.st = .notHomed || s.lift.st = .fault then refuse op d .notHomed 0 s
  else if s.glb.sleep then refuse op d .busy 2 s
  else
    let r := s.nextRef op d
    let w := (arg24 d.d4).toNat
    match s.lift.calls.find? (fun c => c.landing.val = n) with
    | some _ =>
      let l := s.lift.calls.map (fun c => if c.landing.val = n then
        { c with prio := max c.prio (Fin.ofNat 4 p), door := c.door || door, dwell := max c.dwell w, dwellDef := c.dwellDef || w = 0, refs := c.refs ++ [r] } else c)
      acceptRun op d .queued (w24 l.length) 1 { s with lift.calls := l }
    | none =>
      if 16 ≤ s.lift.calls.length then refuse op d .busy 3 s
      else
        let c : Call := { landing := Fin.ofNat 12 n, prio := Fin.ofNat 4 p, door := door, dwell := w, dwellDef := w = 0, order := s.lift.order, refs := [r] }
        acceptRun op d .queued (w24 (s.lift.calls.length + 1)) 0 { s with lift.calls := s.lift.calls ++ [c], lift.order := s.lift.order + 1 }

/-- LIFT_CANCEL (Table 6-12, R174). -/
def decLiftCancel (d : Desc) (s : State) : State :=
  let op : Byte := 0x21
  let n := fld d.d3 0 4
  liftGate op d (formOk d false false 0xF m0 m0 m0 m0 && (n < 12 || n = 15)) s fun s =>
  if n != 15 && s.lift.calls.any (fun c => c.landing.val = n && c.dispatched) then refuse op d .targetLocked 0 s
  else
    let gone := s.lift.calls.filter (fun c => !c.dispatched && (n = 15 || c.landing.val = n))
    let t : State := { s with lift.calls := s.lift.calls.filter (fun c => c.dispatched || !(n = 15 || c.landing.val = n)) }
    finishAll (gone.flatMap Call.refs) .superseded 0 0 (acceptOk op d (w24 gone.length) 0 t)

/-- LIFT_HOME (Table 6-12, R362). -/
def decLiftHome (d : Desc) (s : State) : State :=
  let op : Byte := 0x22
  liftGate op d (formOk d false false m0 m0 m0 m0 m0) s fun s =>
  if s.glb.sleep then refuse op d .busy 2 s
  else if !(s.lift.st = .idle || s.lift.st = .notHomed || s.lift.st = .hold) || s.lift.homeRef.isSome || s.heldAtSafe 2 || s.axisHeld 0 then refuse op d .busy 0 s
  else if !s.permit 0 || !s.permit 16 then refuse op d .interlock 0 s
  else
    let r := s.nextRef op d
    let t := endCalls .superseded 0 (acceptRun op d .queued 0 0 s)
    let t : State := { t with lift.st := .notHomed, lift.homeRef := some r, lift.phase := .homeBrake, lift.last := 15, lift.target := 15, lift.dir := 0, lift.dwell := false, lift.holdL3 := false }
    if (t.axis 0).st = .fault then liftFault 2 t else
    let t := if (t.axis 0).stage then t else axEnable 0 t
    if (t.axis 0).verifying then axMod 0 (fun x => { x with after := some .stand }) { t with lift.phase := .homeVerify } else brakeSet true t

/-- LIFT_HOLD (Table 6-12, R360). An IDLE car held at its safe point for a commit stays there (R199). -/
def decLiftHold (d : Desc) (s : State) : State :=
  let op : Byte := 0x23
  liftGate op d (formOk d false false m0 m0 m0 m0 m0) s fun s =>
  if s.heldAtSafe 2 && s.lift.st = .idle then refuse op d .busy 0 s else
  let r := s.nextRef op d
  let t := acceptRun op d .queued 0 0 s
  match t.lift.st with
  | .notHomed | .fault => finish r .notHomed 0 0 t
  | .hold => finish r .ok 0 0 t
  | _ => holdCause 1 { t with lift.holdRefs := t.lift.holdRefs ++ [r] }

/-- A hold cause that persists (Table 11-4). -/
def State.holdPersists (s : State) : Bool :=
  (s.sil.active && s.sil.park) || (s.lift.holdL3 && s.sup.level != 0) ||
    (match s.lift.holdDoor with | none => false | some k => (vget s.door k.val {}).st = .fault)

/-- LIFT_RELEASE (Table 6-12, R360). -/
def decLiftRelease (d : Desc) (s : State) : State :=
  let op : Byte := 0x24
  liftGate op d (formOk d false false m0 m0 m0 m0 m0) s fun s =>
  if s.lift.st = .hold && !s.holdPersists then
    raise 0x2005 2 0 0 (acceptOk op d 1 0 { s with lift.st := .idle, lift.holdCause := 0, lift.holdL3 := false, lift.holdDoor := none, lift.dir := 0 })
  else acceptOk op d 0 0 s

end Sys2Proof.Machine
end

