-- ==== Sys2Proof/Machine/Door.lean ====
section
/-! DEFINITION. The hatch doors (12): states and transitions, obstruction and reversal, the 1 ms decision, and the host's door
commands. Door k runs on axis k + 1. -/

namespace Sys2Proof.Machine

/-- A door by number. -/
def State.dr (s : State) (k : Nat) : Door := vget s.door k {}
/-- The state with a door mapped. -/
def drMod (k : Nat) (f : Door → Door) (s : State) : State := { s with door := vmap s.door k {} f }
/-- DR_EN. -/
def State.drEn (s : State) (k : Nat) : Bool := s.pb (drP k 0)
/-- A door's input channel by parameter index. -/
def State.drCh (s : State) (k i : Nat) : Option Nat := s.chan (drP k i)
/-- An input that reads on and is available. -/
def State.readsOn (s : State) (c : Option Nat) : Bool := match c with
  | none => false
  | some n => s.inputOk n && s.input n
/-- An input that reads off and is available. -/
def State.readsOff (s : State) (c : Option Nat) : Bool := match c with
  | none => false
  | some n => s.inputOk n && !s.input n
/-- The light curtain counts as obstructed (R371). -/
def State.curtained (s : State) (k : Nat) : Bool := match s.drCh k 6 with
  | none => false
  | some n => !s.inputOk n || !s.input n

/-- The door's permit (R375). -/
def State.drPermit (s : State) (k : Nat) : Bool := s.permit (k + 1)
/-- A door closed and locked, verified (Table 10-8). -/
def State.drShut (s : State) (k : Nat) : Bool :=
  s.drEn k && (s.dr k).st = .closedLocked && s.readsOn (s.drCh k 5) && s.readsOn (s.drCh k 4)

/-- The states in which the door moves (Table 12-2). -/
def DoorState.moves : DoorState → Bool
  | .opening | .closing | .reversing | .nudging => true
  | _ => false

/-- The lock output (R372). -/
def lockOut (k : Nat) (on : Bool) (s : State) : State := driveOut (s.drCh k 3) on (drMod k (fun x => { x with lock := on }) s)
/-- The buzzer output (R372). -/
def buzz (k : Nat) (on : Bool) (s : State) : State := driveOut (s.drCh k 7) on (drMod k (fun x => { x with buzzer := on }) s)

/-- The commands that a door ends when it reaches a state, or when it is turned round. -/
def endOpen (k : Nat) (st : Status) (extra : Byte) (s : State) : State :=
  finishAll (s.dr k).openRefs st 0 extra (drMod k (fun x => { x with openRefs := [] }) s)
/-- The DOOR_CLOSE commands of a door end. -/
def endClose (k : Nat) (st : Status) (extra : Byte) (s : State) : State :=
  finishAll (s.dr k).closeRefs st 0 extra (drMod k (fun x => { x with closeRefs := [] }) s)

/-- A door enters FAULT (R373, R375): outputs off, the emergency ramp, the event; its commands end with the status given. -/
def doorFault (k cause : Nat) (st : Status) (extra : Byte) (s : State) : State :=
  if (s.dr k).st = .fault then s else
  let was := s.dr k
  let t := drMod k (fun x => { x with st := .fault, cause := Fin.ofNat 8 cause, openDue := false, closeDue := false, holdEnd := none, holdInf := false, retryWait := false, recovery := false, cycle := false, current := 0, judgeDue := false }) s
  let t := buzz k false (lockOut k false t)
  let t := raise 0x2405 5 (w24 k) (w24 cause) t
  let t := axMod (k + 1) (fun x => { x with next := none }) (axStop true (k + 1) .interlock 0 t)
  let t := endClose k st extra (endOpen k st extra t)
  if was.cycle then cycleEnd k false t else t

/-- The motion of a moving door stopped from outside (Table 12-2, first row): FAULT cause 2. -/
def doorHalt (k : Nat) (st : Status) (extra : Byte) (s : State) : State :=
  if s.drEn k && (s.dr k).st.moves then doorFault k 2 st extra s else s

/-- The move of a door to a position at a speed. -/
def doorMove (k : Nat) (target : Int) (speed : Nat) (s : State) : Move :=
  let a := k + 1
  { target := some target, dir := if target < (s.axis a).pos then -1 else 1, speed := speed, acc := s.pn (axP a 0x0A), dec := s.pn (axP a 0x0B), accDef := true, decDef := true, jerk := s.pn (axP a 0x0D) }

/-- The stage of a door's axis readied; false while it verifies or the lines are inactive. -/
def drReady (k : Nat) (s : State) : Bool × State :=
  let a := k + 1
  let x := s.axis a
  if x.verifying then (false, s)
  else if x.stage then (true, s)
  else if !s.linesOn then (false, s)
  else
    let t := axEnable a (axMod a (fun y => { y with st := .off }) s)
    if (t.axis a).verifying then (false, axMod a (fun y => { y with after := some .stand }) t) else (true, t)

/-- A door's axis set moving to a position, through `next` while it still moves (R377). -/
def drGo (k : Nat) (target : Int) (speed : Nat) (s : State) : State :=
  let a := k + 1
  if (s.axis a).moves then axMod a (fun x => { x with next := some (doorMove k target speed s) }) s
  else axBegin a .moving (some (doorMove k target speed s)) [] s

/-- The closed and open positions. -/
def State.posClosed (s : State) (k : Nat) : Int := s.pz (drP k 1)
/-- The open position. -/
def State.posOpen (s : State) (k : Nat) : Int := s.pz (drP k 2)

/-- A closing move's reference pair taken (R376). -/
def drRef (k : Nat) (s : State) : State :=
  let x := s.axis (k + 1)
  drMod k (fun y => { y with refE := x.enc, refP := w24i x.pos, obsTicks := 0 }) s

/-- Entry into OPEN: the hold-open time runs, as asked for or DR_HOLD_MS (R373, R379, R384). A reversal keeps the time asked for
(DEDUCED, log 107). -/
def toOpen (k : Nat) (s : State) : State :=
  let h := (s.dr k).holdMs.getD (s.pn (drP k 0x0C))
  let t := drMod k (fun x => { x with st := .opened, current := 0, holdEnd := some (s.now + h * 1000), holdInf := false, openDue := false }) s
  endOpen k .ok 0 (raise 0x2401 2 (w24 k) (w24 h) t)

/-- Entry into CLOSING (R373). -/
def toClosing (k : Nat) (s : State) : State :=
  drGo k (s.posClosed k) (s.pn (drP k 9)) (drRef k (drMod k (fun x => { x with st := .closing, closeDue := false, holdEnd := none, holdInf := false, current := s.pn (drP k 0x0A) }) s))

/-- A nudge's motion (R378): to the closed position, or for a recovery close on an axis that is not homed the search for the closed
switch, with the reference pair taken. -/
def nudgeMove (k : Nat) (s : State) : State :=
  let a := k + 1
  let s := drRef k s
  if (s.dr k).recovery then
    let dir : Int := if s.posClosed k < s.posOpen k then -1 else 1
    let m : Move := { target := none, dir := dir, speed := s.pn (drP k 0x0E), acc := s.pn (axP a 0x0A), dec := s.pn (axP a 0x0B), accDef := true, decDef := true, jerk := s.pn (axP a 0x0D) }
    axMod a (fun x => { x with latchArmed := true, latch := none, edge := none, next := none, travel := (s.axis a).travel }) (axBegin a .velocity (some m) [] s)
  else drGo k (s.posClosed k) (s.pn (drP k 0x0E)) s

/-- Entry into NUDGING with the buzzer on (R372, R378); DOOR_NUDGE logged. -/
def toNudging (k : Nat) (recovery : Bool) (s : State) : State :=
  let t := drMod k (fun x => { x with st := .nudging, closeDue := false, holdEnd := none, holdInf := false, tries := 0, retryWait := false, recovery := recovery,
                                      maxTries := s.pn (drP k 0x12), current := s.pn (drP k 0x0F) }) s
  nudgeMove k (raise 0x2404 4 (w24 k) (w24 (s.dr k).rev) (buzz k true t))

/-- The recovery close from FAULT (R378): a position close on a homed axis, else a velocity search for the closed switch. -/
def toRecovery (k : Nat) (s : State) : State :=
  let t := toNudging k (!(s.axis (k + 1)).homed) (lockOut k true s)
  axMod (k + 1) (fun x => { x with latch := none, travel := 0 }) (drMod k (fun x => { x with recovered := true }) t)

/-- Entry into REVERSING (R373, R377): an emergency stop and the opening move handed over together. A nudge's buzzer stays on (R372). -/
def toReversing (k : Nat) (count : Bool) (s : State) : State :=
  let a := k + 1
  let t := drMod k (fun x => { x with st := .reversing, rev := if count then x.rev + 1 else x.rev, openDue := false, retryWait := false, recovery := false,
                                      judgeDue := count, current := 0 }) s
  let t := axStop true a .superseded 0 t
  axMod a (fun x => { x with latchArmed := false, edge := none }) (drGo k (s.posOpen k) (s.pn (drP k 0x0B)) t)

/-- Entry into LOCKING: the lock output off (Table 12-1). -/
def toLocking (k : Nat) (s : State) : State := lockOut k false (drMod k (fun x => { x with st := .locking, recovery := false, current := 0 }) s)
/-- Entry into UNLOCKING: the lock output on, the buzzer off. -/
def toUnlocking (k : Nat) (s : State) : State := lockOut k true (buzz k false (drMod k (fun x => { x with st := .unlocking, openDue := false }) s))

/-- Entry into CLOSED_LOCKED (R373). -/
def toShut (k : Nat) (s : State) : State :=
  let was := s.dr k
  let t := drMod k (fun x => { x with st := .closedLocked, rev := 0, closeDue := false, cycle := false, recovered := false, holdMs := none }) (buzz k false s)
  let t := raise 0x2402 2 (w24 k) (w24 was.rev) t
  let t := if was.recovered then raise 0x2407 3 (w24 k) (w24 (bit ((s.axis (k + 1)).latch.isSome && was.recovered))) t else t
  let t := endClose k .ok 0 t
  if was.cycle then cycleEnd k true t else t

/-- The judgement of a door after a LIFT start (R374). -/
def drJudge (k : Nat) (s : State) : State :=
  match s.drCh k 5, s.drCh k 4 with
  | some c, some l =>
    if s.inputOk c && s.inputOk l then
      if s.input c && s.input l then
        let x := s.axis (k + 1)
        let y := { s.shiftPos (k + 1) (s.posClosed k - x.pos) x with homed := true }
        axMod (k + 1) (fun _ => y.takeRef) (drMod k (fun z => { z with st := .closedLocked, cause := 0, judged := true, rev := 0 }) s)
      else raise 0x2405 5 (w24 k) 7 (drMod k (fun z => { z with st := .fault, cause := 7, judged := true }) s)
    else s
  | _, _ => s

/-- An axis at standstill at a position. -/
def State.standsAt (s : State) (a : Nat) (p : Int) : Bool := (s.axis a).stands && (s.axis a).next.isNone && (s.axis a).pos = p

/-- The recovery search past 1.25 times the door's travel (R378). -/
def State.searchOver (s : State) (k : Nat) : Bool := 5 * (s.posOpen k - s.posClosed k).natAbs ≤ 4 * (s.axis (k + 1)).travel

/-- An OPEN door may close: after L2 or an over-voltage only once the level is back at L0 (R383). -/
def State.doorsFree (s : State) : Bool := !s.sup.overV && (s.sup.level = 0 || s.sup.deepest.val < 2)

/-- A door may begin to move: its permit granted, no level of L2 or deeper and no over-voltage (R62, R375, Table 12-2 first row). An
unlocked door that may not waits in UNLOCKING (DEDUCED, log 109). -/
def State.mayMove (s : State) (k : Nat) : Bool := s.drPermit k && s.effLevel < 2

/-- The end of a closing move at DR_POS_CLOSED: the closed switch reads on, or off; unavailable, it waits (Table 12-2). -/
def closeEnd (k : Nat) (s : State) : State :=
  if s.readsOn (s.drCh k 5) then toLocking k s else if s.readsOff (s.drCh k 5) then doorFault k 3 .internal 0 s else s

/-- One door's decision (R373: the first row that applies, in table order). -/
def drDecide (k : Nat) (s : State) : State :=
  let a := k + 1
  if !s.drEn k || s.isl 2 != .run || s.haltedIsl 2 then s
  else if !(s.dr k).judged then drJudge k s
  else
    let x := s.dr k
    if x.st.moves && ((s.axis a).st = .fault || !(s.axis a).stage) then doorFault k 6 .internal 0 s
    else match x.st with
      | .closedLocked => if x.openDue && s.drPermit k && !s.heldAtSafe 2 && !s.axisHeld a then toUnlocking k s else s
      | .unlocking =>
        if s.readsOff (s.drCh k 4) && s.mayMove k then
          let p := drReady k s
          if p.1 then drGo k (s.posOpen k) (s.pn (drP k 8)) (drMod k (fun y => { y with st := .opening }) p.2) else p.2
        else if x.closeDue then toLocking k (drMod k (fun y => { y with closeDue := false }) s) else s
      | .opening =>
        if s.standsAt a (s.posOpen k) then toOpen k s
        else if x.closeDue then toClosing k (axStop false a .superseded 0 s) else s
      | .opened =>
        if x.closeDue && s.drPermit k && s.doorsFree && !s.axisHeld a then
          (if x.rev < s.pn (drP k 0x0D) then toClosing k s else toNudging k false s) else s
      | .closing =>
        if x.openDue then toReversing k false s
        else if s.standsAt a (s.posClosed k) then closeEnd k s else s
      | .nudging =>
        if x.openDue then toReversing k false s
        else if x.recovery then
          (if (s.axis a).latch.isSome then (if (s.axis a).stands then toLocking k s else s)
           else if s.searchOver k then doorFault k 3 .internal 0 s else s)
        else if s.standsAt a (s.posClosed k) && !x.retryWait then closeEnd k s else s
      | .reversing => if s.standsAt a (s.posOpen k) then toOpen k s else s
      | .locking =>
        if s.readsOn (s.drCh k 4) then toShut k s
        else if x.openDue then toUnlocking k s else s
      | .fault =>
        if x.closeDue && s.mayMove k && !s.axisHeld a && (s.axis a).stands then
          let p := drReady k s
          if p.1 then toRecovery k p.2 else p.2
        else s

/-- An obstruction of a closing door (R376 to R378). -/
def drObstruct (k : Nat) (curtain : Bool) (s : State) : State :=
  let a := k + 1
  let x := s.dr k
  match x.st with
  | .closing =>
    let t := raise 0x2403 4 (w24 (k + 256 * bit curtain)) (w24i (s.axis a).pos) s
    endClose k .superseded 0 (toReversing k true t)
  | .nudging =>
    if curtain || x.retryWait then s else
    let t := raise 0x2403 4 (w24 k) (w24i (s.axis a).pos) s
    if x.maxTries ≤ x.tries + 1 then doorFault k 4 .internal 0 (drMod k (fun y => { y with tries := y.tries + 1 }) t)
    else axStop true a .superseded 0 (drMod k (fun y => { y with tries := y.tries + 1, retryWait := true, obsTicks := 0 }) t)
  | _ => s

/-- Whether the encoder sees an obstruction: outside DR_OBS_WIN for DR_OBS_TICKS ticks (R376). -/
def State.obstructed (s : State) (k : Nat) : Bool := s.pn (drP k 0x11) ≤ (s.dr k).obsTicks

/-- The tick count of R376 and the half-cycle test of R377 at a door's standstill. -/
def drTick (k : Nat) (s : State) : State :=
  let x := s.dr k
  if s.drEn k && s.encOn (k + 1) && (x.st = .closing || x.st = .nudging) then
    let out : Bool := s.pn (drP k 0x10) < (s.deviation (k + 1) x.refE x.refP).natAbs
    drMod k (fun y => { y with obsTicks := if out then y.obsTicks + 1 else 0 }) s
  else s

/-- Position lost at the standstill after an obstruction (R377). -/
def drLost (k : Nat) (s : State) : State :=
  let x := s.dr k
  let s := drMod k (fun y => { y with judgeDue := false }) s
  if s.drEn k && s.encOn (k + 1) && x.st = .reversing && x.judgeDue && 512 * s.pn (axP (k + 1) 0x19) < 65536 * (s.deviation (k + 1) x.refE x.refP).natAbs then
    doorFault k 6 .internal 0 (axMod (k + 1) (fun y => { y with homed := false, next := none }) s)
  else s

/-! ### Host commands (Table 6-12) -/

/-- The checks before a door command (R370, R175). -/
def doorGate (op : Byte) (d : Desc) (form : Bool) (s : State) (k : Nat → State → State) : State :=
  let n := fld d.d3 0 1
  gate op d (form && s.drEn n) s fun s =>
  if (s.dr n).cycle then refuse op d .busy 1 s
  else k n s

/-- DOOR_OPEN (Table 6-12, R379). -/
def decDoorOpen (d : Desc) (s : State) : State :=
  let op : Byte := 0x28
  doorGate op d (formOk d false false 1 mA m0 m0 m0 && (arg24 d.d4).toNat ≤ 600000) s fun k s =>
  let x := s.dr k
  if s.glb.sleep then refuse op d .busy 2 s
  else if s.heldAtSafe 2 || s.axisHeld (k + 1) then refuse op d .busy 0 s
  else if !s.drPermit k then refuse op d .interlock 0 s
  else if x.st = .fault then refuse op d .busy 0 s
  else
    let r := s.nextRef op d
    let h : Option Nat := if d.d4 = 0#32 then none else some (arg24 d.d4).toNat
    let t := drMod k (fun y => { y with holdMs := h }) (acceptRun op d .queued 0 0 s)
    match x.st with
    | .opened => finish r .ok 0 0 (drMod k (fun y => { y with holdEnd := some (s.now + h.getD (s.pn (drP k 0x0C)) * 1000), holdInf := false, closeDue := false }) t)
    | .unlocking | .opening | .reversing =>
      endClose k .superseded 0 (drMod k (fun y => { y with openRefs := y.openRefs ++ [r], closeDue := false }) t)
    | _ => endClose k .superseded 0 (drMod k (fun y => { y with openRefs := y.openRefs ++ [r], openDue := true, closeDue := false }) t)

/-- DOOR_CLOSE (Table 6-12, R380). -/
def decDoorClose (d : Desc) (s : State) : State :=
  let op : Byte := 0x29
  doorGate op d (formOk d false false 1 m0 m0 m0 m0) s fun k s =>
  let x := s.dr k
  if s.glb.sleep then refuse op d .busy 2 s
  else if (s.heldAtSafe 2 || s.axisHeld (k + 1)) && x.st != .closedLocked then refuse op d .busy 0 s
  else
    let r := s.nextRef op d
    let t := acceptRun op d .queued 0 0 s
    match x.st with
    | .closedLocked => finish r .ok 0 0 (endOpen k .superseded 0 (drMod k (fun y => { y with openDue := false }) t))
    | .locking | .closing | .nudging =>
      endOpen k .superseded 0 (drMod k (fun y => { y with closeRefs := y.closeRefs ++ [r], openDue := false }) t)
    | _ => endOpen k .superseded 0 (drMod k (fun y => { y with closeRefs := y.closeRefs ++ [r], closeDue := true, openDue := false, holdInf := false }) t)

/-- DOOR_HOLD (Table 6-12, R381). -/
def decDoorHold (d : Desc) (s : State) : State :=
  let op : Byte := 0x2A
  doorGate op d (formOk d false false 1 mA m0 m0 m0) s fun k s =>
  let x := s.dr k
  if x.st != .opened then refuse op d .busy 0 s
  else
    let n := (arg24 d.d4).toNat
    let left := (x.holdEnd.getD s.now) - s.now
    let y : Door := if n = 0 then { x with holdInf := true, closeDue := false }
      else { x with holdEnd := some (s.now + min 600000000 (left + n * 1000)), closeDue := false }
    acceptOk op d 0 0 (drMod k (fun _ => y) s)

end Sys2Proof.Machine
end

