-- ==== Sys2Proof/Machine/Grind.lean ====
section
/-! DEFINITION. The grinder drive (13): states, start-up, the 1 ms tick, dosing, loss and catch-spin, jams, protections, the
commands GRIND_RUN and GRIND_STOP and every grinder event. -/

namespace Sys2Proof.Machine

/-! ### Drive and sensing (R388 to R393) -/

/-- What the gates do: all six off, the three low sides on (precharge), or switching. -/
inductive Gates where
  | off | low | pwm
  deriving DecidableEq, Repr

/-- The gates (R388, R391, R394, R397, R404, R407). -/
def State.gates (s : State) : Gates :=
  if s.grind.precharge.isSome then .low else match s.grind.st with
    | .align | .ramp | .run | .stopping => .pwm
    | .catching | .unjam => if s.grind.switching then .pwm else .off
    | _ => .off

/-- The PWM period in GRIND clock periods of 1/120 MHz, the nearest even number (R390). -/
def State.pwmClocks (s : State) : Nat := 2 * ((120000000 + s.pn 0x2805) / (2 * s.pn 0x2805))
/-- GR_CS_GAIN as a factor. -/
def State.csGain (s : State) : Nat := 5 * 2 ^ s.pn 0x2808
/-- The phase current of a sample, mA (R392). -/
def State.sampleMa (s : State) (c : W24) : Int := c.int * 3300000000 / (4096 * (s.csGain * s.pn 0x2807 : Nat))
/-- The phase voltage of a sample, mV (R393). -/
def sampleMv (c : W24) : Int := c.int * 105600 / 4096

/-- A command of the grinder that runs, or a start that still precharges. -/
def State.grinding (s : State) : Bool := match s.grind.st with
  | .align | .ramp | .run | .catching => true
  | .stopped => s.grind.precharge = some false
  | _ => false

/-- The grinder's "stopped" condition (R395). -/
def State.grindStopped (s : State) : Bool := match s.grind.st with
  | .disabled | .stopped => true
  | .fault => s.grind.still
  | _ => false

/-- The set-point in rpm: the argument, or GR_RPM_DEF for 0 (R400). -/
def State.grindSet (s : State) : Nat := if s.grind.arg = 0 then s.pn 0x2819 else s.grind.arg

/-- The running GRIND_RUN ends with the dose delivered as its result (R408). -/
def grindEnd (st : Status) (extra : Byte) (s : State) : State :=
  let r := s.grind.ref.toList
  finishAll r st (w24 s.grind.count) extra { s with grind.ref := none, grind.doseRun := false }

/-- All gates off and coasting, to lead where `after` says (Table 13-3). -/
def grindCoast (after : AfterCoast) (s : State) : State :=
  { s with grind.st := .coast, grind.precharge := none, grind.after := after, grind.still := false, grind.regen := false, grind.settled := false, grind.switching := false, grind.doseRun := false, grind.iq := 0, grind.vec := 0 }

/-- The stop commands that waited for standstill end OK (R402). -/
def grindStopsDone (s : State) : State := finishAll s.grind.stops .ok 0 0 { s with grind.stops := [] }

/-- The drive's state where GR_EN changes at a strobe or a start (R388). -/
def grindEnable (s : State) : State :=
  if !s.pb 0x2800 then { s with grind.st := .disabled, grind.precharge := none }
  else if s.grind.st = .disabled then { s with grind.st := .stopped } else s

/-- A coast cause of Table 13-5. -/
def grindCoastCause (st : Status) (extra : Byte) (s : State) : State :=
  let t := grindEnd st extra s
  if s.grind.precharge = some false then grindStopsDone (grindEnable { t with grind.precharge := none, grind.st := .stopped })
  else match s.grind.st with
    | .align | .ramp | .run | .catching | .stopping => grindCoast .stopped t
    | .coast => if s.grind.after = .retry then { t with grind.after := .stopped } else t
    | .unjam => { t with grind.precharge := none, grind.switching := false, grind.vec := 0 }
    | _ => t

/-- A ramp cause of Table 13-5: STOPPING from RUN, COAST from every other driving state (R402, Table 13-3). -/
def grindRampCause (st : Status) (extra : Byte) (s : State) : State :=
  if s.grind.st = .run then
    { grindEnd st extra s with grind.st := .stopping, grind.regenLogged := false }
  else if s.grind.st = .stopping then grindEnd st extra s
  else grindCoastCause st extra s

/-- The dose ends (R401): GRIND_DONE, the command OK, and the stop that GR_DOSE_STOP selects. -/
def grindDoseEnd (s : State) : State :=
  let t := raise 0x2803 2 (w24 s.grind.count) (w24 (bit s.grind.revs)) s
  let t := grindEnd .ok 0 t
  if s.grind.st = .run && s.pn 0x281C = 0 then { t with grind.st := .stopping, grind.regenLogged := false }
  else if s.grind.precharge = some false then { t with grind.precharge := none, grind.st := .stopped }
  else grindCoast .stopped t

/-- FAULT entered by a protection (R394, R408). -/
def grindProtect (cause : Nat) (s : State) : State :=
  let t := grindEnd .internal 6 s
  { t with grind.st := .fault, grind.cause := Fin.ofNat 6 cause, grind.precharge := none, grind.regen := false, grind.settled := false, grind.switching := false, grind.iq := 0, grind.vec := 0 }

/-- The episode ends without a re-lock (R405): GRIND_LOST, coast, FAULT cause 2 at standstill. -/
def grindLost (s : State) : State :=
  let t := raise 0x2807 5 (w24 s.grind.attempt.val) s.grind.measured s
  grindCoast .faultLost (grindEnd .internal 3 t)

/-- An attempt fails (R404, R405): the second follows the first, then the episode ends. -/
def catchFail (s : State) : State :=
  if s.grind.attempt = 1 then { s with grind.attempt := 2, grind.settled := false, grind.switching := false } else grindLost s

/-- The grinder state word (Table 13-2). -/
def State.grindWord (s : State) : W24 :=
  let g := s.grind
  w24 (g.st.code + 16 * g.attempt.val + 64 * bit g.doseRun + 128 * bit g.regen + 256 * bit g.still + 512 * g.cause.val + 4096 * bit g.revs)

/-- GRIND_RUN (Table 6-14, R176, R400). -/
def decGrindRun (d : Desc) (s : State) : State :=
  let op : Byte := 0x40
  let v := (arg24 d.d3).toNat
  let dose := (arg24 d.d4).toNat
  let revs := d.d5.getLsbD 0
  gate op d (formOk d false false mA mA 1 m0 m0 && dose != 0 && (v = 0 || (s.pn 0x2814 ≤ v && v ≤ s.pn 0x2818))) s fun s =>
  let g := s.grind
  if g.st = .disabled then refuse op d .busy 0 s
  else if s.glb.sleep then refuse op d .busy 2 s
  else if s.grinding then
    if revs != g.revs then refuse op d .badArg 0 s
    else if !s.permit 3 then refuse op d .interlock 0 s
    else
      let r := s.nextRef op d
      let t := acceptRun op d .queued 0 0 s
      let t := finishAll g.ref.toList .superseded (w24 g.count) 0 t
      let t : State := { t with grind.ref := some r, grind.arg := v, grind.dose := dose }
      if dose ≤ g.count then grindDoseEnd t else t
  else if g.st != .stopped || s.heldAtSafe 3 then refuse op d .busy 0 s
  else if !s.permit 3 then refuse op d .interlock 0 s
  else
    let r := s.nextRef op d
    let t := acceptRun op d .queued 0 0 s
    { t with grind.ref := some r, grind.arg := v, grind.dose := dose, grind.revs := revs, grind.count := 0, grind.fails := 0, grind.precharge := some false, grind.attempt := 0, grind.ms := 0, grind.doseRun := true, grind.cause := 0, grind.measured := 0 }

/-- GRIND_STOP (Table 6-14, R402). -/
def decGrindStop (d : Desc) (s : State) : State :=
  let op : Byte := 0x41
  gate op d (formOk d false false 1 m0 m0 m0 m0) s fun s =>
  let r := s.nextRef op d
  let t := acceptRun op d .queued 0 0 s
  let wait (u : State) : State := { u with grind.stops := u.grind.stops ++ [r] }
  if s.grind.precharge.isNone && (s.grind.st = .stopped || s.grind.st = .disabled) then finish r .ok 0 0 t
  else if s.grind.st = .fault then
    if s.grind.still then finish r .ok 0 0 { t with grind.st := .stopped, grind.cause := 0 }
    else wait { t with grind.clearDue := true }
  else if d.d3.getLsbD 0 then grindCoastCause .superseded 0 (wait t)
  else grindRampCause .superseded 0 (wait t)

/-- ALIGN entered: the start takes its parameters (R397, Table 13-7), and the first one is logged. -/
def grindAlign (s : State) : State :=
  let t : State := { s with grind.precharge := none, grind.st := .align, grind.still := false, grind.target := 0, grind.iq := 0, grind.integ := 0, grind.rpm := 0,
                            grind.ms := 0, grind.vec := s.pn 0x2810, grind.rampMa := s.pn 0x2812, grind.rampAcc := s.pn 0x2813 }
  if s.grind.fails = 0 then raise 0x2801 2 (w24 s.grindSet) (w24 s.grind.dose) t else t

/-- PRECHARGE_DONE (R391): ALIGN, the reverse pulse, or FAULT cause 5 where a bootstrap voltage is low. A start waits while a commit
holds GRIND at its safe point (R199). -/
def execPrechargeDone (bootOk : Bool) (s : State) : Host.Outcome State Fault Refusal :=
  match s.grind.precharge with
  | none => .next s
  | some unjam =>
    if !bootOk then done (grindProtect 5 s)
    else if unjam then done { s with grind.precharge := none, grind.switching := true, grind.still := false, grind.vec := s.grind.unjamMa }
    else if s.heldAtSafe 3 then .next s
    else done (grindAlign s)

/-- ALIGN_DONE (R397): GR_ALIGN_MS elapsed. -/
def execAlignDone (s : State) : Host.Outcome State Fault Refusal :=
  doneIf (s.grind.st = .align) (fun s => { s with grind.st := .ramp, grind.target := 0, grind.vec := s.grind.rampMa }) s

/-- The observer's speed at GR_HANDOVER_RPM agrees with the commanded one within 10 % (R397). -/
def State.handoverOk (s : State) (rpm : W24) : Bool :=
  s.grind.target = 1000 * s.pn 0x2814 && 10 * (rpm.int - s.pn 0x2814).natAbs ≤ s.pn 0x2814

/-- GRIND_HANDOVER (R397). The speed loop takes over at the handover speed with no step in q-current. -/
def execGrindHandover (rpm : W24) (s : State) : Host.Outcome State Fault Refusal :=
  doneIf (s.grind.st = .ramp && s.handoverOk rpm) (fun s =>
    raise 0x2802 2 rpm (w24 s.grind.ms)
      { s with grind.st := .run, grind.rpm := rpm, grind.vec := 0, grind.iq := s.grind.rampMa, grind.integ := (s.grind.rampMa : Int) * 100000 }) s

/-- GRIND_START_FAIL (Table 13-3): GR_RAMP_MAX_MS elapsed without handover. -/
def execGrindStartFail (residual : W24) (s : State) : Host.Outcome State Fault Refusal :=
  doneIf (s.grind.st = .ramp) (fun s =>
    let t := raise 0x2804 4 (w24 (s.grind.fails + 1)) residual s
    if s.grind.fails = 0 then { grindCoast .retry t with grind.fails := 1, grind.doseRun := s.grind.doseRun }
    else grindCoast .faultStart (grindEnd .internal 5 t)) s

/-- One speed target moved towards the set-point, in 1/1000 rpm per ms. -/
def slew (cur goal up dn : Nat) : Nat := if cur < goal then min goal (cur + up) else max goal (cur - dn)

/-- The speed loop of R398 with the limits of R399. -/
def grindLoop (rpm : W24) (s : State) : State :=
  let g := s.grind
  let target := if g.st = .run then slew g.target (s.grindSet * 1000) (s.pn 0x281A) (s.pn 0x281B) else g.target - s.pn 0x281B
  let err : Int := (target : Int) / 1000 - rpm.int
  let integ := g.integ + (s.pn 0x280D : Int) * err
  let lim : Int := s.pn 0x280A
  let iq := max (-lim) (min lim ((s.pn 0x280C : Int) * err / 100 + integ / 100000))
  let near : Bool := s.pn 0x0205 < s.sup.vbus.toNat + 5000
  let regen := near && iq < 0
  let t : State := { s with grind.target := target, grind.integ := integ, grind.iq := if regen then 0 else iq, grind.regen := near, grind.rpm := rpm }
  let t := if regen && g.st = .stopping && !g.regenLogged then raise 0x280C 3 s.sup.vbus 0 { t with grind.regenLogged := true } else t
  if g.st = .stopping && rpm.int < s.pn 0x2814 then grindCoast .stopped t else t

/-- GRIND_TICK (R398, R401): the 1 ms tick with the observer's or the back-EMF's speed and the electrical revolutions counted
since the last tick. -/
def execGrindTick (rpm : W24) (revs : Nat) (s : State) : Host.Outcome State Fault Refusal :=
  let g := s.grind
  let counts : Bool := g.doseRun && !(g.st = .stopped)
  let add := if !counts then 0 else if !g.revs then 1 else match g.st with
    | .ramp | .run | .catching => revs
    | _ => 0
  let t : State := { s with grind.ms := g.ms + 1, grind.count := min 16777215 (g.count + add) }
  match g.st with
  | .ramp =>
    let n := min (s.pn 0x2814 * 1000) (g.target + g.rampAcc)
    done { t with grind.target := n, grind.rpm := w24 (n / 1000) }
  | .run | .stopping => done (grindLoop rpm t)
  | .coast | .catching => done { t with grind.rpm := rpm }
  | .fault => done (if g.still then t else { t with grind.rpm := rpm })
  | _ => done t

/-- GRIND_DONE (R401): the dose is reached. -/
def execGrindDone (s : State) : Host.Outcome State Fault Refusal :=
  doneIf (s.grind.doseRun && !(s.grind.st = .stopped) && s.grind.dose ≤ s.grind.count) grindDoseEnd s

/-- GRIND_ROTOR_LOSS (R403, R405). -/
def execGrindRotorLoss (jump : Bool) (rpm : W24) (s : State) : Host.Outcome State Fault Refusal :=
  doneIf (s.grind.st = .run) (fun s =>
    let t := raise 0x2805 4 (w24 (bit jump)) rpm s
    if s.grind.attempt = 2 then grindLost t
    else { t with grind.st := .catching, grind.attempt := s.grind.attempt + 1, grind.settled := false, grind.switching := false, grind.iq := 0, grind.rpm := rpm }) s

/-- CATCH_SETTLE (R404, step 2). -/
def execCatchSettle (s : State) : Host.Outcome State Fault Refusal :=
  doneIf (s.grind.st = .catching && !s.grind.settled) (fun s => { s with grind.settled := true }) s

/-- CATCH_MEASURED (R404, steps 3 and 4): the speed signed in the running direction, none without four crossings. -/
def execCatchMeasured (rpm : Option W24) (s : State) : Host.Outcome State Fault Refusal :=
  doneIf (s.grind.st = .catching && s.grind.settled && !s.grind.switching) (fun s => match rpm with
    | none => catchFail s
    | some v =>
      let t : State := { s with grind.measured := v, grind.rpm := v }
      if (s.pn 0x2824 : Int) ≤ v.int then { t with grind.switching := true } else grindLost t) s

/-- GRIND_RELOCKED (R404, step 5). -/
def execGrindRelocked (s : State) : Host.Outcome State Fault Refusal :=
  doneIf (s.grind.st = .catching && s.grind.switching) (fun s =>
    raise 0x2806 3 (w24 s.grind.attempt.val) s.grind.measured
      { s with grind.st := .run, grind.settled := false, grind.switching := false, grind.target := s.grind.measured.toNat * 1000, grind.integ := 0 }) s

/-- CATCH_TIMEOUT (R404): 5 ms of switching without re-lock. -/
def execCatchTimeout (s : State) : Host.Outcome State Fault Refusal :=
  doneIf (s.grind.st = .catching && s.grind.switching) catchFail s

/-- RELOCK_HOLD_END (R405): the episode ends in RUN. -/
def execRelockHoldEnd (s : State) : Host.Outcome State Fault Refusal :=
  doneIf (s.grind.st = .run && s.grind.attempt != 0) (fun s => { s with grind.attempt := 0 }) s

/-- GRIND_JAM (R406). -/
def execGrindJam (rpm : W24) (s : State) : Host.Outcome State Fault Refusal :=
  doneIf (s.grind.st = .run) (fun s =>
    let t := grindCoast .jam (grindEnd .internal 4 (raise 0x2808 5 (w24i s.grind.iq) rpm s))
    { t with grind.unjamEn := s.pb 0x2829, grind.unjamMa := s.pn 0x282A, grind.unjamDeg := s.pn 0x282B }) s

/-- GRIND_UNJAM (R407): the reverse pulse is done. -/
def execGrindUnjam (s : State) : Host.Outcome State Fault Refusal :=
  doneIf (s.grind.st = .unjam && s.grind.precharge.isNone && s.grind.switching) (fun s =>
    raise 0x2809 3 (w24 s.grind.unjamDeg) 0 { s with grind.switching := false, grind.vec := 0 }) s

/-- FAULT entered at standstill. -/
def grindFaultAt (cause : Nat) (s : State) : State := { s with grind.st := .fault, grind.cause := Fin.ofNat 6 cause }

/-- GRIND_STANDSTILL (R393, Table 13-3): the state that the coast leads to; a retry starts at its precharge. No UNJAM begins at L1 or
deeper (DEDUCED, log 115). -/
def execGrindStandstill (s : State) : Host.Outcome State Fault Refusal :=
  let s1 : State := { s with grind.still := true, grind.rpm := 0 }
  if s.gates != .off then .next s else
  match s.grind.st with
  | .coast =>
    done (grindStopsDone (match s.grind.after with
      | .stopped => grindEnable { s1 with grind.st := .stopped }
      | .retry => { s1 with grind.precharge := some false }
      | .faultStart => grindFaultAt 1 s1
      | .faultLost => grindFaultAt 2 s1
      | .jam =>
        if s.grind.unjamEn && s.permit 3 && s.effLevel = 0 then { s1 with grind.st := .unjam, grind.precharge := some true }
        else grindFaultAt 3 s1))
  | .unjam => done (grindStopsDone (grindFaultAt 3 s1))
  | .fault =>
    done (grindStopsDone (if s.grind.clearDue then { s1 with grind.st := .stopped, grind.cause := 0, grind.clearDue := false } else s1))
  | _ => .next s

/-- GRIND_OVERCURRENT (R394). -/
def execGrindOvercurrent (phase : Fin 3) (ma : W24) (s : State) : Host.Outcome State Fault Refusal :=
  doneIf (s.grind.st != .disabled) (fun s => raise 0x280A 5 (w24 phase.val) ma (grindProtect 4 s)) s

/-- GRIND_GATE_UV (R394): 0 GVDD, 1 to 3 the bootstraps. -/
def execGrindGateUv (which : Fin 4) (s : State) : Host.Outcome State Fault Refusal :=
  doneIf (s.grind.st != .disabled) (fun s => raise 0x280B 5 (w24 which.val) 0 (grindProtect 5 s)) s

end Sys2Proof.Machine
end

