-- ==== Sys2Proof/Machine/Frames.lean ====
section
/-! DEFINITION. The frames of the Awn link (Tables 8-5 and 8-6, R247, R248): their fields, the fifteen words that carry them,
and what a receiver reads from fifteen words. -/

namespace Sys2Proof.Machine

/-- The fields of a G-frame (Table 8-5). -/
structure GFrame where
  kind : BitVec 4
  strobe : BitVec 1
  sleep : BitVec 1
  discard : BitVec 1
  safeNow : BitVec 1
  seq : BitVec 16
  cmd : BitVec 24
  permits : BitVec 10
  clr : BitVec 8
  pulseCh : BitVec 5
  pulse : BitVec 1
  pulseTime : BitVec 24
  slice : BitVec 6
  shadow : BitVec 1
  w0 : W24
  w1 : W24
  w2 : W24
  w3 : W24
  w4 : W24
  w5 : W24
  w6 : W24
  w7 : W24
  deriving DecidableEq, Repr

/-- The fields of an H-frame (Table 8-6). -/
structure HFrame where
  kind : BitVec 4
  configured : BitVec 1
  hot : BitVec 1
  silenced : BitVec 1
  seq : BitVec 16
  inputs : BitVec 16
  drivers : BitVec 24
  wb : BitVec 16
  clrEcho : BitVec 8
  faults : BitVec 24
  set : BitVec 1
  vbOn : BitVec 2
  vbTrip : BitVec 2
  demag : BitVec 2
  cleared : BitVec 8
  echoes : BitVec 3
  c0 : W24
  c1 : W24
  c2 : W24
  c3 : W24
  gSeq : BitVec 16
  slice : BitVec 6
  shadow : BitVec 1
  repaired : BitVec 1
  f24 : W24
  temp : W24
  diagIdx : BitVec 6
  diag : BitVec 18
  deriving DecidableEq, Repr

/-- Words 0 to 13 of a G-frame. -/
def GFrame.body (g : GFrame) : List W24 :=
  [g.kind ++ g.strobe ++ g.sleep ++ g.discard ++ g.safeNow ++ g.seq,
   g.cmd,
   (0#14 : BitVec 14) ++ g.permits,
   (0#10 : BitVec 10) ++ g.pulse ++ g.pulseCh ++ g.clr,
   g.pulseTime,
   (0#17 : BitVec 17) ++ g.shadow ++ g.slice,
   g.w0, g.w1, g.w2, g.w3, g.w4, g.w5, g.w6, g.w7]

/-- Words 0 to 13 of an H-frame. -/
def HFrame.body (h : HFrame) : List W24 :=
  [h.kind ++ h.configured ++ h.hot ++ h.silenced ++ (0#1 : BitVec 1) ++ h.seq,
   (0#8 : BitVec 8) ++ h.inputs,
   h.drivers,
   h.clrEcho ++ h.wb,
   h.faults,
   (0#6 : BitVec 6) ++ h.echoes ++ h.cleared ++ h.demag ++ h.vbTrip ++ h.vbOn ++ h.set,
   h.c0, h.c1, h.c2, h.c3,
   h.repaired ++ h.shadow ++ h.slice ++ h.gSeq,
   h.f24, h.temp,
   h.diagIdx ++ h.diag]

/-- The fifteen words of a G-frame, the CRC-24 last (R248). -/
def encodeG (g : GFrame) : List W24 := g.body ++ [crc24 g.body]
/-- The fifteen words of an H-frame. -/
def encodeH (h : HFrame) : List W24 := h.body ++ [crc24 h.body]

/-- The types a receiver knows (Table 8-5): HELLO, DATA, KEEPALIVE. -/
def knownKind (k : BitVec 4) : Bool := k = 0x3#4 || k = 0x5#4 || k = 0xA#4

/-- A G-frame read from its words: none where it is bad for its length, its CRC, its type or a reserved bit (R247, R249). -/
def decodeG (l : List W24) : Option GFrame := match l with
  | [a, b, c, d, e, f, w0, w1, w2, w3, w4, w5, w6, w7, x] =>
    if x = crc24 [a, b, c, d, e, f, w0, w1, w2, w3, w4, w5, w6, w7] && knownKind (a.extractLsb' 20 4) &&
        c.extractLsb' 10 14 = 0#14 && d.extractLsb' 14 10 = 0#10 && f.extractLsb' 7 17 = 0#17 then
      some { kind := a.extractLsb' 20 4, strobe := a.extractLsb' 19 1, sleep := a.extractLsb' 18 1, discard := a.extractLsb' 17 1,
             safeNow := a.extractLsb' 16 1, seq := a.extractLsb' 0 16, cmd := b, permits := c.extractLsb' 0 10, clr := d.extractLsb' 0 8,
             pulseCh := d.extractLsb' 8 5, pulse := d.extractLsb' 13 1, pulseTime := e, slice := f.extractLsb' 0 6,
             shadow := f.extractLsb' 6 1, w0 := w0, w1 := w1, w2 := w2, w3 := w3, w4 := w4, w5 := w5, w6 := w6, w7 := w7 }
    else none
  | _ => none

/-- An H-frame read from its words (R247, R249). -/
def decodeH (l : List W24) : Option HFrame := match l with
  | [a, b, c, d, e, f, c0, c1, c2, c3, g, v, t, m, x] =>
    if x = crc24 [a, b, c, d, e, f, c0, c1, c2, c3, g, v, t, m] && knownKind (a.extractLsb' 20 4) &&
        a.extractLsb' 16 1 = 0#1 && b.extractLsb' 16 8 = 0#8 && f.extractLsb' 18 6 = 0#6 then
      some { kind := a.extractLsb' 20 4, configured := a.extractLsb' 19 1, hot := a.extractLsb' 18 1, silenced := a.extractLsb' 17 1,
             seq := a.extractLsb' 0 16, inputs := b.extractLsb' 0 16, drivers := c, wb := d.extractLsb' 0 16, clrEcho := d.extractLsb' 16 8,
             faults := e, set := f.extractLsb' 0 1, vbOn := f.extractLsb' 1 2, vbTrip := f.extractLsb' 3 2, demag := f.extractLsb' 5 2,
             cleared := f.extractLsb' 7 8, echoes := f.extractLsb' 15 3, c0 := c0, c1 := c1, c2 := c2, c3 := c3,
             gSeq := g.extractLsb' 0 16, slice := g.extractLsb' 16 6, shadow := g.extractLsb' 22 1, repaired := g.extractLsb' 23 1,
             f24 := v, temp := t, diagIdx := m.extractLsb' 18 6, diag := m.extractLsb' 0 18 }
    else none
  | _ => none

/-- A frame as it arrives: the words sent with the channel's errors, word by word, XORed in. -/
def noisy (l : List W24) : List W24 → List W24
  | [] => l
  | n :: ns => match l with
    | [] => []
    | w :: ws => (w ^^^ n) :: noisy ws ns

/-- The start of a frame lies within 31.25 µs ± 5 % of the previous valid frame's start, in ns (R249). -/
def inPeriod (ns : Nat) : Bool := 59375 ≤ 2 * ns && 2 * ns ≤ 65625

/-- Counted back from the newest sequence sent, frame `h` is frame `q` or a later one. -/
def seqFrom (newest q h : W16) : Bool := (newest - h).toNat ≤ (newest - q).toNat

end Sys2Proof.Machine
end

