-- ==== Sys2Proof/Machine/Field.lean ====
section
/-! DEFINITION. Field I/O, the Grain side (08): what LINK sends and what it takes from an H-frame, STALE, field writes, pulses,
counter clears, and the host's field commands. What the Husk finds reaches LINK by H-frames alone (R13). -/

namespace Sys2Proof.Machine

/-- FLD_FUNC in force. -/
def State.func (s : State) (c : Nat) : Nat := s.pn (fldP c 0)
/-- The bank of a valve channel. -/
def bankOf (c : Nat) : Option (Fin 2) := if 24 ≤ c && c < 28 then some 0 else if 28 ≤ c && c < 32 then some 1 else none
/-- The overlap mode of a bank (Table 8-9). -/
def State.overlap (s : State) (b : Fin 2) : Nat := s.pn (0x3401 + b.val)
/-- The valve channels of a bank as channel bits. -/
def bankMask (b : Fin 2) : BitVec 24 := if b = 0 then 0x0F0000 else 0xF00000

/-- Bit k of a 24-bit map names channel k + 8. -/
abbrev chBit (c : Nat) : BitVec 24 := BitVec.twoPow 24 (c - 8)

/-- The channels 8 to 31 for which a predicate holds, as channel bits. -/
def chMask (p : Nat → Bool) : BitVec 24 :=
  BitVec.ofNat 24 ((List.range 24).foldr (fun k n => (if p (k + 8) then 2 ^ k else 0) + n) 0)

/-- The channels 8 to 31 that a mask names, in rising order. -/
def chansOf (m : BitVec 24) : List Nat := ((List.range 24).filter (fun k => m.getLsbD k)).map (· + 8)

/-- The channels that the permits of a G-frame let conduct (R236). -/
def grantedBits (permits : BitVec 10) : BitVec 24 :=
  chMask (fun c => match bankOf c with
    | some b => permits.getLsbD b.val
    | none => c < 16 || permits.getLsbD (c - 16 + 2))

/-- The permit word of a G-frame (Table 8-5, word 2). -/
def State.permitBits (s : State) : BitVec 10 :=
  BitVec.ofNat 10 (bit (s.permit 6) + 2 * bit (s.permit 7) + 4 * (s.grd.permits.extractLsb' 8 8).toNat)

/-- SAFE_NOW (R259). -/
def State.safeNow (s : State) : Bool := 3 ≤ s.sup.level.val || s.grd.st = .trip

/-- The brake channel of an enabled lift or the lock channel of an enabled door, under the parameter words `p` (R237). -/
def fastOwned (p : Nat → W24) (c : Nat) : Bool :=
  c < 24 && ((p 0x2000 != 0 && p 0x2002 = w24 c) || (List.range 2).any (fun k => p (drP k 0) != 0 && p (drP k 3) = w24 c))

/-- Word k of slice c under the parameter words `p`: a brake or lock channel follows FASTOFF with safe state OFF whatever its own
parameters hold (R237, DESIGN CHOICE, log 101). -/
def fieldWord (p : Nat → W24) (c k : Nat) : W24 :=
  if 32 ≤ c then p (0x3400 + 8 * (c - 32) + k)
  else if k = 3 && fastOwned p c then 1 else if k = 4 && fastOwned p c then 0 else p (fldP c k)

/-- The value that a PID has once the transaction is applied: the staged one, else the one in force (R187, R255). -/
def State.after (s : State) (pid : Nat) : W24 := (s.txn.staged.lookup pid).getD (s.pv pid)

/-- Word k of active slice c as LINK sends it: the values in force (R252). -/
def State.sliceWord (s : State) (c k : Nat) : W24 := fieldWord s.pv c k
/-- Word k of a shadow slice (R255). -/
def State.shadowWord (s : State) (c k : Nat) : W24 := fieldWord s.after c k
/-- The slice of a PID of blocks 0x30 and 0x34. -/
def sliceOf (pid : Nat) : Option (Fin 36) :=
  if pid / 256 = 0x30 then some (Fin.ofNat 36 (pid % 256 / 8)) else if pid / 256 = 0x34 && pid % 256 < 32 then some (Fin.ofNat 36 (32 + pid % 256 / 8)) else none

/-- The active slice of a PID sent before the refresh reaches it (Table 8-8, "Next frame"). -/
def sliceDue (pid : Nat) (s : State) : State := match sliceOf pid with
  | none => s
  | some c => if s.awn.liveDue.contains c then s else { s with awn.liveDue := s.awn.liveDue ++ [c] }

/-- A shadow slice to be sent with its present words until an H-frame acknowledges it (R255). -/
def shadowDue (pid : Nat) (s : State) : State := match sliceOf pid with
  | none => s
  | some c => { s with awn.shadow := s.awn.shadow.filter (fun p => p.1 != c) ++ [(c, none)] }

/-- A channel that the lift engine or a door drives (R237). -/
def State.lifted (s : State) (c : Nat) : Bool :=
  (s.pb 0x2000 && s.chan 0x2002 = some c) ||
    (List.range 2).any (fun k => s.pb (drP k 0) && (s.chan (drP k 3) = some c || s.chan (drP k 7) = some c))

/-! ### What LINK sends (R246 to R252, R255, R259, R271, R528) -/

/-- LINK may make requests: the handshake has ended (R528). -/
def AwnSt.mayRequest (a : AwnSt) : Bool := a.up && a.mode != .hello

/-- The toggles to send: a request that is due is made only while the echo equals the bit (R528). -/
def nextToggles (a : AwnSt) (pulse : Bool) : Toggles :=
  let due := a.clrDue &&& ~~~ (a.tog.clr ^^^ a.echo.clr)
  { strobe := if a.strobeDue && a.tog.strobe = a.echo.strobe then !a.tog.strobe else a.tog.strobe
    discard := if a.discardDue && a.tog.discard = a.echo.discard then !a.tog.discard else a.tog.discard
    pulse := if pulse && a.tog.pulse = a.echo.pulse then !a.tog.pulse else a.tog.pulse
    clr := a.tog.clr ^^^ due }

/-- The frame type that LINK or FIELD sends. -/
def LinkMode.kind : LinkMode → BitVec 4
  | .hello => 0x3 | .data => 0x5 | .sleep => 0xA

/-- The pulse whose request the next frame makes: the oldest without one, once the echo of the one before has come (R528). -/
def AwnSt.pulseNow (a : AwnSt) : Option PulseCmd :=
  if a.mayRequest && a.tog.pulse = a.echo.pulse then a.pulses.find? (fun p => p.seq.isNone) else none

/-- The slice of the next DATA frame: its number and whether it is a shadow slice. A slice of the refresh goes in at least every other
frame; in the others one with a new live value goes first, then a shadow slice (R252, R255, Table 8-8). -/
def AwnSt.sliceNow (a : AwnSt) : Fin 36 × Bool :=
  if a.activeTurn then (a.slice, false) else match a.liveDue with
    | c :: _ => (c, false)
    | [] => match a.shadow with
      | p :: _ => (p.1, true)
      | [] => (a.slice, false)

/-- The refresh after a DATA frame with sequence `q`. -/
def AwnSt.sliceSent (a : AwnSt) (q : W16) : AwnSt :=
  let on : AwnSt := { a with slice := Fin.ofNat 36 (a.slice.val + 1), activeTurn := false }
  if a.activeTurn then on else match a.liveDue with
    | _ :: l => { a with liveDue := l, activeTurn := true }
    | [] => match a.shadow with
      | p :: l => { a with shadow := l ++ [(p.1, some (p.2.getD q))], activeTurn := true }
      | [] => on

/-- The writes that a frame with sequence `q` carries: those that no H-frame has acknowledged, and the lift engine's channels, which
it writes with every frame (log 89). -/
def State.writesNow (s : State) (q : W16) : List GWrite :=
  { seq := q, mask := chMask s.lifted, serial := 0 } ::
    (s.awn.writes.filter (fun w => !w.acked && w.early.isNone)).map (fun w => { seq := w.seq.getD q, mask := w.mask, serial := w.serial })

/-- LINK starts a G-frame. A pulse's channel leaves the commanded state with its request: from then on the Husk times it (R273). -/
def sendG (noise : List W24) (period : Nat) (s : State) : State :=
  let a := s.awn
  let data : Bool := a.mode = .data
  let q := a.seq + 1
  let p := a.pulseNow
  let tg := if a.mayRequest then nextToggles a p.isSome else a.tog
  let pc := (p.map PulseCmd.ch).getD a.pulseCh
  let pt := (p.map PulseCmd.time).getD a.pulseTime
  let cmd := if p.isSome then setB a.cmd pc.val false else a.cmd
  let sl := a.sliceNow
  let word (k : Nat) : W24 := if !data then 0 else if sl.2 then s.shadowWord sl.1.val k else s.sliceWord sl.1.val k
  let g : GFrame :=
    { kind := a.mode.kind, strobe := BitVec.ofBool tg.strobe, sleep := BitVec.ofBool s.glb.sleep, discard := BitVec.ofBool tg.discard
      safeNow := BitVec.ofBool s.safeNow, seq := q, cmd := cmd, permits := s.permitBits, clr := tg.clr, pulseCh := BitVec.ofNat 5 (pc.val + 8)
      pulse := BitVec.ofBool tg.pulse, pulseTime := pt, slice := if data then BitVec.ofNat 6 sl.1.val else 63, shadow := BitVec.ofBool (data && sl.2)
      w0 := word 0, w1 := word 1, w2 := word 2, w3 := word 3, w4 := word 4, w5 := word 5, w6 := word 6, w7 := word 7 }
  let b : AwnSt := if data then a.sliceSent q else a
  { s with awn := { b with
    seq := q, tog := tg, pulseCh := pc, pulseTime := pt, cmd := cmd
    strobeDue := a.strobeDue && tg.strobe = a.tog.strobe
    discardDue := a.discardDue && tg.discard = a.tog.discard
    clrDue := a.clrDue &&& ~~~ (tg.clr ^^^ a.tog.clr)
    dataSeq := if data then some (a.dataSeq.getD q) else a.dataSeq
    pulses := if p.isSome then a.pulses.map (fun x => if x.ch = pc then { x with seq := some q } else x) else a.pulses
    writes := if a.mode = .hello then a.writes else a.writes.map (fun w => if w.seq.isNone then { w with seq := some q } else w)
    gAir := some { words := noisy (encodeG g) noise, period := period, known := a.silenced
                   writes := if a.mode = .hello then [] else s.writesNow q
                   pulseSerial := match p with
                     | some x => x.serial
                     | none => (a.pulses.filter (fun x => x.ch = pc && x.seq.isSome)).any PulseCmd.serial }
    age := a.age.map (fun n => n + 1) } }

/-! ### Field commands that have not ended -/

/-- A field write's early end: once journaled its outcome follows, else it is kept for its journaling (R271). -/
def endWrite (id : Nat) (st : Status) (extra : Byte) (s : State) : State :=
  match s.awn.writes.find? (fun w => w.id = id) with
  | none => s
  | some w => match w.ref with
    | some r => finish r st 0 extra { s with awn.writes := s.awn.writes.filter (fun x => x.id != id) }
    | none => { s with awn.writes := s.awn.writes.map (fun x => if x.id = id && x.early.isNone then { x with early := some (st, extra), wait := 0 } else x) }

/-- The field writes that a predicate picks end early. -/
def endWrites (p : FieldCmd → Bool) (st : Status) (extra : Byte) (s : State) : State :=
  ((s.awn.writes.filter (fun w => p w && w.early.isNone)).map FieldCmd.id).foldl (fun t i => endWrite i st extra t) s

/-- The pulses that a predicate picks end with a status (R236, R241, R263, R273). -/
def endPulsesIf (p : PulseCmd → Bool) (st : Status) (extra : Byte) (s : State) : State :=
  finishAll ((s.awn.pulses.filter p).map PulseCmd.ref) st 0 extra { s with awn.pulses := s.awn.pulses.filter (fun x => !p x) }

/-- The pulses on channels of a mask end. -/
def endPulses (m : BitVec 24) (st : Status) (extra : Byte) (s : State) : State := endPulsesIf (fun p => m.getLsbD p.ch.val) st extra s

/-- The field writes that wait on channels of a mask, and the pulses on them, end with a status (R241). With `flight` so do the writes
that no H-frame has acknowledged and that switch one of them on: such a write waits for its frame (R236, R263). -/
def endField (flight : Bool) (m : BitVec 24) (st : Status) (extra : Byte) (s : State) : State :=
  endWrites (fun w => (w.wait ||| (if flight && !w.acked then w.on else 0)) &&& m != 0#24) st extra (endPulses m st extra s)

/-- Every field write and pulse that has not ended ends with a status (R263). -/
def endAllField (st : Status) (extra : Byte) (s : State) : State := endWrites (fun _ => true) st extra (endPulsesIf (fun _ => true) st extra s)

/-- The journaling of a FIELD_WRITE (R271): OK when every change is acknowledged and no channel waits, else QUEUED, with an
early outcome at once. The decoder is free again. -/
def journalWrite (d : Desc) (id : Nat) (s : State) : State :=
  let op : Byte := 0x48
  match s.awn.writes.find? (fun w => w.id = id) with
  | none => { s with ring.block := none }
  | some w =>
    let s : State := { s with ring.block := none }
    let drop (t : State) : State := { t with awn.writes := t.awn.writes.filter (fun x => x.id != id) }
    match w.early with
    | some (st, e) =>
      let r := s.nextRef op d
      finish r st 0 e (drop (acceptRun op d .queued 0 0 s))
    | none =>
      if w.acked && w.wait = 0#24 then drop (acceptOk op d 0 0 s)
      else
        let r := s.nextRef op d
        let t := acceptRun op d .queued 0 0 s
        { t with awn.writes := t.awn.writes.map (fun x => if x.id = id then { x with ref := some r } else x) }

/-- A journaled write of which every change is applied. -/
def FieldCmd.over (w : FieldCmd) : Bool := w.ref.isSome && w.acked && w.wait = 0#24

/-- The journaled field writes of which every change is applied end OK (R271). -/
def settleWrites (s : State) : State :=
  finishAll ((s.awn.writes.filter FieldCmd.over).flatMap (fun w => w.ref.toList)) .ok 0 0
    { s with awn.writes := s.awn.writes.filter (fun w => !w.over) }

/-- The channels of pulses that have not ended. -/
def AwnSt.pulseMask (a : AwnSt) : BitVec 24 := chMask (fun c => a.pulses.any (fun p => p.ch.val = c - 8))

/-- Channels commanded off: a valve among them that may be on counts as clamping until an H-frame acknowledges the next frame and
reports its bank quiet (R242). -/
def cmdOff (m : BitVec 24) (s : State) : State :=
  let v := m &&& (s.awn.cmd ||| s.awn.drivers ||| s.awn.pulseMask) &&& 0xFF0000
  { s with awn.cmd := s.awn.cmd &&& ~~~ m, awn.clampCount := s.awn.clampCount ||| v
           awn.offSeq := Vector.ofFn (fun (i : Fin 24) => if v.getLsbD i.val then s.awn.seq + 1 else vget s.awn.offSeq i.val 0) }

/-! ### STALE (R261) -/

/-- The Husk's echo of a counter's clear has come. -/
def AwnSt.cleared (a : AwnSt) (k : Nat) : Bool := !a.clrDue.getLsbD k && a.echo.clr.getLsbD k = a.tog.clr.getLsbD k

/-- A COUNTER_CLEAR that waits ends INTERNAL and its request is not made any more (R272). One whose echo has come is done; the count
that the lost frame carried is a free value. -/
def failClear (s : State) : State := match s.ring.block with
  | some (.counterClear d k) =>
    let t : State := { s with ring.block := none, awn.clrDue := setB s.awn.clrDue k.val false }
    if s.awn.cleared k.val then acceptOk 0x4C d s.freeWord 0 t.tick else refuse 0x4C d .internal 0 t
  | _ => s

/-- The inputs become STALE: the event, the field commands that have not ended end INTERLOCK, the limits act (R261, R263, R272,
R308). -/
def goStale (s : State) : State :=
  if s.awn.stale then { s with awn.fresh := 0 } else
  let t := raise 0x3002 5 (w24 s.awn.missed) 0 { s with awn.stale := true, awn.staleAt := s.now, awn.fresh := 0, sup.f24 := 0xFFFFFF }
  limitScan (failClear (endAllField .interlock 0 t))

/-- No frames arrive: the inputs are STALE and F24 is not judged any more (R52, R261). -/
def unheard (s : State) : State := goStale { s with awn.hears := false, awn.exempt := true }

/-! ### What the Husk reports (log 89) -/

/-- FLD_HUSK_RESTART: the commanded state is zero, FIELD's live values end (R187, R262). -/
def foundRestart (why : Fin 2) (s : State) : State :=
  raise 0x3014 4 (w24 why.val) 0 (restoreLive 8 { s with awn.cmd := 0, awn.clampCount := 0, awn.latched := 0, awn.restarted := true })

/-- The end of a pulse: the commands whose request an earlier frame carried end OK; a bit of the commanded state that only showed the
pulse goes with it (R273). -/
def pulseOver (k : Fin 24) (seq : W16) (s : State) : State :=
  let kept : Bool := s.awn.writes.any (fun w => !w.acked && w.mask.getLsbD k.val)
  let t := if kept then s else cmdOff (BitVec.twoPow 24 k.val) s
  endPulsesIf (fun p => p.ch = k && (match p.seq with | some q => seqFrom s.awn.seq q seq | none => false)) .ok 0 t

/-- One thing that FIELD reports. A fault latch ends the commands that wait or run on its channel, a bank trip those of its bank, whose
commanded state LINK clears (R234, R241, log 104); a safe state those on its channels (R263). -/
def takeNews (s : State) : News → State
  | .event code sev w0 w1 =>
    let t := raise code sev w0 w1 s
    if code = 0x300A then endField false (chBit w0.toNat) .internal 7 { t with awn.latched := t.awn.latched ||| chBit w0.toNat }
    else if code = 0x300C then
      let m := bankMask (Fin.ofNat 2 w0.toNat)
      endField false m .internal 7 (cmdOff (m &&& ~~~ t.awn.writes.foldl (fun u w => if w.acked then u else u ||| w.mask) 0) t)
    else t
  | .wake => wake 2 s
  | .pulseEnd k seq => pulseOver k seq s
  | .safe _ m => endField true m .interlock 0 s
  | .restart why => foundRestart why s

/-- The reason of the safe states that FIELD reports. -/
def silentReason (l : List News) : Fin 3 := l.foldl (fun r n => match n with | .safe why _ => why | _ => r) 0

/-! ### An H-frame at LINK -/

/-- The words of an H-frame's counter set. -/
def HFrame.ctrs (h : HFrame) : List W24 := [h.c0, h.c1, h.c2, h.c3]
/-- The echoes of an H-frame (R528). -/
def HFrame.echo (h : HFrame) : Toggles :=
  { strobe := h.echoes.getLsbD 1, discard := h.echoes.getLsbD 2, pulse := h.echoes.getLsbD 0, clr := h.clrEcho }

/-- What every valid H-frame brings: the driver and bank states, the flags of word 0, the echoes, the Husk's temperature. -/
def takeStatus (h : HFrame) (s : State) : State :=
  { s with
    awn.drivers := h.drivers, awn.bankOn := h.vbOn, awn.bankTrip := h.vbTrip, awn.bankDemag := h.demag
    awn.configured := h.configured = 1#1, awn.huskHot := h.hot = 1#1, awn.silenced := h.silenced = 1#1
    awn.diag := h.diagIdx ++ h.diag, awn.hSeq := h.seq, awn.echo := h.echo
    sup.temp := s.sup.temp.setIfInBounds 2 h.temp }

/-- The input states, flags and counters, which keep their last values while they are STALE (R261), with the latches and limits that
see them. -/
def takeInputs (h : HFrame) (s : State) : State :=
  if s.awn.stale then s else
  let base := 4 * h.set.toNat
  limitScan (latchScan s.awn.inputs { s with
    awn.inputs := h.inputs, awn.wb := h.wb, awn.faults := h.faults, sup.f24 := h.f24
    awn.counters := Vector.ofFn (fun (i : Fin 8) => if base ≤ i.val && i.val < base + 4 then h.ctrs.getD (i.val - base) 0 else vget s.awn.counters i.val 0)
    awn.age := Vector.ofFn (fun (i : Fin 8) => if base ≤ i.val && i.val < base + 4 then 0 else vget s.awn.age i.val 0) })

/-- A bank in which no valve can be waiting any more: none on or clamping, its switch off and not tripped. -/
def AwnSt.bankIdle (a : AwnSt) (b : Fin 2) : Bool :=
  a.drivers &&& bankMask b = 0#24 && !a.bankDemag.getLsbD b.val && !a.bankOn.getLsbD b.val && !a.bankTrip.getLsbD b.val

/-- The acknowledged field writes (R271): a waiting valve is applied once its driver is on; a fault latch keeps it off and ends its
wait, and a write of off clears it (R234). Valves commanded off stop counting as on (R242). -/
def ackWrites (h : HFrame) (s : State) : State :=
  let got (w : FieldCmd) : Bool := !w.acked && (match w.seq with | some q => seqFrom s.awn.seq q h.gSeq | none => false)
  let off := s.awn.writes.foldl (fun m w => if got w then m ||| (w.mask &&& ~~~ w.on) else m) 0
  let held := s.awn.latched &&& ~~~ off
  let idle := (if s.awn.bankIdle 0 then bankMask 0 else 0) ||| (if s.awn.bankIdle 1 then bankMask 1 else 0)
  { s with
    awn.latched := held
    awn.writes := s.awn.writes.map (fun w => if w.acked || got w then { w with acked := true, wait := w.wait &&& ~~~ (h.drivers ||| held ||| idle) } else w)
    awn.clampCount := s.awn.clampCount &&& ~~~ chMask (fun c => match bankOf c with
        | none => true
        | some b => seqFrom s.awn.seq (vget s.awn.offSeq (c - 8) 0) h.gSeq && !h.demag.getLsbD b.val && !h.drivers.getLsbD (c - 8)) }

/-- The acknowledgement of a shadow slice: by a frame that carried its present words (R255). -/
def ackShadow (h : HFrame) (s : State) : State :=
  if h.shadow = 1#1 then
    { s with awn.shadow := s.awn.shadow.filter (fun p => !(p.1.val = h.slice.toNat && (match p.2 with | some q => seqFrom s.awn.seq q h.gSeq | none => false))) }
  else s

/-- The counter clear that the decoder waits for, once its echo has come and a frame has carried its counter (R232, R528): the count
before the clear, a free value where the frame with it was bad. -/
def ackClear (h : HFrame) (s : State) : State := match s.ring.block with
  | some (.counterClear d k) =>
    if !s.awn.cleared k.val || h.set.toNat != k.val / 4 then s
    else if h.cleared.getLsbD k.val then acceptOk 0x4C d (h.ctrs.getD (k.val % 4) 0) 0 { s with ring.block := none }
    else acceptOk 0x4C d s.freeWord 0 { s.tick with ring.block := none }
  | _ => s

/-- FLD_FRESH after two consecutive valid configured frames (R261). -/
def freshen (s : State) : State :=
  if !s.awn.stale then s
  else if s.awn.fresh + 1 < 2 then { s with awn.fresh := s.awn.fresh + 1 }
  else raise 0x3003 3 (sat24 (s.now - s.awn.staleAt)) 0 { s with awn.stale := false, awn.fresh := 0 }

/-- The F24 that the first valid frame after the Husk's resume reports (R52): F24_GOOD at once where it is good. -/
def judgeF24 (h : HFrame) (s : State) : State :=
  if s.sup.f24State != 2 then s else
  let t : State := { s with sup.f24State := 0 }
  if s.pn 0x0210 ≤ h.f24.toNat then raise 0x0212 2 h.f24 0 t else t

/-- The commanded state that LINK takes from the reported drivers: what the permits let conduct; the channels of writes that are on
their way or wait stay as commanded (R236, R251, R260). -/
def adoptDrivers (s : State) : State :=
  let own := s.awn.writes.foldl (fun m w => if w.early.isSome then m else m ||| w.wait ||| (if w.acked then 0 else w.mask)) 0
  { s with awn.cmd := (s.awn.cmd &&& own) ||| (s.awn.drivers &&& grantedBits s.permitBits &&& ~~~ own) }

/-- SILENCE_APPLIED: logged when it is first seen, the reported drivers adopted while it stands (R260, R263). -/
def takeSilence (was : Bool) (l : List News) (s : State) : State :=
  if !s.awn.silenced then s
  else adoptDrivers (if was then s else raise 0x3004 5 s.awn.drivers (w24 (silentReason l).val) s)

/-- LINK sends HELLO again: a new handshake (R251). A strobe or discard whose echo has not come is not made again, and the shadow
slices that it left on the Husk are to be forgotten (R255, DEDUCED, log 111). -/
def helloAgain (a : AwnSt) : AwnSt :=
  { a with mode := .hello, heard := 0, up := false, heardData := false, dataSeq := none, clrDue := 0, strobeDue := false
           discardDue := a.discardDue || a.strobeDue || a.tog.strobe != a.echo.strobe || a.tog.discard != a.echo.discard }

/-- The handshake at LINK (R251, R528): a HELLO after DATA begins it anew; after four valid frames LINK sends DATA, with the reported
drivers and echoes taken; FLD_LINK_UP at the first valid DATA frame that acknowledges one of LINK's. -/
def heardH (h : HFrame) (s : State) : State :=
  let s : State := if h.kind = 0x3#4 && s.awn.heardData then { failClear s with awn := helloAgain (failClear s).awn } else s
  let s : State := { s with awn.heard := s.awn.heard + 1, awn.heardData := s.awn.heardData || h.kind = 0x5#4 }
  if s.awn.mode = .hello then
    (if s.awn.heard < 4 then s else adoptDrivers { s with awn.mode := .data, awn.tog := h.echo })
  else if !s.awn.up && h.kind = 0x5#4 && (match s.awn.dataSeq with | some q => seqFrom s.awn.seq q h.gSeq | none => false) then
    raise 0x3001 2 0 0 { s with awn.up := true }
  else s

/-- A valid H-frame's effects, whatever its type. -/
def takeH (h : HFrame) (s : State) : State :=
  let was := s.awn.silenced
  let news := s.awn.hNews
  let s : State := { s with awn.hAir := none, awn.hNews := [], awn.badRun := false, awn.exempt := false, awn.missed := 0, awn.hears := true }
  let s := heardH h (takeStatus h s)
  let s := takeSilence was news (news.foldl takeNews s)
  let s := if h.configured = 1#1 then freshen (judgeF24 h s) else goStale (judgeF24 h s)
  let s := if h.repaired = 1#1 then raise 0x3010 4 (w24 h.slice.toNat) 0 s else s
  let s := settleWrites (ackClear h (ackShadow h (ackWrites h s)))
  let s : State := if s.awn.up && s.awn.configured then { s with awn.restarted := false } else s
  takeInputs h s

/-- A bad or an absent H-frame: FLD_CRC_ERR at the first bad one of a run (R249); two valid frames are no longer consecutive. -/
def badH (absent : Bool) (s : State) : State :=
  let t : State := { s with awn.hAir := none, awn.missed := s.awn.missed + 1, awn.fresh := 0, awn.exempt := true }
  if absent || s.awn.badRun then t else raise 0x3005 3 1 (s.awn.hSeq.zeroExtend 24) { t with awn.badRun := true }

/-- LINK receives what is on the wire (R249); the FIELD clock is measured from the frame period (R111). -/
def receiveH (noise : List W24) (period : Nat) (s : State) : State :=
  match s.awn.hAir with
  | none => badH true s
  | some l =>
    let exempt := s.awn.exempt
    let s : State := if exempt then s else
      { s with clk.fieldKhz := sat24 (1500000000 / max 1 period), clk.good := setB s.clk.good 10 (inPeriod period)
               clk.latch := if inPeriod period then s.clk.latch else setB s.clk.latch 10 true }
    match decodeH (noisy l noise) with
    | some h => if exempt || inPeriod period then takeH h s else badH false s
    | none => badH false s

/-! ### Host commands (Table 6-14) -/

/-- The valves of a bank that the Grain side counts as on or clamping (R242). -/
def State.busyValves (s : State) (b : Fin 2) : BitVec 24 := (s.awn.cmd ||| s.awn.drivers ||| s.awn.clampCount ||| s.awn.pulseMask) &&& bankMask b

/-- Whether a set of valves switched on meets another valve of its bank on or clamping, or itself holds two (R242). -/
def State.conflicts (s : State) (b : Fin 2) (on : BitVec 24) : Bool :=
  let newOn := on &&& bankMask b
  newOn != 0#24 && ((s.busyValves b &&& ~~~ newOn) != 0#24 || 1 < (chansOf newOn).length)

/-- The valves of a SERIAL bank that wait: all but the first where the bank is free, all where it is not (R243); a valve that is on or
latched does not wait (R234). -/
def State.waits (s : State) (b : Fin 2) (on : BitVec 24) : BitVec 24 :=
  let newOn := on &&& bankMask b &&& ~~~ (s.awn.drivers ||| s.awn.latched)
  if s.overlap b != 1 then 0
  else if (s.busyValves b &&& ~~~ newOn) != 0#24 then newOn
  else match chansOf newOn with
    | [] => 0
    | c :: _ => newOn &&& ~~~ chBit c

/-- The valves of a set whose bank runs SERIAL (R243, R270). -/
def State.serialOf (s : State) (on : BitVec 24) : BitVec 24 :=
  on &&& ((if s.overlap 0 = 1 then bankMask 0 else 0) ||| (if s.overlap 1 = 1 then bankMask 1 else 0))

/-- FIELD_WRITE (Table 6-14, R164, R176, R234 to R237, R241 to R243, R271 to R273). The decoder then waits. -/
def decFieldWrite (d : Desc) (s : State) : State :=
  let op : Byte := 0x48
  let mask : BitVec 24 := (d.d5.extractLsb' 0 8 : BitVec 8) ++ ((arg24 d.d3).extractLsb' 8 16 : BitVec 16)
  let vals : BitVec 24 := (d.d5.extractLsb' 8 8 : BitVec 8) ++ ((arg24 d.d4).extractLsb' 8 16 : BitVec 16)
  let low := (arg24 d.d3).extractLsb' 0 8 != 0#8
  gate op d (formOk d false false mA mA 0xFFFF m0 m0 && !low && (chansOf mask).all (fun c => s.func c = 3)) s fun s =>
  let on := mask &&& vals
  let off := mask &&& ~~~ vals
  if s.awn.stale then refuse op d .interlock 0 s
  else if (chansOf mask).any s.lifted then refuse op d .busy 1 s
  else if on != 0#24 && s.glb.sleep then refuse op d .busy 2 s
  else if on != 0#24 && 3 ≤ s.effLevel then refuse op d .shed 0 s
  else if (chansOf on).any (fun c => !s.outGranted c) then refuse op d .interlock 0 s
  else if (s.overlap 0 = 2 && s.conflicts 0 on) || (s.overlap 1 = 2 && s.conflicts 1 on) then refuse op d .busy 0 s
  else
    let wait := s.waits 0 on ||| s.waits 1 on
    let ser := s.serialOf on
    let t := endWrites (fun w => w.wait &&& off != 0#24) .superseded 0 (cmdOff off s)
    let t := endPulses mask .superseded 0 t
    let id := t.awn.nextId
    { t with
      awn.cmd := t.awn.cmd ||| on
      awn.nextId := id + 1
      awn.writes := t.awn.writes ++ [{ id := id, mask := mask, on := on, serial := ser, wait := wait }]
      ring.block := some (.fieldWrite d id) }

/-- FIELD_PULSE (Table 6-14, R236, R237, R242, R273). It takes its channel over from a write that is on its way. -/
def decFieldPulse (d : Desc) (s : State) : State :=
  let op : Byte := 0x49
  let c := fld d.d3 0 5
  let t := (arg24 d.d4).toNat
  gate op d (formOk d false false 0x1F mA m0 m0 m0 && 8 ≤ c && s.func c = 3 && 1 ≤ t && t ≤ 8388607) s fun s =>
  if s.awn.stale then refuse op d .interlock 0 s
  else if s.lifted c then refuse op d .busy 1 s
  else if s.glb.sleep then refuse op d .busy 2 s
  else if 3 ≤ s.effLevel then refuse op d .shed 0 s
  else if !s.outGranted c then refuse op d .interlock 0 s
  else if (match bankOf c with | none => false | some b => s.overlap b = 2 && s.conflicts b (chBit c)) then refuse op d .busy 0 s
  else
    let r := s.nextRef op d
    let u := endPulses (chBit c) .superseded 0 (acceptRun op d .queued 0 0 s)
    { u with
      awn.writes := u.awn.writes.map (fun w => if w.acked then w else { w with mask := w.mask &&& ~~~ chBit c })
      awn.pulses := u.awn.pulses ++ [{ ch := Fin.ofNat 24 (c - 8), time := arg24 d.d4, ref := r, serial := s.serialOf (chBit c) != 0#24 }] }

/-- FIELD_READ (Table 6-14). -/
def decFieldRead (d : Desc) (s : State) : State :=
  gate 0x4A d (formOk d false false 3 m0 m0 m0 m0) s fun s =>
  let page := fld d.d3 0 2
  let v : W24 := if page = 0 then s.awn.inputs.zeroExtend 24 else if page = 1 then s.awn.drivers else if page = 2 then s.awn.wb.zeroExtend 24 else s.awn.faults
  acceptOk 0x4A d v (if s.awn.stale then 1 else 0) s

/-- The counter index of a channel (R224): none for a channel that cannot count. -/
def ctrIdx (c : Nat) : Option (Fin 8) := if c < 4 then some (Fin.ofNat 8 c) else if 8 ≤ c && c < 12 then some (Fin.ofNat 8 (c - 4)) else none

/-- COUNTER_READ (Table 6-14, R175). -/
def decCounterRead (d : Desc) (s : State) : State :=
  let k := ctrIdx (fld d.d3 0 5)
  gate 0x4B d (formOk d false false 0x1F m0 m0 m0 m0 && k.isSome) s fun s =>
  let i := (k.getD 0).val
  acceptOk 0x4B d (vget s.awn.counters i 0) (if s.awn.stale then 0xFF else BitVec.ofNat 8 (min 0xFE (vget s.awn.age i 0))) s

/-- COUNTER_CLEAR (Table 6-14, R232, R272, R528). The decoder waits for the echo. -/
def decCounterClear (d : Desc) (s : State) : State :=
  let k := ctrIdx (fld d.d3 0 5)
  gate 0x4C d (formOk d false false 0x1F m0 m0 m0 m0 && k.isSome) s fun s =>
  if s.awn.stale then refuse 0x4C d .internal 0 s
  else
    let i := k.getD 0
    { s with awn.clrDue := setB s.awn.clrDue i.val true, ring.block := some (.counterClear d i) }

end Sys2Proof.Machine
end

