-- ==== Sys2Proof/Machine/Husk.lean ====
section
/-! DEFINITION. Field I/O, the Husk side (08): what FIELD does with a G-frame at its frame boundary, the valve banks, safe
states, inputs and counters, the H-frame it sends, and the keepalives of sleep. It acts on the Husk's own state; what it finds goes
to LINK with the next H-frame (R13, R24). -/

namespace Sys2Proof.Machine

/-- The key of a field PID in the Husk's active bank: 8 × slice + word. -/
def huskKey (pid : Nat) : Nat := if pid < 0x3400 then pid - 0x3000 else 256 + (pid - 0x3400)
/-- The PID of a key. -/
def keyPid (k : Nat) : Nat := if k < 256 then 0x3000 + k else 0x3400 + (k - 256)
/-- A field parameter as the Husk's active bank holds it (R252). -/
def State.hv (s : State) (pid : Nat) : Nat := ((s.husk.active.lookup (huskKey pid)).getD (pidDefault pid)).toNat

/-- The output channels that may conduct at all: the Husk die is configured and not in thermal shutdown, and the channel
is an output (R68, R254, R270). -/
def State.outputs (s : State) : BitVec 24 :=
  if s.husk.configured && !s.husk.hot then chMask (fun c => s.hv (fldP c 0) = 3) else 0

/-- A channel follows FASTOFF (R257). -/
def State.fastOff (s : State) (c : Nat) : Bool := s.hv (fldP c 3) = 1
/-- The safe state of a channel: 0 OFF, 1 ON, 2 HOLD; FASTOFF is OFF (R257 to R259). -/
def State.safeOf (s : State) (c : Nat) : Nat := if s.fastOff c then 0 else s.hv (fldP c 4)

/-- FIELD finds something: it goes with the next H-frame (log 89). -/
def find (n : News) (s : State) : State := { s with husk.news := s.husk.news ++ [n] }
/-- FIELD finds an event. -/
def findEvent (code : W16) (sev : Nat) (w0 w1 : W24) (s : State) : State := find (.event code sev w0 w1) s

/-! ### Outputs and banks (R238 to R243) -/

/-- The switch of a bank after a change of its valves (R238, R239): with no valve on, rising or waiting it closes through its
sequence, or opens at once where none clamps. -/
def settleBank (b : Fin 2) (s : State) : State :=
  let h := s.husk
  let m := bankMask b
  if ((h.out ||| h.riseFor) &&& m) = 0#24 && !(h.waiting.any (fun k => m.getLsbD k.val)) then
    if !h.bankOn.getLsbD b.val then s
    else if h.clamping &&& m = 0#24 then
      { s with husk.bankOn := setB h.bankOn b.val false, husk.rising := setB h.rising b.val false, husk.closing := setB h.closing b.val false }
    else { s with husk.closing := setB h.closing b.val true, husk.rising := setB h.rising b.val false }
  else { s with husk.closing := setB h.closing b.val false }

/-- Both banks settled. -/
def settleBanks (s : State) : State := settleBank 1 (settleBank 0 s)

/-- Outputs switched off: a valve that was on clamps; a wait and a rise end (R239, R243). -/
def outOff (m : BitVec 24) (s : State) : State :=
  let h := s.husk
  settleBanks { s with
    husk.out := h.out &&& ~~~ m
    husk.clamping := h.clamping ||| (h.out &&& m &&& 0xFF0000)
    husk.riseFor := h.riseFor &&& ~~~ m
    husk.waiting := h.waiting.filter (fun k => !m.getLsbD k.val) }

/-- An output switched on, a valve through its bank (R234, R236, R238). -/
def outOn (k : Fin 24) (s : State) : State :=
  let h := s.husk
  if !s.outputs.getLsbD k.val || h.faults.getLsbD k.val || h.out.getLsbD k.val || !(grantedBits h.permits).getLsbD k.val then s
  else match bankOf (k.val + 8) with
    | none => { s with husk.out := setB h.out k.val true }
    | some b =>
      if h.tripped.getLsbD b.val then s
      else if h.bankOn.getLsbD b.val && !h.rising.getLsbD b.val then settleBank b { s with husk.out := setB h.out k.val true }
      else { s with husk.riseFor := setB h.riseFor k.val true, husk.bankOn := setB h.bankOn b.val true, husk.rising := setB h.rising b.val true }

/-- Another valve of the bank is on, rising or clamping (R242). -/
def State.bankBusy (s : State) (b : Fin 2) (k : Fin 24) : Bool :=
  (s.husk.out ||| s.husk.riseFor ||| s.husk.clamping) &&& bankMask b &&& ~~~ BitVec.twoPow 24 k.val != 0#24

/-- Pulses whose timing ends on the Husk. -/
def pulseCut (m : BitVec 24) (s : State) : State := { s with husk.pulsing := s.husk.pulsing &&& ~~~ m }

/-- A channel commanded on (R242, R243): under SERIAL it waits behind the other valves of its bank. -/
def switchOn (serial : Bool) (k : Fin 24) (s : State) : State :=
  if s.husk.faults.getLsbD k.val || s.husk.out.getLsbD k.val || s.husk.waiting.contains k then s
  else match bankOf (k.val + 8) with
    | some b =>
      if serial && s.outputs.getLsbD k.val && (grantedBits s.husk.permits).getLsbD k.val &&
          (s.bankBusy b k || s.husk.waiting.any (fun j => (bankMask b).getLsbD j.val))
      then { s with husk.waiting := s.husk.waiting ++ [k] }
      else outOn k s
    | none => outOn k s

/-- The first waiting valve of a bank switches on once every other valve of the bank is off and has stopped clamping
(R243). -/
def serveBank (b : Fin 2) (s : State) : State :=
  match s.husk.waiting.find? (fun k => (bankMask b).getLsbD k.val) with
  | none => s
  | some k => if s.bankBusy b k then s else outOn k { s with husk.waiting := s.husk.waiting.filter (fun j => j != k) }

/-- The bank switch and its valves opened with the bank latched as tripped, at once or through the sequence (R240, R241). -/
def tripBank (b : Fin 2) (cause : Nat) (atOnce : Bool) (s : State) : State :=
  let t := outOff (bankMask b) (pulseCut (bankMask b) { s with husk.tripped := setB s.husk.tripped b.val true })
  let t : State := if atOnce then
    { t with husk.bankOn := setB t.husk.bankOn b.val false, husk.closing := setB t.husk.closing b.val false, husk.rising := setB t.husk.rising b.val false } else t
  findEvent 0x300C 5 (w24 b.val) (w24 cause) t

/-! ### Safe states (R257 to R260) -/

/-- Safe states taken on a set of channels: OFF, ON, or HOLD, which keeps a driver and a pulse and drops a wait. The permits do not
count (R258). A pulse on a channel that takes ON has no end time any more (DESIGN CHOICE, log 100). -/
def takeSafe (m : BitVec 24) (s : State) : State :=
  let m := m &&& s.outputs
  let off := chMask (fun c => m.getLsbD (c - 8) && (s.safeOf c = 0 || (s.safeOf c != 1 && !s.husk.out.getLsbD (c - 8))))
  let on := chMask (fun c => m.getLsbD (c - 8) && s.safeOf c = 1 && c < 24 && !s.husk.faults.getLsbD (c - 8))
  let t := pulseCut (off ||| on) (outOff off s)
  { t with husk.out := t.husk.out ||| on, husk.held := t.husk.held ||| m }

/-- Safe states taken for a reason, with SILENCE_APPLIED (R260): 0 silence, 1 SAFE_NOW, 2 sleep hunt. -/
def silence (m : BitVec 24) (why : Fin 3) (s : State) : State :=
  if m &&& s.outputs = 0#24 then s
  else find (.safe why (m &&& s.outputs)) { takeSafe m s with husk.silenced := true, husk.silentBy := why }

/-- The channels whose silence is FASTOFF. -/
def State.fastMask (s : State) : BitVec 24 := chMask s.fastOff

/-! ### A G-frame at the Husk (R250 to R255, R528) -/

/-- Words of a slice stored in the active bank. -/
def storeSlice (l : List (Nat × W24)) (slice : Nat) (ws : List W24) : List (Nat × W24) :=
  (ws.zipIdx).foldl (fun a p =>
    let key := 8 * slice + p.2
    if p.1 = pidDefault (keyPid key) then assocErase a key else assocSet a key p.1) l

/-- The words of an active slice. -/
def HuskSt.sliceWords (h : HuskSt) (slice : Nat) : List W24 :=
  (List.range 8).map (fun k => (h.active.lookup (8 * slice + k)).getD (pidDefault (keyPid (8 * slice + k))))

/-- The slice words of a G-frame. -/
def GFrame.words (g : GFrame) : List W24 := [g.w0, g.w1, g.w2, g.w3, g.w4, g.w5, g.w6, g.w7]

/-- STROBE and DISCARD (R255, R528). -/
def applyStrobe (g : GFrame) (s : State) : State :=
  let h := s.husk
  let st := g.strobe = 1#1
  let di := g.discard = 1#1
  let h : HuskSt := if st = h.echo.strobe then h else
    { h with active := h.shadow.foldl (fun a p => storeSlice a p.1 p.2) h.active, shadow := [], echo := { h.echo with strobe := st } }
  let h : HuskSt := if di = h.echo.discard then h else { h with shadow := [], echo := { h.echo with discard := di } }
  { s with husk := h }

/-- The slice that a G-frame carries (R252 to R255). -/
def takeSlice (g : GFrame) (s : State) : State :=
  let h := s.husk
  let c := g.slice.toNat
  if 36 ≤ c then { s with husk.wrote := 63, husk.wroteBank := false, husk.repaired := false }
  else if g.shadow = 1#1 then
    { s with husk.shadow := assocSet h.shadow c g.words, husk.wrote := c, husk.wroteBank := true, husk.repaired := false }
  else
    let got := setB h.got c true
    { s with
      husk.active := storeSlice h.active c g.words, husk.wrote := c, husk.wroteBank := false
      husk.repaired := h.got.getLsbD c && h.sliceWords c != g.words
      husk.got := got
      husk.configured := h.configured || got = BitVec.allOnes 36 }

/-- Counter clears requested (R232, R528). -/
def clearCounters (g : GFrame) (s : State) : State :=
  let h := s.husk
  let m := g.clr ^^^ h.echo.clr
  { s with
    husk.before := Vector.ofFn (fun (i : Fin 8) => if m.getLsbD i.val then vget h.counters i.val 0 else vget h.before i.val 0)
    husk.counters := Vector.ofFn (fun (i : Fin 8) => if m.getLsbD i.val then 0 else vget h.counters i.val 0)
    husk.cleared := h.cleared ||| m
    husk.echo := { h.echo with clr := g.clr } }

/-- The union of a mask over the writes that a frame delivers: those that no earlier valid frame carried; on a channel that holds its
safe state only once LINK knows of it (R260, R271, log 89). -/
def HuskSt.delivered (h : HuskSt) (g : GAir) (seq : W16) (f : GWrite → BitVec 24) : BitVec 24 :=
  g.writes.foldl (fun m w => if seqFrom seq h.gSeq w.seq && w.seq != h.gSeq then m ||| f w else m) 0 &&&
    (if g.known then BitVec.allOnes 24 else ~~~ h.held)

/-- The output commands of a G-frame (R234, R236, R241 to R243, R260, R273): gated outputs without their permit off, channels
commanded off off, then channels commanded on in rising order. A channel that holds its safe state follows no command but a write.
A channel whose pulse the same frame starts stays on unless a later write is with it. -/
def applyOutputs (a : GAir) (g : GFrame) (s : State) : State :=
  let h := s.husk
  let granted := grantedBits g.permits
  let wr := h.delivered a g.seq GWrite.mask
  let ser := h.delivered a g.seq GWrite.serial
  let starts : BitVec 24 := if (g.pulse = 1#1) != h.echo.pulse then BitVec.twoPow 24 (g.pulseCh.toNat - 8) &&& ~~~ wr else 0
  let act := ((h.cmd ^^^ g.cmd) &&& ~~~ h.held) ||| wr
  let on := act &&& g.cmd
  let off := act &&& ~~~ g.cmd &&& ~~~ starts
  let t := pulseCut (wr ||| off ||| ~~~ granted) { s with
    husk.cmd := g.cmd, husk.permits := g.permits, husk.faults := h.faults &&& ~~~ (wr &&& ~~~ g.cmd), husk.held := h.held &&& ~~~ wr }
  if !h.configured then t else
  let t := outOff (off ||| ~~~ granted ||| ~~~ t.outputs) t
  let t : State := { t with husk.tripped := (List.range 2).foldl (fun v b => if (bankMask (Fin.ofNat 2 b)) &&& on &&& wr != 0#24 then setB v b false else v) t.husk.tripped }
  let t := serveBank 1 (serveBank 0 t)
  (chansOf on).foldl (fun u c =>
    let k : Fin 24 := Fin.ofNat 24 (c - 8)
    switchOn (if wr.getLsbD k.val then ser.getLsbD k.val else (bankOf c).any (fun b => u.hv (0x3401 + b.val) = 1)) k u) t

/-- A pulse request (R273, R528): the channel on, its on-time counted, unless a later write came with it. A fault latch or a bank trip
keeps the channel off while the time runs (R234, R241). -/
def applyPulse (wr : BitVec 24) (a : GAir) (g : GFrame) (s : State) : State :=
  if (g.pulse = 1#1) = s.husk.echo.pulse then s else
  let s : State := { s with husk.echo.pulse := g.pulse = 1#1 }
  if !s.husk.configured || g.pulseCh.toNat < 8 then s else
  let k : Fin 24 := Fin.ofNat 24 (g.pulseCh.toNat - 8)
  if wr.getLsbD k.val || (s.husk.held.getLsbD k.val && !a.known) || !s.outputs.getLsbD k.val || !(grantedBits s.husk.permits).getLsbD k.val then s
  else switchOn a.pulseSerial k { s with husk.pulsing := setB s.husk.pulsing k.val true }

/-- SAFE_NOW and the end of SILENCE_APPLIED (R259, R260). SAFE_NOW counts as a new safe state when it rises or changes a driver. It
acts after the permits and commands of its frame (DESIGN CHOICE, log 99). -/
def applySafeNow (g : GFrame) (s : State) : State :=
  let sn := g.safeNow = 1#1
  let t := if sn then takeSafe (BitVec.allOnes 24) s else s
  let fresh : Bool := sn && s.outputs != 0#24 && (!s.husk.sn || t.husk.out != s.husk.out)
  let t : State := { t with husk.sn := sn }
  if fresh then find (.safe 1 s.outputs) { t with husk.silenced := true, husk.silentBy := 1 }
  else
    let still : Bool := t.husk.silenced && g.cmd != t.husk.out
    { t with husk.silenced := still, husk.held := if sn || still then t.husk.held else 0 }

/-- The trim against 256 consecutive G-frame periods (R231). -/
def trim (period : Nat) (s : State) : State :=
  let n := s.husk.trimCount + 1
  let sum := s.husk.trimSum + period
  if n < 256 then { s with husk.trimCount := n, husk.trimSum := sum }
  else { s with husk.trimCount := 0, husk.trimSum := 0, husk.trimNs := sum }

/-- The trim's run of consecutive frames broken. -/
def trimBreak (s : State) : State := { s with husk.trimCount := 0, husk.trimSum := 0 }

/-- The input states that are none any more and the WIRE_BREAK flags of inputs without detection read 0 (R227, R270). -/
def tidyInputs (s : State) : State :=
  let ins : BitVec 16 := BitVec.ofNat 16 (bitsOf ((List.range 16).map (fun c => s.hv (fldP c 0) = 1 || s.hv (fldP c 0) = 2)))
  let diag : BitVec 16 := BitVec.ofNat 16 (bitsOf ((List.range 16).map (fun c => s.hv (fldP c 2) = 1)))
  { s with husk.inputs := s.husk.inputs &&& ins, husk.wb := s.husk.wb &&& ins &&& diag }

/-- What the Husk does with a frame that is no HELLO: commands, permits, SAFE_NOW and requests (R250); a DATA frame carries a slice
too (R252). -/
def actG (a : GAir) (g : GFrame) (s : State) : State :=
  let wr := s.husk.delivered a g.seq GWrite.mask
  let t := clearCounters g (applyStrobe g s)
  let t : State := if g.kind = 0x5#4 then takeSlice g t else { t with husk.wrote := 63, husk.wroteBank := false, husk.repaired := false }
  tidyInputs (applySafeNow g (applyPulse wr a g (applyOutputs a g t)))

/-- The entry into sleep and the return from it (R264, R267): the sleep oscillator is trimmed at entry, and the next frame comes after
a gap. -/
def huskMode (m : LinkMode) (s : State) : State :=
  if s.husk.mode = m then s
  else if m = .sleep then { s with husk.mode := .sleep, husk.period := 1000, husk.hunt := false, husk.inbox := none, husk.exempt := true }
  else { s with husk.mode := m, husk.hunt := false, husk.inbox := none }

/-- The handshake at the Husk (R251): a HELLO after DATA begins it anew; after four valid frames FIELD sends DATA. -/
def heardG (g : GFrame) (s : State) : State :=
  let hello := g.kind = 0x3#4
  let s : State := if hello && s.husk.heardData then { s with husk.mode := .hello, husk.heard := 0, husk.heardData := false } else s
  let s : State := { s with husk.heard := s.husk.heard + 1, husk.heardData := s.husk.heardData || g.kind = 0x5#4 }
  if s.husk.mode = .hello then (if 4 ≤ s.husk.heard then { s with husk.mode := .data } else s)
  else if hello then s
  else huskMode (if g.kind = 0xA#4 || g.sleep = 1#1 then .sleep else .data) s

/-- A valid G-frame applied at the boundary (R250, R251, R256, R264, R267). -/
def takeG (a : GAir) (g : GFrame) (s : State) : State :=
  let s := heardG g { s with husk.missing := 0, husk.lastValid := s.now, husk.badRun := false, husk.exempt := false }
  let t := if g.kind = 0x3#4 then { s with husk.wrote := 63, husk.wroteBank := false, husk.repaired := false } else actG a g s
  { t with husk.gSeq := g.seq }

/-- A bad G-frame: FLD_CRC_ERR at the first of a run; the next one comes after a gap (R249). -/
def badG (s : State) : State :=
  let t := trimBreak { s with husk.exempt := true }
  if s.husk.badRun then t else findEvent 0x3005 3 0 (s.husk.gSeq.zeroExtend 24) { t with husk.badRun := true }

/-- Elapsed Husk ticks of 48 MHz as the trim scales them, in units of 1 / 8,000,000 tick (R231): divided by `trimNs`. -/
def scaled (ticks : Nat) : Nat := ticks * 8000000
/-- A time in µs in the same units. -/
def State.trimUs (s : State) (us : Nat) : Nat := 48 * us * s.husk.trimNs

/-- A frequency that a boundary finds too old reads 0 (R230). -/
def ageMeas (s : State) : State :=
  let tooOld (i : Fin 8) : Bool :=
    let m := vget s.husk.meas i.val {}
    let c := if i.val < 4 then i.val else i.val + 4
    let late (t : Nat) : Bool := s.trimUs (2000 * s.hv (fldP c 6)) < scaled (48 * s.now - t)
    s.hv (fldP c 5) = 4 && ((match m.opened with | some t => late t | none => false) || (match m.lastRise with | some t => late t | none => true))
  { s with
    husk.counters := Vector.ofFn (fun i => if tooOld i then 0 else vget s.husk.counters i.val 0)
    husk.meas := Vector.ofFn (fun i => if tooOld i then { vget s.husk.meas i.val {} with opened := none, periods := 0 } else vget s.husk.meas i.val {}) }

/-! ### The H-frame (R246, R247, R232) -/

/-- FIELD starts an H-frame. The diagnostic word is a measured current: a free value. -/
def sendH (s : State) : State :=
  let h := s.husk
  let q := h.seq + 1
  let hi : Bool := q.getLsbD 0
  let base := if hi then 4 else 0
  let m : BitVec 8 := if hi then 0xF0 else 0x0F
  let v (k : Nat) : W24 := if h.cleared.getLsbD (base + k) then vget h.before (base + k) 0 else vget h.counters (base + k) 0
  let d : W24 := s.freeWord
  let demag (b : Fin 2) : Bool := h.clamping &&& bankMask b != 0#24
  let f : HFrame :=
    { kind := h.mode.kind, configured := BitVec.ofBool h.configured, hot := BitVec.ofBool h.hot, silenced := BitVec.ofBool h.silenced, seq := q
      inputs := h.inputs, drivers := h.out, wb := h.wb, clrEcho := h.echo.clr, faults := h.faults ||| h.openLoad, set := BitVec.ofBool hi
      vbOn := h.bankOn, vbTrip := h.tripped, demag := BitVec.ofBool (demag 1) ++ BitVec.ofBool (demag 0), cleared := h.cleared &&& m
      echoes := BitVec.ofBool h.echo.discard ++ BitVec.ofBool h.echo.strobe ++ BitVec.ofBool h.echo.pulse
      c0 := v 0, c1 := v 1, c2 := v 2, c3 := v 3, gSeq := h.gSeq, slice := BitVec.ofNat 6 h.wrote, shadow := BitVec.ofBool h.wroteBank
      repaired := BitVec.ofBool h.repaired, f24 := h.f24, temp := h.temp
      diagIdx := BitVec.ofNat 6 ((d.extractLsb' 18 6).toNat % 34), diag := d.extractLsb' 0 18 }
  let safe := News.safe h.silentBy 0
  let news := h.news ++ (if h.silenced && !s.awn.hNews.contains safe then [safe] else [])
  { s.tick with husk.seq := q, husk.cleared := h.cleared &&& ~~~ m, husk.news := [], awn.hAir := some (encodeH f)
                awn.hNews := s.awn.hNews ++ news }

/-- A Husk frame boundary (R250): the G-frame received since the last one, then the next H-frame. -/
def huskBoundary (s : State) : State :=
  let s' : State := { s with awn.gAir := none }
  let t := match s.awn.gAir with
    | none => s'
    | some a => match decodeG a.words with
      | some g =>
        if s.husk.exempt || s.husk.mode = .sleep then takeG a g s' else if inPeriod a.period then takeG a g (trim a.period s') else badG s'
      | none => badG s'
  sendH (ageMeas (serveBank 1 (serveBank 0 t)))

/-- What the Husk die holds after a restart, with its supply and temperature (R53, R262). -/
def huskRestart (why : Fin 2) (s : State) : State :=
  { s with husk := { alive := true, f24 := s.husk.f24, temp := s.husk.temp, hot := s.husk.hot, news := [.restart why], lastValid := s.now }
           awn.hAir := none, awn.hNews := [] }

/-! ### The rows -/

/-- Whether FIELD runs. -/
def State.fieldUp (s : State) : Bool := s.husk.alive

/-- A frame of a type is on the wire to the Husk. -/
def State.gKind (s : State) (k : BitVec 4) : Bool := match s.awn.gAir with
  | some a => (match decodeG a.words with | some g => g.kind = k | none => false)
  | none => false

/-- HUSK_BOUNDARY (R250). In sleep FIELD keeps no such boundary until a DATA frame arrives (R264, R267). -/
def execHuskBoundary (s : State) : Host.Outcome State Fault Refusal :=
  doneIf (s.fieldUp && (s.husk.mode != .sleep || s.gKind 0x5)) huskBoundary s

/-- G_FRAME_MISSING (R256, R257): FASTOFF outputs switch off at the third; the next frame comes after a gap (R249). -/
def execGFrameMissing (s : State) : Host.Outcome State Fault Refusal :=
  doneIf (s.fieldUp && s.husk.mode != .sleep) (fun s =>
    let t := trimBreak { s with husk.missing := s.husk.missing + 1, husk.exempt := true }
    if t.husk.missing = 3 then silence t.fastMask 0 t else t) s

/-- SAFE_STATE_TIMEOUT (R258): not while valid G-frames arrive. -/
def execSafeStateTimeout (s : State) : Host.Outcome State Fault Refusal :=
  doneIf (s.fieldUp && s.husk.mode != .sleep && s.husk.missing != 0) (fun s => silence (~~~ s.fastMask) 0 s) s

/-- FLD_STALE (R261): no valid H-frame for 100 µs, which is three frames missed. -/
def execFldStale (s : State) : Host.Outcome State Fault Refusal :=
  doneIf (s.awn.hears && s.awn.mode != .sleep) (fun s => unheard { s with awn.missed := max 3 s.awn.missed }) s

/-- HUSK_WATCHDOG (R262). -/
def execHuskWatchdog (s : State) : Host.Outcome State Fault Refusal := doneIf s.fieldUp (huskRestart 1) s

/-- A counter's step or its frequency measurement at an edge at a time in Husk ticks (R229, R230). The ticks are 48 a microsecond of
the model's clock (DEDUCED, log 110). -/
def countEdge (c : Nat) (rising : Bool) (now : Nat) (s : State) : State := match ctrIdx c with
  | none => s
  | some i =>
    let mode := s.hv (fldP c 5)
    let n := vget s.husk.counters i.val 0
    if (mode = 1 && rising) || (mode = 2 && !rising) || mode = 3 then { s with husk.counters := vset s.husk.counters i.val (n + 1) }
    else if mode = 4 && rising then
      let m := vget s.husk.meas i.val {}
      match m.opened with
      | none => { s with husk.meas := vset s.husk.meas i.val { opened := some now, periods := 0, lastRise := some now } }
      | some t =>
        if s.trimUs (1000 * s.hv (fldP c 6)) ≤ scaled (now - t) then
          let f := (m.periods + 1) * 4800000000 * s.husk.trimNs / max 1 (scaled (now - t))
          { s with husk.counters := vset s.husk.counters i.val (sat24 f),
                   husk.meas := vset s.husk.meas i.val { opened := none, periods := 0, lastRise := some now } }
        else { s with husk.meas := vset s.husk.meas i.val { m with periods := m.periods + 1, lastRise := some now } }
    else s

/-- DEBOUNCED_CHANGE (R225, R226, R229, R274): an input takes its other level. -/
def execDebouncedChange (e : InputEdge) (s : State) : Host.Outcome State Fault Refusal :=
  let ch := e.ch
  let f := s.hv (fldP ch.val 0)
  doneIf (s.fieldUp && (f = 1 || f = 2)) (fun s =>
    let up := !s.husk.inputs.getLsbD ch.val
    let t := countEdge ch.val up (48 * s.now + e.sub.val) { s with husk.inputs := setB s.husk.inputs ch.val up }
    if s.hv (fldP ch.val 7) = 1 then find .wake t else t) s

/-- FLD_WIRE_BREAK (R227): the flag set, or cleared with FLD_WIRE_OK. -/
def execFldWireBreak (ch : Fin 16) (broken : Bool) (s : State) : Host.Outcome State Fault Refusal :=
  let f := s.hv (fldP ch.val 0)
  doneIf (s.fieldUp && (f = 1 || f = 2) && s.hv (fldP ch.val 2) = 1 && s.husk.wb.getLsbD ch.val != broken) (fun s =>
    findEvent (if broken then 0x3008 else 0x3009) (if broken then 4 else 2) (w24 ch.val) 0 { s with husk.wb := setB s.husk.wb ch.val broken }) s

/-- FLD_OUT_FAULT (R234). -/
def execFldOutFault (ch : Fin 32) (kind : Nat) (s : State) : Host.Outcome State Fault Refusal :=
  let k := ch.val - 8
  doneIf (s.fieldUp && 8 ≤ ch.val && s.husk.out.getLsbD k && 1 ≤ kind && kind ≤ 3) (fun s =>
    findEvent 0x300A 4 (w24 ch.val) (w24 kind) (outOff (chBit ch.val) (pulseCut (chBit ch.val) { s with husk.faults := setB s.husk.faults k true }))) s

/-- FLD_OPEN_LOAD (R235). -/
def execFldOpenLoad (ch : Fin 32) (isOpen : Bool) (s : State) : Host.Outcome State Fault Refusal :=
  let k := ch.val - 8
  doneIf (s.fieldUp && 8 ≤ ch.val && s.husk.out.getLsbD k && s.hv (fldP ch.val 2) = 1 && s.husk.openLoad.getLsbD k != isOpen) (fun s =>
    let t : State := { s with husk.openLoad := setB s.husk.openLoad k isOpen }
    if isOpen then findEvent 0x300B 3 (w24 ch.val) 0 t else t) s

/-- BANK_RISE (R238): the valves that wait for their bank switch on. -/
def execBankRise (b : Fin 2) (s : State) : Host.Outcome State Fault Refusal :=
  doneIf (s.husk.rising.getLsbD b.val) (fun s =>
    let m := s.husk.riseFor &&& bankMask b
    settleBank b { s with husk.rising := setB s.husk.rising b.val false, husk.out := s.husk.out ||| m, husk.riseFor := s.husk.riseFor &&& ~~~ m }) s

/-- BANK_RISE_TIMEOUT (R238): the bank trips as a short. -/
def execBankRiseTimeout (b : Fin 2) (s : State) : Host.Outcome State Fault Refusal :=
  doneIf (s.husk.rising.getLsbD b.val) (tripBank b 1 true) s

/-- DEMAG_END (R239). A SERIAL valve that waits switches on at the next boundary (R243). -/
def execDemagEnd (ch : Fin 32) (s : State) : Host.Outcome State Fault Refusal :=
  let k := ch.val - 8
  doneIf (24 ≤ ch.val && s.husk.clamping.getLsbD k) (fun s => settleBanks { s with husk.clamping := setB s.husk.clamping k false }) s

/-- FLD_DEMAG_SLOW (R239). -/
def execFldDemagSlow (b : Fin 2) (s : State) : Host.Outcome State Fault Refusal :=
  let m := s.husk.clamping &&& bankMask b
  doneIf (s.husk.closing.getLsbD b.val && m != 0#24) (fun s =>
    findEvent 0x300D 4 (w24 b.val) m { s with husk.bankOn := setB s.husk.bankOn b.val false, husk.closing := setB s.husk.closing b.val false }) s

/-- BANK_SHORT (R240). -/
def execBankShort (b : Fin 2) (s : State) : Host.Outcome State Fault Refusal :=
  doneIf (s.husk.bankOn.getLsbD b.val) (tripBank b 1 true) s

/-- FLD_BANK_TRIP (R241). -/
def execFldBankTrip (b : Fin 2) (s : State) : Host.Outcome State Fault Refusal :=
  doneIf (s.husk.bankOn.getLsbD b.val && s.husk.out &&& bankMask b != 0#24) (tripBank b 2 false) s

/-- PULSE_END (R243, R263, R273). -/
def execPulseEnd (ch : Fin 32) (s : State) : Host.Outcome State Fault Refusal :=
  let k := ch.val - 8
  doneIf (8 ≤ ch.val && s.husk.pulsing.getLsbD k && !s.husk.riseFor.getLsbD k && !(s.husk.waiting.any (fun j => j.val = k))) (fun s =>
    find (.pulseEnd (Fin.ofNat 24 k) s.husk.gSeq) (outOff (chBit ch.val) (pulseCut (chBit ch.val) s))) s

/-! ### Sleep (R264 to R266) -/

/-- FIELD's boundary in sleep: the keepalive received since the last one, then the next H-frame (R246, R250, R264). -/
def huskKeepalive (s : State) : State :=
  let t : State := { s with husk.inbox := none }
  let t := match s.husk.inbox with
    | none => t
    | some a => (match decodeG a.words with | some g => takeG a g t | none => t)
  sendH (ageMeas (serveBank 1 (serveBank 0 t)))

/-- KEEPALIVE (R264): a side sends a keepalive frame. -/
def execKeepalive (side : Side) (s : State) : Host.Outcome State Fault Refusal := match side with
  | .grain => doneIf (s.awn.mode = .sleep) (sendG [] 1000000) s
  | .husk => doneIf (s.fieldUp && s.husk.mode = .sleep) huskKeepalive s

/-- A measured interval within the window of R265 around the expected period. -/
def inWindow (period interval : Nat) : Bool := 95 * period ≤ 100 * interval && 100 * interval ≤ 105 * period

/-- A hunt of a side begins or ends. -/
def setHunt (side : Side) (on : Bool) (s : State) : State := match side with
  | .grain => { s with awn.hunt := on }
  | .husk => { s with husk.hunt := on }

/-- An event of the sleep link logged by a side (Table 8-10): the Husk's goes with its next H-frame. -/
def sideEvent (side : Side) (code : W16) (sev : Nat) (w1 : W24) (s : State) : State := match side with
  | .grain => raise code sev 0 w1 s
  | .husk => findEvent code sev 1 w1 s

/-- FLD_SLEEP_HUNT raised for a side. -/
def startHunt (side : Side) (s : State) : State := sideEvent side 0x3011 3 0 (setHunt side true s)

/-- A hunt that a keepalive ended: the interval is the new period, the drift is against 1.000 ms in 0.1 % (R266). -/
def reacquire (side : Side) (interval : Nat) (s : State) : State :=
  let t : State := match side with
    | .grain => { s with awn.hunt := false, awn.period := interval }
    | .husk => { s with husk.hunt := false, husk.period := interval }
  sideEvent side 0x3012 3 (w24i ((interval : Int) - 1000)) t

/-- A valid keepalive that a side has received: it ends a hunt, or it starts one where it comes outside the window (R265, R266). -/
def judgeInterval (side : Side) (hunt : Bool) (period interval : Nat) (s : State) : State :=
  if hunt then reacquire side interval s else if inWindow period interval then s else startHunt side s

/-- The keepalive on the wire to LINK. -/
def State.hKeepalive (s : State) : Option HFrame := match s.awn.hAir with
  | some l => (match decodeH l with | some h => if h.kind = 0xA#4 then some h else none | none => none)
  | none => none

/-- LINK receives a keepalive after an interval of its clock. -/
def grainKeepalive (h : HFrame) (interval : Nat) (s : State) : State := judgeInterval .grain s.awn.hunt s.awn.period interval (takeH h s)

/-- The Husk receives a keepalive: it is applied at the next boundary (R250). -/
def huskReceives (a : GAir) (interval : Nat) (s : State) : State :=
  judgeInterval .husk s.husk.hunt s.husk.period interval { s with awn.gAir := none, husk.inbox := some a, husk.lastValid := s.now }

/-- FLD_SLEEP_HUNT (R265). -/
def execFldSleepHunt (side : Side) (s : State) : Host.Outcome State Fault Refusal := match side with
  | .grain => doneIf (s.awn.mode = .sleep && !s.awn.hunt) (startHunt .grain) s
  | .husk => doneIf (s.fieldUp && s.husk.mode = .sleep && !s.husk.hunt) (startHunt .husk) s

/-- FLD_SLEEP_LOST (R266). -/
def execFldSleepLost (side : Side) (s : State) : Host.Outcome State Fault Refusal := match side with
  | .grain => doneIf (s.awn.mode = .sleep && s.awn.hunt) (fun s => unheard (sideEvent .grain 0x3013 5 0 (setHunt .grain false s))) s
  | .husk => doneIf (s.fieldUp && s.husk.mode = .sleep && s.husk.hunt) (fun s =>
      sideEvent .husk 0x3013 5 0 (silence (BitVec.allOnes 24) 2 (setHunt .husk false s))) s

end Sys2Proof.Machine
end

