-- ==== Sys2Proof/Machine/Tables.lean ====
section
/-! DEFINITION. The microstep tables (09): the built-in table, a bank's entries, and the CRC that a read returns (R290, R291,
R295). -/

namespace Sys2Proof.Machine

/-- cos(2π / 1,024) and sin(2π / 1,024) as integers over 2^96. -/
def cosStep : Int := 79226671066494975824533590136
/-- The sine of the same angle. -/
def sinStep : Int := 486134866151990591466405863
/-- The unit of `cosStep`. -/
def oneStep : Int := 79228162514264337593543950336

/-- A word of two signed 12-bit amplitudes (R290). -/
def phases (a b : Int) : W24 := BitVec.ofInt 12 a ++ BitVec.ofInt 12 b

/-- n quotients nearest to 2,047 × (c, s), the angle advanced by one entry each time. -/
def waves : Nat → Int → Int → List W24
  | 0, _, _ => []
  | n + 1, c, s =>
    let round (v : Int) : Int := if 0 ≤ v then (2 * 2047 * v + oneStep) / (2 * oneStep) else -((2 * 2047 * -v + oneStep) / (2 * oneStep))
    phases (round c) (round s) :: waves n ((c * cosStep - s * sinStep) / oneStep) ((s * cosStep + c * sinStep) / oneStep)

/-- The built-in table (R291): 1,024 entries. -/
def builtinTable : List W24 := waves 1024 oneStep 0

/-- The committed entries of a bank that differ from the built-in table. -/
def State.tblDiff (s : State) (a : Nat) (b : Bool) : List (Nat × W24) := (if b then s.prm.tblB else s.prm.tblA).toList.getD a []

/-- The 1,024 entries of a committed bank. -/
def State.tblWords (s : State) (a : Nat) (b : Bool) : List W24 :=
  let l := s.tblDiff a b
  builtinTable.zipIdx.map (fun p => (l.lookup p.2).getD p.1)

/-- Bits 23:0 of the CRC-32C of a committed bank (R295). -/
def State.tblCrc (s : State) (a : Nat) (b : Bool) : W24 :=
  (crc32c ((s.tblWords a b).flatMap (fun w => leBytes 3 w.toNat))).extractLsb' 0 24

/-- The axis and bank of a table PID. -/
def tableOf (pid : Nat) : Nat × Bool := (pid / 256 - 0x10, pid % 256 = 0xC1)

/-- A table entry that R290 refuses: an amplitude of −2,048. -/
def badEntry (w : W24) : Bool := w.extractLsb' 0 12 = 0x800#12 || w.extractLsb' 12 12 = 0x800#12

/-- ID_STATE (R509). -/
def Ident.word (i : Ident) : W24 :=
  w24 (1 + 2 * bit i.accepted + 4 * bit i.pubKey.isSome + 8 * bit i.clearKey.isSome + 16 * bit i.sealKey.isSome + 32 * bit i.debugKey.isSome + 256 * (i.recNo % 65536))

/-- What PARAM_READ and the parameter windows show of a PID as committed (Table 6-11, R295, R499, R509). -/
def State.committedWord (s : State) (pid : Nat) : W24 :=
  if isTablePid pid then s.tblCrc (tableOf pid).1 (tableOf pid).2
  else if isIdentPid pid then s.prm.ident.record.getD (pid - 0x180) 0
  else if pid = 0x1E0 then s.prm.ident.word
  else s.committed pid

/-- The value in force of a PID (R222). -/
def State.forceWord (s : State) (pid : Nat) : W24 := if (pinfo pid).isSome then s.pv pid else s.committedWord pid

/-- The staged value of a PID, else the committed one (Table 6-11, R505). -/
def State.stagedWord (s : State) (pid : Nat) : W24 :=
  if isIdentPid pid then (match s.txn.idWords with
    | some l => (l.lookup (pid - 0x180)).getD 0
    | none => s.committedWord pid)
  else if (pinfo pid).isSome then s.judged pid else s.committedWord pid

/-- Distinct writes staged: a table bank and the identity range count once (R195, R293, R505). -/
def State.stagedCount (s : State) : Nat :=
  s.txn.staged.length + bit s.txn.idWords.isSome +
    ((List.range 10).filter (fun k => s.txn.tables.any (fun p => p.1 = k / 2 && p.2.1 = (k % 2 = 1)))).length

end Sys2Proof.Machine
end

