-- ==== Sys2Proof/Machine/Votes.lean ====
section
/-! DEFINITION. What each owner checks at its vote, judged on the values committed and staged (R196), and the identity record
that HOST checks (R270, R316, R334, R345, R385, R411, R431, R506). -/

namespace Sys2Proof.Machine

/-- FLD_FUNC of a channel as judged: an input. -/
def State.jInput (s : State) (c : Nat) : Bool := let f := s.jn (fldP c 0); f = 1 || f = 2
/-- FLD_FUNC of a channel as judged: an output. -/
def State.jOutput (s : State) (c : Nat) : Bool := s.jn (fldP c 0) = 3
/-- A judged channel number: none for 0x1F. -/
def State.jChan (s : State) (pid : Nat) : Option Nat := if s.jn pid = 0x1F then none else some (s.jn pid)

/-- A channel, where one is named, satisfies a test. -/
def chanOk (c : Option Nat) (p : Nat → Bool) : Bool := match c with
  | none => true
  | some n => p n

/-- MOTION votes yes (R316). -/
def State.voteMotion (s : State) : Bool :=
  (List.range 5).all fun a =>
    s.jn (axP a 0x09) ≤ s.jn (axP a 0x08) && s.jn (axP a 0x2E) ≤ s.jn (axP a 0x08) &&
    chanOk (s.jChan (axP a 0x20)) s.jInput && chanOk (s.jChan (axP a 0x21)) s.jInput &&
    (s.jn (axP a 0x28) != 2 || s.jInput (s.jn (axP a 0x29)))

/-- The enabled landings as judged. -/
def State.jLandings (s : State) : List Nat := (List.range 12).filter (fun n => s.jn (ldgP n 8) = 1)

/-- The rules of R345 for one enabled landing. -/
def State.landingOk (s : State) (n : Nat) : Bool :=
  let near := s.jn 0x2008
  s.jLandings.all (fun m => m = n || 2 * s.jn 0x200A ≤ ((s.judged (ldgP n 0)).int - (s.judged (ldgP m 0)).int).natAbs) &&
  chanOk (s.jChan (ldgP n 1)) s.jInput &&
  (s.judged (ldgP n 2)).int.natAbs < near && s.jn (ldgP n 3) < near &&
  s.jn (ldgP n 5) ≤ s.jn 0x2005 &&
  (s.jn (ldgP n 4) = 0 || s.jn (drP (s.jn (ldgP n 4) - 1) 0) = 1)

/-- The channels of a door: lock, lock-confirm, closed switch, curtain, buzzer. -/
def State.doorChans (s : State) (k : Nat) : List (Option Nat) := [3, 4, 5, 6, 7].map (fun i => s.jChan (drP k i))

/-- A channel assigned once across both doors and the lift brake. -/
def State.assignedOnce (s : State) (c : Option Nat) : Bool :=
  c.isNone || ((s.doorChans 0 ++ s.doorChans 1 ++ [s.jChan 0x2002]).filter (· = c)).length ≤ 1

/-- The rules of R385 for one enabled door. -/
def State.doorOk (s : State) (k : Nat) : Bool :=
  let p (i : Nat) : Nat := s.jn (drP k i)
  let x (i : Nat) : Nat := s.jn (axP (k + 1) i)
  (s.jChan (drP k 3)).isSome && (s.jChan (drP k 4)).isSome && (s.jChan (drP k 5)).isSome &&
  [4, 5, 6].all (fun i => chanOk (s.jChan (drP k i)) s.jInput) && [3, 7].all (fun i => chanOk (s.jChan (drP k i)) s.jOutput) &&
  (s.doorChans k).all s.assignedOnce &&
  s.judged (drP k 2) != s.judged (drP k 1) &&
  (x 0x18 != 0 || (s.jChan (drP k 6)).isSome) &&
  65536 * p 0x10 < 512 * x 0x19 &&
  [0x08, 0x09, 0x0B, 0x0E].all (fun i => p i ≤ x 0x08) && [0x0A, 0x0F].all (fun i => p i ≤ x 0x00) &&
  1000 * max (p 0x09) (p 0x0E) ≤ 18 * (16 * x 0x0C)

/-- LIFT votes yes (R345, R385). -/
def State.voteLift (s : State) : Bool :=
  s.jLandings.all s.landingOk &&
  s.jn 0x2005 ≤ s.jn (axP 0 0x08) && s.jn 0x2009 ≤ s.jn 0x200A && chanOk (s.jChan 0x2002) s.jOutput &&
  s.jn (ldgP (s.jn 0x200D) 8) = 1 && (s.jChan (ldgP (s.jn 0x200D) 1)).isSome &&
  (List.range 12).all (fun n => s.jn (ldgP n 9) = 0 || s.jn (ldgP n 8) = 1) &&
  (List.range 2).all (fun k => s.jn (drP k 0) = 0 || s.doorOk k)

/-- The grinder rules of R411 over a reading of block 0x28. Full scale is 1.65 V / (gain × GR_SHUNT) (R392). -/
def grindRules (g : Nat → Nat) : Bool :=
  g 0x18 * g 0x01 ≤ 1500 * 60 && 50 * 60 ≤ g 0x24 * g 0x01 && g 0x14 ≤ g 0x24 && g 0x14 < g 0x18 &&
  g 0x14 ≤ g 0x19 && g 0x19 ≤ g 0x18 &&
  g 0x09 * (5 * 2 ^ g 0x08) * g 0x07 ≤ 1650000000 && g 0x0A < g 0x09 && g 0x10 < g 0x09 && g 0x12 < g 0x09 && g 0x2A < g 0x09 &&
  10 * g 0x0B ≤ g 0x05

/-- The argument of a term lies in the range of Table 10-8, and its source is known. -/
def termArgOk (src arg : Nat) : Bool :=
  let pred := arg / 16
  if src = 0x01 then arg < 16
  else if src = 0x02 then 8 ≤ arg && arg < 32
  else if src = 0x03 then pred ≤ 4 && arg % 16 < 12
  else if src = 0x04 then pred ≤ 2 && arg % 16 < 2
  else if src = 0x05 then pred ≤ 4 && arg % 16 < 5
  else if src = 0x06 then pred ≤ 1 && arg % 16 = 0
  else if src = 0x07 then arg ≤ 5
  else (src = 0x08 || src = 0x09 || src = 0x0A) && arg = 0

/-- An enabled term that R334 allows. -/
def State.termOk (s : State) (t : W24) : Bool :=
  let src := (t.extractLsb' 16 6).toNat
  let arg := (t.extractLsb' 0 16).toNat
  !t.getLsbD 23 || (termArgOk src arg && (src != 1 || s.jInput arg) && (src != 2 || s.jOutput arg) && (src != 9 || s.jn 0x4000 = 1))

/-- A permit's function is enabled (R334). -/
def State.functionOn (s : State) (c : Nat) : Bool :=
  if c = 3 then s.jn 0x2800 = 1
  else if c = 6 then (List.range 4).any (fun k => s.jOutput (24 + k))
  else if c = 7 then (List.range 4).any (fun k => s.jOutput (28 + k))
  else if 8 ≤ c && c < 16 then s.jOutput (c + 8)
  else if c = 16 then s.jn 0x2000 = 1 && (s.jChan 0x2002).isSome
  else true

/-- GUARD votes yes (R334, R431). -/
def State.voteGuard (s : State) : Bool :=
  let w (r k : Nat) : W24 := s.judged (0x3800 + 8 * r + k)
  let on (r : Nat) : Bool := (w r 0).getLsbD 23
  let code (r : Nat) : Nat := ((w r 0).extractLsb' 0 5).toNat
  (List.range 32).all (fun r => !on r || (code r ≤ 16 && (List.range 4).all (fun k => s.termOk (w r (k + 1))))) &&
  (List.range 17).all (fun c => !(s.judged 0x3C03).getLsbD c || !s.functionOn c || (List.range 32).any (fun r => on r && code r = c)) &&
  s.jn 0x4004 != 0x60 + s.glb.twAdr.toNat

/-- FIELD votes yes (R270). -/
def State.voteField (s : State) : Bool :=
  (List.range 32).all (fun c => s.jInput c || (s.jn (fldP c 5) = 0 && s.jn (fldP c 7) = 0))

/-! ### The identity record (R504 to R509) -/

/-- The 288 bytes of the staged record (R505). -/
def recordBytes (l : List (Nat × W24)) : List Byte := (List.range 96).flatMap (fun k => leBytes 3 ((l.lookup k).getD 0).toNat)

/-- Bytes a to a + n − 1. -/
def cut (r : List Byte) (a n : Nat) : List Byte := (r.drop a).take n
/-- Every byte of a run is zero. -/
def zeros (r : List Byte) (a n : Nat) : Bool := (cut r a n).all (· = 0#8)
/-- A field that byte 5 marks present. -/
def present (r : List Byte) (i : Nat) : Bool := (r.getD 5 0).getLsbD i
/-- A field is all zeros where byte 5 marks it absent. -/
def absentZero (r : List Byte) (i a n : Nat) : Bool := present r i || zeros r a n
/-- A wrapped key opened under the transport key: none where the integrity check fails. -/
def unwrapAt (r : List Byte) (a : Nat) : Option (List Byte) :=
  (Config.aesUnwrap Config.transportKey.toList (cut r a 40)).map Vector.toList
/-- A 16-bit field. -/
def half (r : List Byte) (a : Nat) : W16 := BitVec.ofNat 16 (leNat (cut r a 2))
/-- The record number. -/
def recordNo (r : List Byte) : Nat := leNat (cut r 208 4)

/-- The first failing check of R506 with its number in Table 17-6; none where the record is accepted. -/
def State.idCheck (s : State) (r : List Byte) : Option Nat :=
  let i := s.prm.ident
  if !(cut r 0 5 = [0x47, 0x4C, 0x49, 0x44, 0x01] && (r.getD 5 0).extractLsb' 5 3 = 0#3 && zeros r 6 2 && zeros r 22 2 && zeros r 212 12 &&
      absentZero r 0 16 6 && absentZero r 1 24 64 && absentZero r 2 88 40 && absentZero r 3 128 40 && absentZero r 4 168 40) then some 1
  else if cut r 8 8 != leBytes 8 Config.serial.toNat then some 2
  else if !Config.ecdsaValid 1 [] (r.take 224) (cut r 224 64) then some 3
  else if recordNo r ≤ i.recNo then some 4
  else if (present r 2 && (unwrapAt r 88).isNone) || (present r 3 && (unwrapAt r 128).isNone) || (present r 4 && (unwrapAt r 168).isNone) then some 5
  else if (present r 1 && i.pubKey.isSome) || (present r 2 && i.clearKey.isSome) || (present r 3 && i.sealKey.isSome) || (present r 4 && i.debugKey.isSome) then some 6
  else none

/-- A key of the merged content: one ever provisioned stays. -/
def keep1 (old new : Option (List Byte)) : Option (List Byte) := match old with
  | some k => some k
  | none => new

/-- The merged identity content (R507), with the record as the parameter windows show it (R499). -/
def mergeIdent (i : Ident) (r : List Byte) : Ident :=
  { accepted := true
    recNo := recordNo r
    ids := if present r 0 then some (half r 16, half r 18, half r 20) else i.ids
    pubKey := keep1 i.pubKey (if present r 1 then some (cut r 24 64) else none)
    clearKey := keep1 i.clearKey (if present r 2 then unwrapAt r 88 else none)
    sealKey := keep1 i.sealKey (if present r 3 then unwrapAt r 128 else none)
    debugKey := keep1 i.debugKey (if present r 4 then unwrapAt r 168 else none)
    record :=
      let m := r.take 88 ++ List.replicate 120 0 ++ r.drop 208
      (List.range 96).map (fun k => w24 (leNat (cut m (3 * k) 3))) }

/-- The identity content after the commit in progress. -/
def State.nextIdent (s : State) : Ident := match s.txn.idWords with
  | none => s.prm.ident
  | some l => mergeIdent s.prm.ident (recordBytes l)

end Sys2Proof.Machine
end

