-- ==== Sys2Proof/Machine/Images.lean ====
section
/-! DEFINITION. Firmware images in the flash slots: what a slot holds, when an image is verified, and when two images are
compatible (R465 to R469). -/

namespace Sys2Proof.Machine

/-- The 256-byte units of a slot (Table 16-1). -/
def slotUnits (i : FwIsland) : Nat := if i = .host then 2048 else 1536

/-- The bytes of one unit; none where it was never written. -/
def Slot.unit (s : Slot) (k : Nat) : Option (List Byte) := (s.units.lookup k).map bytesOf
/-- The header bytes, empty where unit 0 was never written. -/
def Slot.header (s : Slot) : List Byte := (s.unit 0).getD []

/-- The body bytes of n units, none where one was never written. -/
def Slot.body (s : Slot) (n : Nat) : Option (List Byte) :=
  (List.range n).foldr (fun k m => match s.unit (k + 1), m with
    | some b, some l => some (b ++ l)
    | _, _ => none) (some [])

/-- The body length field. -/
def bodyLen (h : List Byte) : Nat := leNat (cut h 20 4)

/-- The countersignature over bytes 0 to 127 is valid under the integrator key (R468). -/
def countersigned (key : List Byte) (h : List Byte) : Bool := Config.ecdsaValid 2 key (h.take 128) (cut h 128 64)

/-- Why a slot's image is not verified (R468, R473, the numbers of Table 16-7); none where it is. The order of the checks is
the model's (log 22). -/
def State.imageFail (s : State) (i : FwIsland) (x : Slot) : Option Nat :=
  let h := x.header
  let n := bodyLen h / 256
  if (x.unit 0).isNone then some 5
  else if !(cut h 0 4 = [0x47, 0x4C, 0x46, 0x57] && leNat (cut h 4 1) = fwNum i && cut h 5 1 = [0x01] && bodyLen h % 256 = 0 && n < slotUnits i) then some 4
  else if 1 < leNat (cut h 6 1) then some 7
  else match x.body n with
    | none => some 5
    | some b =>
      if Config.sha256 b != cut h 24 32 then some 3
      else if !Config.ecdsaValid 0 [] (h.take 64) (cut h 64 64) then some 1
      else match s.prm.ident.pubKey with
        | none => none
        | some k => if countersigned k h then none else some 2

/-- The slot with the header fields of its image (Table 16-2), marked verified. -/
def Slot.accept (x : Slot) : Slot :=
  let h := x.header
  { x with
    verified := true, version := w24 (leNat (cut h 8 3)), epoch := leNat (cut h 11 1)
    lo := #v[leNat (cut h 12 1), leNat (cut h 14 1), leNat (cut h 16 1)]
    hi := #v[leNat (cut h 13 1), leNat (cut h 15 1), leNat (cut h 17 1)] }

/-- The verified mark cleared where the countersignature fails under a new integrator key (R508). -/
def Slot.recheck (key : List Byte) (x : Slot) : Slot := if x.verified && !countersigned key x.header then { x with verified := false } else x

/-- The slots of an island by index 0 HOST, 1 LIFT, 2 GRIND. -/
def State.slots (s : State) (i : Nat) : FwSlots := s.fw.slots.toList.getD i {}
/-- A slot by number: 0 A, 1 B, 2 recovery. -/
def FwSlots.slot (f : FwSlots) (k : Nat) : Slot := if k = 0 then f.a else if k = 1 then f.b else f.rcv
/-- The image that an island runs. -/
def FwSlots.image (f : FwSlots) : Slot := f.slot f.running.val

/-- The slot that staging writes is B: the slot that the island does not run; in recovery the one not marked active (R465, R481). -/
def FwSlots.spareB (f : FwSlots) : Bool := if f.running = 0 then true else if f.running = 1 then false else !f.activeB
/-- The inactive slot. -/
def FwSlots.spare (f : FwSlots) : Slot := if f.spareB then f.b else f.a
/-- The inactive slot mapped. -/
def FwSlots.mapSpare (f : FwSlots) (g : Slot → Slot) : FwSlots := if f.spareB then { f with b := g f.b } else { f with a := g f.a }
/-- The units of a staging command: unit number and 64 dwords. -/
def StageJob.units (j : StageJob) : List (Nat × List W32) :=
  (List.range (j.data.length / 64)).map (fun k => (j.unit + k, (j.data.drop (64 * k)).take 64))

/-- Image x of island i accepts image y of island j (indices). -/
def accepts (x : Slot) (j : Nat) (y : Slot) : Bool := x.lo.toList.getD j 0 ≤ y.epoch && y.epoch ≤ x.hi.toList.getD j 0
/-- Two images are compatible (R469). -/
def compatible (i : Nat) (x : Slot) (j : Nat) (y : Slot) : Bool := accepts x j y && accepts y i x

/-- The island number of a firmware index. -/
def fwIsl (k : Nat) : Nat := if k = 0 then 0 else k + 1

/-- The first peer in RUN, as an island number, that an image of island k is not compatible with (R470, R475). -/
def State.badPeer (s : State) (k : Nat) (x : Slot) : Option Nat :=
  ((List.range 3).find? (fun j => j != k && s.isl (fwIsl j) = .run && !compatible k x j (s.slots j).image)).map fwIsl

/-! ### Admission and the end of an activation (R470, R475, R489) -/

/-- A booted island enters RUN, or HELD beside an incompatible peer in RUN (R470); entry into HELD raises interrupt source 5. -/
def enterMain (k : Nat) (s : State) : State := match s.badPeer k (s.slots k).image with
  | none => s.setIsl (fwIsl k) .run
  | some p => sendIrq 5 (raise 0x6006 5 (w24 (fwIsl k)) (w24 p) (s.setIsl (fwIsl k) .held))

/-- The HELD islands checked again in island order (R470). -/
def readmit (s : State) : State := [0, 1, 2].foldl (fun t k =>
  if t.isl (fwIsl k) = .held && (t.badPeer k (t.slots k).image).isNone then raise 0x6007 3 (w24 (fwIsl k)) 0 (t.setIsl (fwIsl k) .run) else t) s

/-- The running activation ends: FWU_LAST, its outcome, interrupt source 5, and the check of the HELD islands (R470, R489). -/
def endAct (st : Status) (ms : Nat) (s : State) : State := match s.fw.act with
  | none => s
  | some a =>
    let t : State := { s with fw.act := none, fw.last := w24 (st.code.toNat + 256 * fwNum a.isl + 4096 * min ms 4095) }
    readmit (sendIrq 5 (finish a.ref st 0 0 t))

/-- A staging command cut short: some of its units, in order, are written, and the slot is not verified (R474). How many is a
free value. -/
def cutStage (s : State) : State := match s.fw.stage with
  | none => s
  | some j =>
    let f := s.slots (fwIdx j.isl)
    let n := s.freeWord.toNat % (j.units.length + 1)
    { s.tick with fw.stage := none, fw.slots := vset s.fw.slots (fwIdx j.isl) (f.mapSpare (fun x => { x with verified := false, units := (j.units.take n) ++ x.units })) }

end Sys2Proof.Machine
end

