-- ==== Sys2Proof/Machine/Guard.lean ====
section
/-! DEFINITION. The guard (10): states, what a stop and a trip do to the machine, ESTOP, the lattice and its permits, the
evaluation pass, GUARD_ACK and GUARD_STATUS. -/

namespace Sys2Proof.Machine

/-! ### Causes and conditions -/

/-- A trip cause marked "held" persists (Table 10-5): an ESTOP channel low, a clock fault, a Spindle or Grain shutdown. -/
def State.tripHeld (s : State) : Bool :=
  !s.grd.estopA || !s.grd.estopB || !s.clk.crystal || s.sup.shutdown.getLsbD 0 || s.sup.shutdown.getLsbD 1

/-- The cold start is complete (step 7). -/
def State.started (s : State) : Bool := s.glb.step.val = 7

/-- The stage-enable lines as the state drives them (R14, R86, R320, R323). -/
def State.linesNow (s : State) : Bool :=
  s.started && s.isl 4 = .run && s.grd.st != .trip && s.grd.estopA && s.grd.estopB

/-- The stage-enable lines follow the state. -/
def setLines (s : State) : State := { s with mot.lines := s.linesNow }

/-- Word k of rule r. -/
def State.rule (s : State) (r k : Nat) : W24 := s.pv (0x3800 + 8 * r + k)
/-- A rule is enabled (Table 10-7). -/
def State.ruleOn (s : State) (r : Nat) : Bool := (s.rule r 0).getLsbD 23
/-- The permit of a rule. -/
def State.rulePermit (s : State) (r : Nat) : Nat := ((s.rule r 0).extractLsb' 0 5).toNat
/-- The loss action of a rule: 0 NONE, 1 RAMP, 2 TRIP. -/
def State.ruleAct (s : State) (r : Nat) : Nat := ((s.rule r 0).extractLsb' 8 2).toNat
/-- LATCH of a rule. -/
def State.ruleLatch (s : State) (r : Nat) : Bool := (s.rule r 0).getLsbD 10

/-- The second copy of the lattice words (R333). -/
def State.latticeCopy (s : State) : List (Nat × W24) := s.prm.committed.filter (fun p => p.1 / 256 = 0x38)

/-- The source of an island that serves, or none while it is RESTARTING, HELD or FAULT (R333). -/
def State.fromIsl (s : State) (i : Nat) (v : Bool) : Option Bool :=
  if s.islShown i = 3 || s.islShown i = 4 || s.islShown i = 6 then none else some v

/-- The car has a valid position: neither NOT_HOMED nor FAULT (Table 11-2). -/
def State.carKnown (s : State) : Bool := s.lift.st != .notHomed && s.lift.st != .fault

/-- The car stands still within the level window of a landing (Table 10-8). -/
def State.carAt (s : State) (n : Nat) : Bool := s.carKnown && (s.axis 0).stands && (s.ldgPos n - s.carPos).natAbs ≤ s.pn 0x2009

/-- A source's value (Table 10-8); none where it is unavailable. -/
def State.source (s : State) (code arg : Nat) : Option Bool :=
  let lo := arg % 16
  let pred := arg / 16 % 16
  if code = 0x01 then (if s.inputOk lo then some (s.input lo) else none)
  else if code = 0x02 then some (8 ≤ arg % 32 && s.awn.drivers.getLsbD (arg % 32 - 8))
  else if code = 0x03 then
    s.fromIsl 2 (if pred = 0 then (s.axis 0).stands
      else if pred = 1 then s.lift.st = .idle && s.carLanding != 15
      else if pred = 2 then s.carAt lo
      else if pred = 3 then s.lift.st = .fault
      else pred = 4 && s.carKnown)
  else if code = 0x04 then
    if !s.drEn (arg % 2) then none else s.fromIsl 2 (if pred = 0 then s.drShut (arg % 2)
      else if pred = 1 then (s.dr (arg % 2)).st = .opened
      else pred = 2 && (s.dr (arg % 2)).st = .fault)
  else if code = 0x05 then
    let x := s.axis (arg % 8)
    s.fromIsl 1 (if pred = 0 then x.stands else if pred = 1 then x.homed else if pred = 2 then x.stage
      else if pred = 3 then x.st = .fault else pred = 4 && x.stall)
  else if code = 0x06 then s.fromIsl 3 (if pred = 0 then s.grindStopped else pred = 1 && s.grind.st = .fault)
  else if code = 0x07 then some (s.effLevel ≤ arg % 8)
  else if code = 0x08 then some s.sil.active
  else if code = 0x09 then some s.twp.hbOk
  else if code = 0x0A then some s.estopOk
  else none

/-- A term's value (R333): a disabled term holds; an unavailable source is false whatever INVERT holds. -/
def State.term (s : State) (t : W24) : Bool :=
  if !t.getLsbD 23 then true
  else match s.source (t.extractLsb' 16 6).toNat (t.extractLsb' 0 16).toNat with
    | none => false
    | some v => v != t.getLsbD 22

/-- The rules whose terms do not all hold (R332). -/
def State.ruleFails (s : State) : BitVec 32 :=
  BitVec.ofNat 32 (bitsOf ((List.range 32).map (fun r => s.ruleOn r && !(List.range 4).all (fun k => s.term (s.rule r (k + 1))))))

/-- The rules with a flag of word 0 set, among the enabled ones. -/
def State.rulesWhere (s : State) (p : Nat → Bool) : BitVec 32 :=
  BitVec.ofNat 32 (bitsOf ((List.range 32).map (fun r => s.ruleOn r && p r)))

/-- The fixed condition of a permit beside ESTOP and the guard's state (Table 10-4). -/
def State.fixedOk (s : State) (c : Nat) : Bool :=
  (if c = 0 || c = 16 then
    (List.range 12).all (fun n => !s.ldgEn n || s.ldgDoor n = 0 || s.source 0x04 (s.ldgDoor n - 1) = some true)
   else if c = 1 || c = 2 then s.source 0x05 0 = some true else true) &&
  (!(s.pv 0x3C03).getLsbD c || s.rulesWhere (fun r => s.rulePermit r = c) != 0#32)

/-- A guard state in which permits are granted. -/
def GuardState.grants : GuardState → Bool
  | .run | .restrict => true
  | _ => false

/-- The permits that the lattice and the fixed conditions grant (R326, R327, R335). -/
def State.granted (s : State) : BitVec 17 :=
  if !(s.grd.st.grants && s.estopOk) then 0 else
  BitVec.ofNat 17 (bitsOf ((List.range 17).map (fun c => s.fixedOk c && (s.grd.failing &&& s.rulesWhere (fun r => s.rulePermit r = c)) = 0#32)))

/-- The conditions of Table 10-6 that fail now, bit 0 for page 0 bit 16. -/
def State.ackFails (s : State) : BitVec 8 :=
  let reads (r : Nat) : Bool := (List.range 4).any (fun k => let t := s.rule r (k + 1); t.getLsbD 23 && t.extractLsb' 16 6 = 1#6)
  BitVec.ofNat 8 (bitsOf [!s.estopOk, s.grd.disc, s.grd.stopLatch, s.tripHeld,
    s.glb.defaults || (List.range 8).any (fun i => s.isl i = .recovery),
    s.awn.stale && s.rulesWhere reads != 0#32, s.sup.shutdown != 0#3,
    !(s.isl 1 = .run && s.isl 5 = .run && s.isl 6 = .run && s.isl 7 = .run)])

/-! ### Withdrawal of permits -/

/-- The output channels that a set of permits gates (Table 10-3). -/
def gatedBy (lost : BitVec 17) : BitVec 24 :=
  chMask (fun c => match outPermit c with
    | some p => lost.getLsbD p
    | none => false)

/-- The outputs of withdrawn permits: their commanded state is cleared; the field writes that wait or are on their way and the pulses on
them end INTERLOCK (R236). -/
def dropOutputs (lost : BitVec 17) (s : State) : State :=
  let m := gatedBy lost
  endField true m .interlock 0 (cmdOff m s)

/-- The brake output off where axis 0 stands; a moving car keeps it until standstill (Table 10-1). -/
def brakeOffStill (s : State) : State := if s.liftEn && s.lift.brake && (s.axis 0).stands then brakeSet false s else s

/-- What the loss of a permit under RAMP does (Table 10-3). -/
def rampLoss (c : Nat) (s : State) : State :=
  if c = 0 then (if s.liftEn then liftAbandon s else axStop true 0 .interlock 0 s)
  else if c = 16 then brakeOffStill (liftAbandon s)
  else if c = 1 || c = 2 then (if s.drEn (c - 1) then doorHalt (c - 1) .interlock 0 s else axStop true c .interlock 0 s)
  else if c = 3 then grindRampCause .interlock 0 s
  else if c = 4 || c = 5 then axStop true (c - 1) .interlock 0 s
  else s

/-- PERMIT_LOST of one permit (Table 10-13). -/
def lostEvent (c act rule : Nat) (tag : W24) (s : State) : State := raise 0x3804 4 (w24 (c + 256 * act + 1024 * rule)) tag s

/-- The failing rule that decides a permit's loss: the strongest action, the lowest number (R326); none for a fixed
condition. -/
def State.lossOf (s : State) (c : Nat) : Nat × Option Nat :=
  let fixedBad : Bool := !(s.grd.st.grants && s.estopOk && s.fixedOk c)
  let best := (List.range 32).foldl (fun (m : Option (Nat × Nat)) r =>
    if s.ruleOn r && s.grd.failing.getLsbD r && s.rulePermit r = c then
      (match m with
        | some (a, q) => if a < s.ruleAct r then some (s.ruleAct r, r) else some (a, q)
        | none => some (s.ruleAct r, r))
    else m) none
  match best with
  | some (a, r) => if fixedBad && a < 1 then (1, none) else (a, some r)
  | none => (1, none)

/-- Whether a loss action stops what a permit gates: RAMP, and for the outputs and the brake NONE too (Table 10-3). -/
def ramps (c act : Nat) : Bool := act = 1 || 6 ≤ c

/-- The permits switched together: each loss with its event, each return with its event (R326, R335). A withdrawn permit acts as the
strongest of its failing rules and conditions says, once, also where that is stronger only later (R326, R327). -/
def applyPermits (s : State) : State :=
  let g := s.granted
  let lost := (List.range 17).filter (fun c => s.grd.permits.getLsbD c && !g.getLsbD c)
  let back := (List.range 17).filter (fun c => !s.grd.permits.getLsbD c && g.getLsbD c)
  let due := (List.range 17).filter (fun c => !g.getLsbD c && !s.grd.ramped.getLsbD c && ramps c (s.lossOf c).1)
  let t := lost.foldl (fun u c =>
    let p := s.lossOf c
    lostEvent c p.1 (p.2.getD 0x3F) (match p.2 with | none => 0 | some r => s.rule r 7) u) { s with
      grd.permits := g, grd.ramped := (due.foldl (fun m c => setB m c true) s.grd.ramped) &&& ~~~ g }
  let t := back.foldl (fun u c => raise 0x3805 2 (w24 c) 0 u) t
  let t := dropOutputs (s.grd.permits &&& ~~~ g) t
  dispatchCheck (due.foldl (fun u c => rampLoss c u) t)

/-- Every permit withdrawn, as a guard state outside RUN and RESTRICT does (Table 10-1). -/
def withdrawAll (s : State) : State :=
  let m := s.grd.permits
  let t := (List.range 17).foldl (fun u c => if m.getLsbD c then lostEvent c 1 0x3F 0 u else u) { s with grd.permits := 0, grd.ramped := BitVec.allOnes 17 }
  dropOutputs m t

/-! ### State changes -/

/-- A firmware activation abandoned before its safe point: 1 shedding, 2 guard (R479). -/
def abandonAct (why : Nat) (st : Status) (s : State) : State := match s.fw.act with
  | none => s
  | some a =>
    if a.phase != .waiting then s else
    endAct st 0 (raise 0x6009 4 (w24 (fwNum a.isl)) (w24 why) s)

/-- A guard state entered: the event, interrupt source 2, and for a stop or trip the wake cause; the mirror follows, as the state is
one of its fields (R132, R322, R428). -/
def enterGuard (g : GuardState) (cause : Nat) (s : State) : State :=
  let t : State := { s with grd.st := g, grd.cause := if cause = 0 then s.grd.cause else Fin.ofNat 32 cause,
                            glb.guardSeen := s.glb.guardSeen || g.grants }
  let t := setLines (raise 0x3801 4 (w24 g.code) (w24 cause) t)
  let t := sendIrq 2 t
  let t := if g = .safeStop || g = .trip then wake 0 t else t
  if g = .trip then attention 0 t else t

/-- What SAFE_STOP does to the machine (Table 10-1). -/
def stopMachine (s : State) : State :=
  let t := withdrawAll s
  let t := (List.range 2).foldl (fun u k => doorHalt k .interlock 0 u) (liftAbandon t)
  let t := (List.range 5).foldl (fun u a => axStop true a .interlock 0 u) t
  abandonAct 2 .interlock (brakeAtRest (brakeOffStill (grindCoastCause .interlock 0 t)))

/-- What TRIP does to the machine (Table 10-1): every stage disabled, the brake output off, SAFE_NOW. -/
def tripMachine (s : State) : State :=
  let car : Bool := s.liftEn && (s.axis 0).moves
  let t := (List.range 2).foldl (fun u k => doorHalt k .interlock 0 u) (withdrawAll s)
  let t := (List.range 5).foldl (fun u a => axDisable a .interlock 0 u) t
  let t := liftFaultEnd (if car then liftFault 6 t else liftAbandon t)
  let t := if t.liftEn then brakeSet false t else t
  let t := grindCoastCause .interlock 0 t
  abandonAct 2 .interlock (endField true 0xFFFFFF .interlock 0 t)

/-- A stop cause (R328): from RUN and RESTRICT into SAFE_STOP; in any other state it is recorded (R321). -/
def guardStop (cause : Nat) (s : State) : State :=
  if s.grd.st.grants then stopMachine (enterGuard .safeStop cause s) else { s with grd.cause := Fin.ofNat 32 cause }

/-- A trip cause (R328): from any state into TRIP. -/
def guardTrip (cause : Nat) (s : State) : State :=
  if s.grd.st = .trip then { s with grd.cause := Fin.ofNat 32 cause } else tripMachine (enterGuard .trip cause s)

/-! ### The evaluation pass (R335) -/

/-- The rules judged on the present sources: what fails and what has latched (R332, R335). -/
def judgeRules (s : State) : State :=
  let f := s.ruleFails
  let l := (s.grd.latched ||| f) &&& s.rulesWhere s.ruleLatch
  { s with grd.latched := l, grd.failing := f ||| l }

/-- A rule with loss action TRIP fails. -/
def State.tripRule (s : State) : Bool := s.grd.failing &&& s.rulesWhere (fun r => s.ruleAct r = 2) != 0#32

/-- Every axis stands still, the grinder is stopped and the brake output is off (Table 10-2). -/
def State.machineStill (s : State) : Bool :=
  (List.range 5).all (fun a => (s.axis a).stands) && s.grindStopped && !s.lift.brake

/-- The trip actions are complete (Table 10-2). -/
def State.tripComplete (s : State) : Bool := (List.range 5).all (fun a => !(s.axis a).stage) && !s.lift.brake

/-- A trip cause of the pass itself: the two copies of the rules differ, or a rule with loss action TRIP fails in RUN or RESTRICT
(R326, R333). -/
def passTrip (s : State) : State :=
  if s.latticeCopy != s.grd.copyB && s.grd.st != .trip then guardTrip 9 s
  else if s.grd.st.grants && s.tripRule then guardTrip 3 s else s

/-- The other transitions that the pass itself makes (Table 10-2). -/
def passState (s : State) : State := match s.grd.st with
  | .run => if s.grd.failing != 0#32 then enterGuard .restrict 0 s else s
  | .restrict => if s.grd.failing = 0#32 then enterGuard .run 0 s else s
  | .safeStop => if s.started && s.machineStill then enterGuard .lockout 0 s else s
  | .trip => if s.tripComplete && !s.tripHeld && s.started then enterGuard .lockout 0 s else s
  | .lockout => s

/-- GUARD_ACK at the end of a pass that began in state `from_` (R330): its effect and its completion. -/
def passAck (from_ : GuardState) (d : Desc) (s : State) : State :=
  let op : Byte := 0x50
  let s : State := { s with ring.block := none }
  let deny (t : State) : State := postCpl op d .interlock 0 (w24 t.grd.st.code) 0 t
  let clear (t : State) : State := { t with grd.latched := t.grd.latched &&& t.ruleFails, grd.failing := t.ruleFails ||| (t.grd.latched &&& t.ruleFails) }
  if from_ = .safeStop || from_ = .trip then deny s
  else match s.grd.st with
  | .safeStop | .trip => deny s
  | .lockout =>
    if s.ackFails != 0#8 then deny (raise 0x3807 3 (s.ackFails.zeroExtend 24) 0 s)
    else
      let t := clear s
      if t.tripRule then deny (guardTrip 3 t)
      else
        let t := enterGuard (if t.grd.failing = 0#32 then .run else .restrict) 0 t
        acceptOk op d (w24 t.grd.st.code) 0 (raise 0x3806 3 (w24 t.grd.st.code) 0 t)
  | _ =>
    let t := clear s
    let t := if t.grd.failing = 0#32 && t.grd.st = .restrict then enterGuard .run 0 t else t
    acceptOk op d (w24 t.grd.st.code) 0 (raise 0x3806 3 (w24 t.grd.st.code) 0 t)

/-- The device heartbeat of the two-wire status word: one more every 10 ms, which is 500 passes (R418). -/
def beatPass (s : State) : State :=
  if s.grd.beatPass + 1 < 500 then { s with grd.beatPass := s.grd.beatPass + 1 }
  else { s with grd.beatPass := 0, grd.beat := s.grd.beat + 1 }

/-- What the engine does when the guard first enters RUN or RESTRICT after the start: a restored axis 0 is enabled (R363). -/
def liftRestore (s : State) : State :=
  if s.liftUp && s.lift.st = .notHomed && s.lift.homeRef.isNone && s.glb.restored.getLsbD 0 && (s.axis 0).st = .off && s.linesOn then
    let t := axEnable 0 s
    if (t.axis 0).verifying then axMod 0 (fun x => { x with after := some .stand }) { t with lift.phase := .verify } else t
  else s

/-- A halt request for a firmware core acts (R487): the event, and the guard's stop cause 18. -/
def beginHalt (k : Nat) (s : State) : State :=
  guardStop 18 (raise 0x7803 5 (w24 (fwIsl k)) 0 { s with dbg.haltReq := setB s.dbg.haltReq k true, dbg.haltWait := setB s.dbg.haltWait k false })

/-- The halt requests that waited for an activation of their island (R487). -/
def passHalts (s : State) : State := (List.range 3).foldl (fun t k =>
  if t.dbg.haltWait.getLsbD k && !(match t.fw.act with | none => false | some a => fwIdx a.isl = k) then beginHalt k t else t) s

/-- One pass: the trip causes first, then the stop causes, then the other transitions; one transition a pass (R321, R335). -/
def guardPass (s : State) : State :=
  let t := judgeRules (beatPass s)
  let u := passHalts (passTrip t)
  let u := if u.grd.st = t.grd.st then passState u else u
  let u := match u.ring.block with
    | some (.guardAck d) => passAck t.grd.st d u
    | _ => u
  let u := setLines (applyPermits u)
  if !s.glb.guardSeen && u.glb.guardSeen then liftRestore u else u

/-! ### Rows -/

/-- GUARD runs (R77): from step 3 on, while its clock is good. -/
def State.guardUp (s : State) : Bool := s.isl 4 = .run

/-- The discrepancy's clearing after a change of the ESTOP channels (R324). -/
def discTrack (s : State) : State :=
  let a := s.grd.estopA
  let b := s.grd.estopB
  let low : Bool := match s.grd.bothLow with | some t => 10000 ≤ s.now - t | none => false
  if !s.grd.disc then { s with grd.bothLow := if !a && !b then some s.now else none, grd.lowSeen := false }
  else if !a && !b then { s with grd.bothLow := some (s.grd.bothLow.getD s.now) }
  else
    let seen : Bool := s.grd.lowSeen || low
    if a && b then { s with grd.bothLow := none, grd.lowSeen := false, grd.disc := !seen }
    else { s with grd.bothLow := none, grd.lowSeen := seen }

/-- ESTOP (R323 to R325): the levels of both channels. A low disables every stage at once, in every guard state. -/
def execEstop (a b : Bool) (s : State) : Host.Outcome State Fault Refusal :=
  let fell : Bool := (s.grd.estopA && !a) || (s.grd.estopB && !b)
  let t := setLines (discTrack { s with grd.estopA := a, grd.estopB := b })
  if fell && s.guardUp then done (guardTrip 1 (raise 0x3802 6 (w24 (bit (!a) + 2 * bit (!b))) 0 t))
  else done t

/-- ESTOP_DISCREPANCY (R324). -/
def execEstopDiscrepancy (s : State) : Host.Outcome State Fault Refusal :=
  doneIf (s.guardUp && s.grd.estopA != s.grd.estopB && !s.grd.disc) (fun s =>
    guardTrip 2 (raise 0x3803 6 (w24 (bit s.grd.estopA)) 0 { s with grd.disc := true, grd.bothLow := none, grd.lowSeen := false })) s

/-- SAFE_STOP_TIMEOUT (R321): cause 8. The cold start's SAFE_STOP has no such timeout. -/
def execSafeStopTimeout (s : State) : Host.Outcome State Fault Refusal :=
  doneIf (s.guardUp && s.started && s.grd.st = .safeStop) (guardTrip 8) s

/-- GUARD_ACK (Table 6-14, R330): the decoder waits for the next pass. -/
def decGuardAck (d : Desc) (s : State) : State :=
  gate 0x50 d (formOk d false false m0 m0 m0 m0 m0) s fun s =>
  if s.heldAtSafe 4 then refuse 0x50 d .busy 0 s else { s with ring.block := some (.guardAck d) }

/-- GUARD_STATUS page 0 (R331). -/
def State.guardPage0 (s : State) : W24 :=
  w24 (s.grd.st.code + 8 * bit s.grd.estopA + 16 * bit s.grd.estopB + 32 * bit s.grd.disc + 64 * bit s.grd.stopLatch +
    128 * bit (s.pb 0x3C00) + 256 * bit s.txn.authd + 512 * bit s.sil.active + 1024 * bit s.twp.hbOk + 2048 * s.grd.cause.val +
    65536 * s.ackFails.toNat)

/-- GUARD_STATUS (Table 6-14, R331). -/
def decGuardStatus (d : Desc) (s : State) : State :=
  gate 0x51 d (formOk d false false 3 m0 m0 m0 m0) s fun s =>
  let page := fld d.d3 0 2
  let v : W24 := if page = 0 then s.guardPage0 else if page = 1 then s.grd.permits.zeroExtend 24
    else if page = 2 then s.grd.failing.extractLsb' 0 24 else (s.grd.failing.extractLsb' 24 8).zeroExtend 24
  acceptOk 0x51 d v 0 s

end Sys2Proof.Machine
end

