-- ==== Sys2Proof/Machine/AxisEvents.lean ====
section
/-! DEFINITION. The events of the axes (09): the profile tick, stalls, latches, stage protection, standstill, verification and
the edges of the external step inputs and the encoders. -/

namespace Sys2Proof.Machine

/-- MOTION runs. -/
def State.motionUp (s : State) : Bool := s.isl 1 = .run

/-- The door of an axis (R278): axis 1 door 0, axis 2 door 1, while the door owns it. -/
def State.doorOf (s : State) (a : Nat) : Option Nat := if (a = 1 || a = 2) && s.drEn (a - 1) then some (a - 1) else none

/-- The table entry that an axis drives: that of the bank in force at its index, which a switch of banks keeps (R281, R290, R292). -/
def State.drivenEntry (s : State) (a : Nat) : W24 :=
  let i := (s.index a).toNat
  ((s.tblDiff a (s.pb (0x1013 + 256 * a))).lookup i).getD (builtinTable.getD i 0)

/-- The currents of phases A and B as numerators over 204,700 mA: the entry's amplitudes times the run current, none where the stage is
off (R290). -/
def State.phaseCurrents (s : State) (a : Nat) : Int × Int :=
  if !(s.axis a).stage then (0, 0) else
  let e := s.drivenEntry a
  ((e.extractLsb' 12 12).toInt * s.runCurrent a, (e.extractLsb' 0 12).toInt * s.runCurrent a)

/-- An axis event code. -/
abbrev axCode (base a : Nat) : W16 := BitVec.ofNat 16 (base + a)

/-- The stall action (R303), for a stall or a step overrun: homed lost, the owner told, and AX_STALL_ACT taken. -/
def stallAct (a : Nat) (s : State) : State :=
  let t := axMod a (fun x => { x with homed := false, stall := true, dev := 0, noVerify := false, suspended := x.st = .external }) s
  let t := if a = 0 && s.owner 0 = 1 then liftFault 1 t else t
  let t := match s.doorOf a with
    | some k => if (s.dr k).st.moves then doorFault k 6 .internal 0 t else t
    | none => t
  let act := s.pn (axP a 0x1D)
  if act = 2 then axMod a (fun x => { x with stall := true }) (axDisable a .notHomed 0 t)
  else
    let t := axStop true a .notHomed 0 t
    let t := if act = 1 then axMod a (fun x => { x with v := 0, a := 0 }) t else t
    if (t.axis a).moves then t else axMod a (fun x => ({ x with stepTarget := x.word } : Axis).takeRef) t

/-- The lag of an external axis past AX_STEP_LAG (R298). -/
def stepOverrun (a : Nat) (s : State) : State :=
  let x := s.axis a
  let lag := (x.stepTarget - x.word).int.natAbs
  if x.st = .external && !x.suspended && s.pn (axP a 0x32) < lag then
    stallAct a (raise (axCode 0x1090 a) 4 (sat24 lag) 0 s) else s

/-! ### The tick (R284 to R289, R296 to R307) -/

/-- An armed gear switch whose position the master has reached or passed in this tick (R306). -/
def gearSwitch (a : Nat) (g : Gear) (s : State) : State := match g.armed with
  | none => s
  | some (ratio, got, r) =>
    let m := s.masterPos g.master.val
    let moved := (m - g.lastM).int
    let left := (got - g.lastM).int
    if (0 ≤ left && left ≤ moved) || (moved ≤ left && left ≤ 0) then
      let q := gearPos g.ratio g.origin m g.offset - gearPos ratio g.origin m 0
      let t := axMod a (fun y => { y with gear := some { g with ratio := ratio, offset := q, armed := none } }) s
      finish r .ok 0 0 (raise (axCode 0x10A0 a) 2 m q t)
    else s

/-- One tick of a geared follower (R304, R305, R307): the ratio in force, the follower's motion, an active limit toward it, and the lag
past AX_GEAR_LAG. -/
def gearTick (a : Nat) (s : State) : State := match (s.axis a).gear with
  | none => s
  | some g =>
    let m := s.masterPos g.master.val
    let s := gearSwitch a g s
    match (s.axis a).gear with
    | none => s
    | some g2 =>
      let f := gearPos g2.ratio g2.origin m g2.offset
      let vg := g2.ratio.int * s.masterSpeed g2.master.val / 65536
      let t := axMod a (fun y => { followTick (f.int * xUnit) vg ((s.pn (axP a 0x08) : Int) * vUnit) ((s.pn (axP a 0x0A) : Int) * aUnit) y with gear := some { g2 with lastM := m } }) s
      let t := limitTick a t
      let lag := (f - (t.axis a).word).int
      if (t.axis a).st = .geared && s.pn (axP a 0x38) < lag.natAbs then axStop true a .interlock 0 (raise (axCode 0x10B0 a) 5 (w24i lag) 0 t) else t

/-- One tick of an external axis (R297): the step target followed at m / T, exactly reached 2 × T after the last edge. -/
def stepTick (a : Nat) (s : State) : State :=
  let x := s.axis a
  let rest := wrapDiff (x.stepTarget.int * xUnit - x.x)
  if x.suspended || rest = 0 then axMod a (fun y => { y with v := 0, a := 0 }) s
  else
    let m : Int := 256 / 2 ^ s.pn (axP a 0x31)
    let late : Bool := match x.stepAt with
      | some t => 2 * x.stepPeriod ≤ s.now - t
      | none => true
    let want : Int := if late || x.stepPeriod = 0 then rest.natAbs else m * xUnit * 50 / x.stepPeriod
    let lim : Int := 2 * (s.pn (axP a 0x08) : Int) * vUnit
    let step := min (min want lim) rest.natAbs * rest.sign
    limitTick a (axMod a (fun y => { y with x := wrapX (y.x + step), v := step / 2 }) s)

/-- What an axis's standstill means to its owner (R361, R362, R377). -/
def ownerStands (a : Nat) (s : State) : State :=
  if a = 0 then liftStands s else match s.doorOf a with
    | some k => drLost k s
    | none => s

/-- The home search past AX_HOME_MAX without a latch (R310). -/
def homeOver (a : Nat) (s : State) : State :=
  let x := s.axis a
  if x.st = .homing && x.homeMax ≤ x.travel then
    axStop false a .notHomed 0 (raise (axCode 0x1060 a) 4 0 x.word s) else s

/-- A motion handed over to start at the first tick after standstill (R377); a door's closing move takes its reference pair as it
starts (R376). -/
def startNext (a : Nat) (s : State) : State :=
  let x := s.axis a
  match x.next with
  | none => s
  | some m =>
    if x.moves || !x.stage then s else
    let dir : Int := match m.target with
      | some g => if g < x.pos then -1 else 1
      | none => m.dir
    let t := axMod a (fun y => { y with next := none }) (axBegin a .moving (some { m with dir := dir }) [] s)
    match s.doorOf a with
    | some k => if (s.dr k).st = .closing || (s.dr k).st = .nudging then drRef k t else t
    | none => t

/-- One axis's motion in a tick. -/
def axMove (a : Nat) (s : State) : State :=
  let s := axMod a (Axis.dueDec (s.pn (axP a 0x0C))) (startNext a s)
  let x := s.axis a
  match x.st, x.move with
  | .moving, some m =>
    let goal := (m.target.getD x.pos) * xUnit
    let y := posTick goal m x
    let t := axMod a (fun _ => y) s
    if y.v = 0 && y.x = goal then ownerStands a (axStands a t) else t
  | .velocity, some m =>
    let y := velTick m x
    let y : Axis := { y with travel := y.travel + (y.word - x.word).int.natAbs }
    let t := axMod a (fun _ => y) s
    if y.v = (m.speed : Int) * vUnit * m.dir then axEnd a .ok 0 0 t else t
  | .homing, some m =>
    let y := velTick m x
    homeOver a (axMod a (fun _ => { y with travel := y.travel + (y.word - x.word).int.natAbs }) s)
  | .stopping, _ =>
    let y := if x.emg then stopTick (s.pn (axP a 0x0C)) 0 x else stopTick x.stopDec x.stopJerk x
    let t := axMod a (fun _ => y) s
    if y.v = 0 then ownerStands a (axStands a t) else t
  | .geared, _ => gearTick a s
  | .external, _ => stepOverrun a (stepTick a s)
  | _, _ => axMod a (fun y => { y with still := y.still + 1 }) s

/-- Ticks with the deviation outside the window (R302); a closing door's own check replaces it (R376). -/
def devTick (a : Nat) (s : State) : State :=
  let x := s.axis a
  let closing : Bool := match s.doorOf a with
    | some k => (s.dr k).st = .closing || (s.dr k).st = .nudging
    | none => false
  let win := s.pn (axP a 0x1B)
  if x.stage && s.encOn a && win != 0 && !closing then
    axMod a (fun y => { y with dev := if win < (s.deviation a y.refE y.refP).natAbs then y.dev + 1 else 0 }) s
  else axMod a (fun y => { y with dev := 0 }) s

/-- PROFILE_TICK (R284): every axis that is not geared, then the followers, then what watches them. -/
def profileTick (s : State) : State :=
  let plain := (List.range 5).filter (fun a => (s.axis a).st != .geared)
  let geared := (List.range 5).filter (fun a => (s.axis a).st = .geared)
  let t := encmTick ((plain ++ geared).foldl (fun u a => axMove a u) s)
  let t := (List.range 5).foldl (fun u a => devTick a u) t
  let t := (List.range 2).foldl (fun u k => drTick k u) t
  if t.liftUp then tripTick t else t

/-- PROFILE_TICK (R284). -/
def execProfileTick (s : State) : Host.Outcome State Fault Refusal := doneIf s.motionUp profileTick s

/-! ### Stall, latch, protection -/

/-- AX_STALL (R302, R303). -/
def execAxStall (a : Fin 5) (s : State) : Host.Outcome State Fault Refusal :=
  let x := s.axis a.val
  doneIf (s.motionUp && x.stage && s.encOn a.val && s.pn (axP a.val 0x1B) != 0 && s.pn (axP a.val 0x1C) ≤ x.dev) (fun s =>
    stallAct a.val (raise (axCode 0x1010 a.val) 5 (w24i (s.deviation a.val x.refE x.refP)) (w24i x.pos) s)) s

/-- The latched point of a home search redefined to AX_HOME_POS (R310): the axis stops on AX_DEC, homed. -/
def homeLatched (a : Nat) (pos : W24) (s : State) : State :=
  let p := s.pz (axP a 0x2C)
  let t := axMod a (fun x => ({ s.shiftPos a (p - pos.int) x with homed := true, noVerify := false } : Axis).takeRef) s
  let t := axStop false a .ok 0 t
  raise (axCode 0x1050 a) 2 pos (w24i p) t

/-- The closed switch found in a recovery close (R378): the latched point is DR_POS_CLOSED. -/
def doorLatched (k : Nat) (pos : W24) (s : State) : State :=
  let a := k + 1
  let t := axMod a (fun x => ({ s.shiftPos a (s.posClosed k - pos.int) x with homed := true, noVerify := false } : Axis).takeRef) s
  axStop false a .ok 0 t

/-- The position and count that a latch records (R309): for the index the commanded position interpolated `ns` ns after the last
tick, and the count; for a field input those that its H-frame gave. -/
def State.latchNow (s : State) (a ns : Nat) : Option (W24 × W24) :=
  let x := s.axis a
  if s.latchIndex a then some (w24i ((x.x + 2 * x.v * (ns : Int) / 50000) / xUnit), x.enc) else x.edge

/-- AX_LATCH (R309, R310, R356, R378): the latch takes the position and count of its edge. -/
def execAxLatch (a : Fin 5) (us : Fin 50) (ns : Fin 1000) (s : State) : Host.Outcome State Fault Refusal :=
  let x := s.axis a
  let got := s.latchNow a.val (1000 * us.val + ns.val)
  doneIf (s.motionUp && x.latchArmed && got.isSome) (fun s =>
    let p := got.getD (0, 0)
    let t := axMod a.val (fun y => { y with latch := some p, latchArmed := false, edge := none }) s
    if x.st = .homing then homeLatched a.val p.1 t
    else match s.doorOf a.val with
      | some k => if (s.dr k).recovery then doorLatched k p.1 t else t
      | none => t) s

/-- AX_OVERCURRENT (R315): the stage opens, the axis is in FAULT and not homed. -/
def execAxOvercurrent (a : Fin 5) (bridge : Fin 2) (kind : Nat) (s : State) : Host.Outcome State Fault Refusal :=
  doneIf (s.motionUp && (s.axis a.val).stage && 1 ≤ kind && kind ≤ 3) (fun s =>
    let t := axMod a.val (fun y => { y with homed := false }) s
    let t := axMod a.val (fun y => { y with st := .fault, homed := false, noVerify := false }) (axDisable a.val .internal 0 t)
    let t := raise (axCode 0x1030 a.val) 5 (w24 bridge.val) (w24 kind) t
    if a.val = 0 && s.owner 0 = 1 then liftFault 2 t
    else match s.doorOf a.val with
      | some k => if (s.dr k).st.moves then doorFault k 6 .internal 0 t else t
      | none => t) s

/-- AX_OPEN_LOAD (R315). -/
def execAxOpenLoad (a : Fin 5) (bridge : Fin 2) (isOpen : Bool) (s : State) : Host.Outcome State Fault Refusal :=
  let x := s.axis a.val
  let now : Bool := if bridge = 0 then x.openA else x.openB
  doneIf (s.motionUp && x.stage && now != isOpen) (fun s =>
    let t := axMod a.val (fun y => if bridge = 0 then { y with openA := isOpen } else { y with openB := isOpen }) s
    if isOpen then raise (axCode 0x1040 a.val) 4 (w24 bridge.val) 0 t else t) s

/-! ### Standstill and enable -/

/-- HOLD_CURRENT (R311). -/
def execHoldCurrent (a : Fin 5) (s : State) : Host.Outcome State Fault Refusal :=
  let x := s.axis a.val
  doneIf (s.motionUp && x.stage && x.stands) (axMod a.val (fun y => { y with hold := true })) s

/-- AX_IDLE_OFF (R312, R313). -/
def execAxIdleOff (a : Fin 5) (s : State) : Host.Outcome State Fault Refusal :=
  let x := s.axis a.val
  doneIf (s.motionUp && x.stage && x.stands && !x.verifying && s.pn (axP a.val 0x03) != 0 && (x.st = .standstill || x.st = .external)) (fun s =>
    let save : Bool := x.homed && s.pb (axP a.val 0x04)
    let t := axDisable a.val .superseded 0 s
    let t := axMod a.val (fun y => { y with st := if save then .idleOff else .off, homed := save }) t
    raise (axCode 0x1080 a.val) 2 (w24 (bit save)) 0 t) s

/-- A move that waited, with the defaults that have changed since (R287). -/
def State.moveNow (s : State) (a : Nat) (m : Move) : Move :=
  { m with acc := if m.accDef then s.pn (axP a 0x0A) else m.acc, dec := if m.decDef then s.pn (axP a 0x0B) else m.dec }

/-- What waited for the verification of its stage (R283): the accepted motion, or the gear; a permit withdrawn or a limit that has
become active in between ends it (R12, R308). -/
def launchAfter (a : Nat) (w : AfterEnable) (s : State) : State :=
  let r := (s.axis a).refs
  match w with
  | .stand => s
  | .gear g => if s.permit (axPermit a) then axMod a (fun y => { y with gear := some g }) (axBegin a .geared none [] s) else s
  | .move st m =>
    let latchLimit : Bool := st = .homing && s.pn (axP a 0x28) = 2 && s.chan (axP a (if m.dir < 0 then 0x20 else 0x21)) = some (s.pn (axP a 0x29))
    if !s.permit (axPermit a) || (s.limitBars a m.dir && !latchLimit) then axEnd a .interlock 0 0 s
    else axMod a (fun y => { y with latchArmed := st = .homing }) (axBegin a st (some (s.moveNow a m)) r s)

/-- The count difference that the verification of a stage judges: none without a retained state (R314). -/
def State.verifyDiff (s : State) (a : Nat) : Option Int := (s.retOf a).map (fun r => ((s.axis a).enc - r.enc).int)

/-- AX_VERIFY (R314): the count compared with the retained count. -/
def execAxVerify (a : Fin 5) (s : State) : Host.Outcome State Fault Refusal :=
  let x := s.axis a.val
  doneIf (s.motionUp && x.verifying) (fun s =>
    let diff := (s.verifyDiff a.val).getD 0
    let ok : Bool := diff.natAbs ≤ s.pn (axP a.val 0x1E)
    let t := retUsed a.val (axMod a.val (fun y => { y with verifying := false, after := none, st := s.standState a.val, homed := y.homed && ok }) s)
    let t := if ok then t else raise (axCode 0x1070 a.val) 5 (w24i diff) 0 t
    let t := axPowerDone a.val (if ok then .ok else .notHomed) t
    let t := match x.after with
      | some w => if ok then launchAfter a.val w t else axEnd a.val .notHomed 0 0 t
      | none => t
    if a.val = 0 && s.owner 0 = 1 then liftVerified (ok && x.homed) t else t) s

/-! ### Edges -/

/-- STEP_EDGE (R296 to R298): STEP3 or STEP4, with the level of its DIR. While the permit is withdrawn, a limit toward the step
direction is active or a stop runs, the edge is not counted. -/
def execStepEdge (second dirHigh : Bool) (s : State) : Host.Outcome State Fault Refusal :=
  let a := if second then 4 else 3
  let x := s.axis a
  doneIf (s.motionUp && x.stage && s.standState a = .external && (x.st = .external || x.st = .stopping) && !x.verifying && !x.suspended) (fun s =>
    let dir : Int := if dirHigh then -1 else 1
    if x.st = .stopping || !s.permit (axPermit a) || s.limitBars a dir then axMod a (fun y => { y with ignored := y.ignored + 1 }) s
    else
      let t := if x.ignored = 0 then s else raise (axCode 0x10C0 a) 3 (sat24 x.ignored) 0 (axMod a (fun y => { y with ignored := 0 }) s)
      let gap : Nat := match x.stepAt with
        | some u => s.now - u
        | none => 10000
      stepOverrun a (axMod a (fun y => { y with
        stepTarget := y.stepTarget + w24i (256 / 2 ^ s.pn (axP a 0x31) * dir)
        stepPeriod := if 10000 ≤ gap then 50 else gap
        stepAt := some s.now, hold := false, still := 0 }) t)) s

/-- ENCODER_EDGE (R301, R317): one count of an enabled encoder. -/
def execEncoderEdge (source : Fin 6) (up : Bool) (s : State) : Host.Outcome State Fault Refusal :=
  let step (inv : Bool) : W24 := if up != inv then 1 else 0xFFFFFF
  if source.val = 5 then
    doneIf (4 ≤ s.glb.step.val && s.pb 0x1800) (fun s => { s with mot.encM := s.mot.encM + step (s.pb 0x1801) }) s
  else
    doneIf (4 ≤ s.glb.step.val && s.encOn source.val) (axMod source.val (fun y => { y with enc := y.enc + step (s.pb (axP source.val 0x1A)) })) s

end Sys2Proof.Machine
end

