-- ==== Sys2Proof/Machine/Txn.lean ====
section
/-! DEFINITION. Parameters, transactions and the committed image (07, 17): the host's parameter and transaction commands, votes,
safe points, the commit point, the apply strobe and rollbacks. -/

namespace Sys2Proof.Machine

/-! ### State changes and the image banks -/

/-- The transaction state changed: interrupt source 7, once the mirror shows it (Table 5-8, R143). -/
def txnTo (st : TxnState) (s : State) : State := if s.txn.st = st then s else sendIrq 7 { s with txn.st := st }

/-- Whether a commit writes bank A, bank B: the bank that does not hold the image in force, the invalid one under BANK_BAD,
both under DEFAULTS (R208, R211). -/
def State.spare (s : State) : Bool × Bool :=
  if s.glb.defaults then (true, true)
  else if !s.prm.bankA.valid then (true, false)
  else if !s.prm.bankB.valid then (false, true)
  else if s.prm.bankA.epoch = s.prm.epoch then (false, true) else (true, false)

/-- The banks that a commit writes replaced by one content. -/
def putBanks (b : Bank) (s : State) : State :=
  let w := s.spare
  { s with prm.bankA := if w.1 then b else s.prm.bankA, prm.bankB := if w.2 then b else s.prm.bankB }

/-- The image write begins: until its header is written, the spare bank fails its CRC (R208). -/
def imageBegin (s : State) : State :=
  let w := s.spare
  { s with prm.bankA.valid := s.prm.bankA.valid && !w.1, prm.bankB.valid := s.prm.bankB.valid && !w.2 }

/-- After a rollback the spare bank, under DEFAULTS both banks, gets the image in force and its own epoch; both are then valid (R210).
The default image has epoch 0 and no transaction (R209). -/
def imageAbort (s : State) : State :=
  let txn : W16 := if s.glb.defaults then 0
    else if s.prm.bankA.valid && s.prm.bankA.epoch = s.prm.epoch then s.prm.bankA.txn else s.prm.bankB.txn
  let t := putBanks { valid := true, epoch := s.prm.epoch, txn := txn, vals := s.prm.committed } s
  { t with glb.bankBad := t.glb.bankBad && !(t.prm.bankA.valid && t.prm.bankB.valid) }

/-- The staged values as the new image (R208). -/
def State.nextImage (s : State) : List (Nat × W24) := s.txn.staged.foldl (fun l p => commitSet l p.1 p.2) s.prm.committed

/-! ### Rollback (R205, Table 7-4) -/

/-- Every staged shadow discarded (R205, R255). -/
def discardShares (s : State) : State :=
  let t : State := if s.touches 8 then { s with awn.shadow := [], awn.discardDue := true } else s
  { t with txn.staged := [], txn.tables := [], txn.idWords := none, txn.voted := 0, txn.atSafe := 0, txn.written := false, txn.imageDone := false }

/-- The transaction rolls back with a cause of Table 7-4 and the failing island. -/
def rollback (cause isl : Nat) (s : State) : State :=
  let was := s.committing
  let t := discardShares (if was then imageAbort s else s)
  let t : State := { t with
    txn.failIsl := BitVec.ofNat 4 isl, txn.failCause := BitVec.ofNat 4 cause, txn.lastId := s.txn.id, txn.lastCommit := false
    txn.authd := false, txn.deadline := none, txn.ref := none }
  let t := raise 0x0405 4 (s.txn.id.zeroExtend 24) (w24 (isl + 16 * cause)) t
  let t := match s.txn.ref with
    | none => t
    | some r => finishC (BitVec.ofNat 8 cause) r .txnRolledBack 0 (BitVec.ofNat 8 isl) t
  txnTo .rolledBack t

/-- Cause 6: the host link stops while the transaction is OPEN (Table 7-4). -/
def txnHostStop (s : State) : State := if s.txn.st = .opened then rollback 6 15 s else s
/-- Cause 5: entry into L3 or deeper (R206). -/
def txnShed (s : State) : State := if s.txn.st = .preparing || s.txn.st = .waiting then rollback 5 15 s else s
/-- Cause 4: a watchdog restarts a touched island (R94); LINK stands for FIELD. -/
def txnIslandLost (i : Nat) (s : State) : State :=
  let i := if i = 6 then 8 else i
  if (s.txn.st = .preparing || s.txn.st = .waiting) && s.touches i then rollback 4 i s else s

/-! ### Safe points (Table 7-1) -/

/-- Whether an island that can answer stands at its safe point (Table 7-1, R200, R255). -/
def State.atSafePoint (s : State) (i : Nat) : Bool :=
  (i = 8 || s.isl i = .run || s.isl i = .recovery) &&
  (if i = 1 then (List.range 5).all (fun a => !s.axisNeeds a || (s.axis a).stands)
   else if i = 2 then
    (if s.liftEn && s.lift.st != .notHomed then s.lift.st = .idle && s.carLanding != 15
     else s.lift.homeRef.isNone && (s.axis 0).stands) &&
    (List.range 2).all (fun k => !s.drEn k || ((s.dr k).st = .closedLocked && !(s.dr k).cycle))
   else if i = 3 then s.grindStopped
   else if i = 4 then (s.grd.st = .safeStop || s.grd.st = .lockout) && (!s.pb 0x3C00 || s.txn.authd)
   else if i = 8 then s.awn.shadow.isEmpty
   else true)

/-- The touched islands as a map by number. -/
def State.touchedMap (s : State) : BitVec 9 := BitVec.ofNat 9 (bitsOf ((List.range 9).map s.touches))

/-- Every touched island has voted yes. -/
def State.allVoted (s : State) : Bool := s.touchedMap &&& ~~~ s.txn.voted = 0#9
/-- Every touched island stands at its safe point. -/
def State.allSafe (s : State) : Bool := s.touchedMap &&& ~~~ s.txn.atSafe = 0#9

/-- APPLYING once every touched island has voted, the image is written and every touched island stands at its safe point; WAITING
where only the last is missing (Table 7-2). -/
def txnAdvance (s : State) : State :=
  if !(s.allVoted && s.txn.written) then s
  else if s.allSafe then txnTo .applying { s with txn.deadline := none }
  else if s.txn.st = .preparing then
    txnTo .waiting (raise 0x0402 2 (s.txn.id.zeroExtend 24) ((s.touchedMap &&& ~~~ s.txn.atSafe).zeroExtend 24) s)
  else s

/-- LOG writes the new image to the spare bank (R208): within the step that begins the commit, or the step with which LOG runs again
(DEDUCED, log 112). -/
def writeImage (s : State) : State :=
  if s.logUp && s.txn.st = .preparing && !s.txn.written then txnAdvance { s with txn.written := true } else s

/-- FORCE_QUIESCE brings the touched islands to their safe points (R204, Table 7-3). -/
def quiesce (s : State) : State :=
  let act (i : Nat) : Bool := s.needsSafe i && !s.atSafePoint i
  let m := bit (act 1) * 2 + bit (act 2) * 4 + bit (act 3) * 8
  let t := if act 1 then (List.range 5).foldl (fun u a => if s.axisNeeds a && s.owner a = 0 then axStop false a .superseded 0 u else u) s else s
  let t := if act 3 then grindRampCause .superseded 0 t else t
  if m = 0 then t else raise 0x0403 3 (s.txn.id.zeroExtend 24) (w24 m) t

/-! ### Parameter commands (Table 6-11) -/

/-- The refusal of the TXN flag (R163, R194). -/
def State.txnBars (s : State) (d : Desc) : Option (Status × Byte) :=
  if !dTxn d then none
  else if s.txn.st = .opened && dTxnId d = s.txn.id then none
  else if s.txn.st = .rolledBack && dTxnId d = s.txn.id && s.txn.id != 0#16 then some (.txnRolledBack, s.txn.failIsl.zeroExtend 8)
  else some (.noTxn, 0)

/-- PARAM_READ (Table 6-11, R163, R295, R501). -/
def decParamRead (d : Desc) (s : State) : State :=
  let op : Byte := 0x08
  let pid := fld d.d3 0 16
  let staged := d.d3.getLsbD 16
  gate op d (formOk d true false 0x1FFFF m0 m0 m0 m0 && (!staged || dTxn d)) s fun s =>
  match s.txnBars d with
  | some p => refuse op d p.1 p.2 s
  | none =>
    if !pidExists pid then refuse op d .badPid 0 s
    else if staged && isTablePid pid then refuse op d .badArg 0 s
    else acceptOk op d (if staged then s.stagedWord pid else s.committedWord pid) 0 s

/-- The shedding thresholds in order with one PID replaced (R74). -/
def supplyOk (g : Nat → Nat) : Bool :=
  g 0x201 + 1500 ≤ g 0x200 && g 0x202 + 1500 ≤ g 0x201 && g 0x203 + 1500 ≤ g 0x202 && g 0x200 + 2500 ≤ g 0x204

/-- A sealed block (Table 17-3, R337). -/
def sealedBlock (b : Nat) : Bool := b = 0x38 || b = 0x3C || b = 0x40

/-- The refusal of one value, after those of the whole command: `run` holds the values of the run before it (R74, R168, R173,
R196, R337, R411, R501, R505). -/
def State.valueBars (s : State) (txn : Bool) (run : List (Nat × W24)) (pid : Nat) (v : W24) : Option Status :=
  let look (base : Nat → W24) (k : Nat) : Nat := if k = pid then v.toNat else ((run.lookup k).getD (base k)).toNat
  match pinfo pid with
  | none =>
    if pid = 0x1E0 then some .badArg
    else if isIdentPid pid then (if txn then none else some .pidNotLive)
    else if isTablePid pid then some (if txn then .badArg else .pidNotLive)
    else some .badPid
  | some i =>
    if !i.live && !txn then some .pidNotLive
    else if !inRange pid v then some .badArg
    else if 0x200 ≤ pid && pid ≤ 0x204 && !supplyOk (look s.judged) then some .badArg
    else if pid / 256 = 0x28 && !txn && !grindRules (fun k => look s.pv (0x2800 + k)) then some .badArg
    else if pid = 0x3C00 && v = 1#24 && s.prm.ident.sealKey.isNone then some .badArg
    else none

/-- The first refusal of a run from a PID, in index order. -/
def State.runBars (s : State) (txn : Bool) : List (Nat × W24) → Nat → List W24 → Option Status
  | _, _, [] => none
  | run, pid, v :: vs => match s.valueBars txn run pid v with
    | some st => some st
    | none => s.runBars txn (run ++ [(pid, v)]) (pid + 1) vs

/-- One value staged (R195, R255, R505). -/
def stageOne (pid : Nat) (v : W24) (s : State) : State :=
  if isIdentPid pid then { s with txn.idWords := some (assocSet (s.txn.idWords.getD []) (pid - 0x180) v) }
  else
    shadowDue pid { s with txn.staged := assocSet s.txn.staged pid v }

/-- A run staged from a PID. -/
def stageRun : Nat → List W24 → State → State
  | _, [], s => s
  | pid, v :: vs, s => stageRun (pid + 1) vs (stageOne pid v s)

/-- A live run put down for the owner's next tick (R186): the last write to a PID wins. -/
def liveRun : Nat → List W24 → State → State
  | _, [], s => s
  | pid, v :: vs, s => liveRun (pid + 1) vs { s with prm.due := assocSet s.prm.due pid v }

/-- A sealed block takes no write, unless into an authorised transaction, or SG_SEALED = 1 into any (R337). -/
def State.sealBars (s : State) (txn : Bool) (pid : Nat) (vs : List W24) : Bool :=
  s.pb 0x3C00 && ((List.range vs.length).any (fun k => sealedBlock ((pid + k) / 256))) &&
    !(txn && (s.txn.authd || (pid = 0x3C00 && vs = [1#24])))

/-- An island under firmware activation (R476). -/
def State.actBars (s : State) (pid : Nat) : Bool := match s.fw.act with
  | none => false
  | some a => blockOwner (pid / 256) = fwNum a.isl

/-- The entries of a microstep table staged from entry `first` (R293). -/
def stageTable (a : Nat) (b : Bool) (first : Nat) (vs : List W24) (s : State) : State :=
  let keep := s.txn.tables.filter (fun p => !(p.1 = a && p.2.1 = b && first ≤ p.2.2.1 && p.2.2.1 < first + vs.length))
  { s with txn.tables := keep ++ vs.zipIdx.map (fun p => (a, b, first + p.2, p.1)) }

/-- A PARAM_WRITE with its values known (R173, R186, R194 to R196, R293, R337, R476, R501). -/
def writeParams (op : Byte) (d : Desc) (bulk : Bool) (pid : Nat) (ws : List W32) (s : State) : State :=
  let txn := dTxn d
  let vs := ws.map arg24
  let n := vs.length
  if !pidExists pid then refuse op d .badPid 0 s
  else if s.sealBars txn pid vs then refuse op d .sealed 0 s
  else if txn && s.actBars pid then refuse op d .busy 0 s
  else if ws.any (fun w => !within w mA) then refuse op d .badArg 0 s
  else if isTablePid pid && txn then
    let first := (arg24 d.d4).toNat
    if !bulk || 1024 < first + n || vs.any badEntry then refuse op d .badArg 0 s
    else
      let t := stageTable (tableOf pid).1 (tableOf pid).2 first vs s
      if 512 < t.stagedCount then refuse op d .txnFull 0 s else acceptOk op d (w24 n) 0 t
  else if 256 < pid % 256 + n then refuse op d .badArg 0 s
  else match s.runBars txn [] pid vs with
    | some st => refuse op d st 0 s
    | none =>
      if txn then
        let t := stageRun pid vs s
        if 512 < t.stagedCount then refuse op d .txnFull 0 s else acceptOk op d (w24 n) 0 t
      else acceptOk op d (w24 n) 0 (liveRun pid vs s)

/-- PARAM_WRITE (Table 6-11). d4 is the value, or the first entry of a bulk table run. -/
def decParamWrite (d : Desc) (s : State) : State :=
  let op : Byte := 0x09
  let pid := fld d.d3 0 16
  let bulk := d.d3.getLsbD 16
  let form := if bulk then formOk d true false 0x1FFFF (if isTablePid pid then 0x3FF else m0) mB mB mB && bulkOk d 4 4
    else formOk d true false 0x1FFFF mA m0 m0 m0
  gate op d form s fun s =>
  match s.txnBars d with
  | some p => refuse op d p.1 p.2 s
  | none =>
    if bulk && !d.dmaOk then bulkFail op d false s
    else writeParams op d bulk pid (if bulk then bulkWords d else [d.d4]) s

/-! ### Transaction commands (Table 6-11) -/

/-- The 26-byte message of R338. -/
def unsealMessage (nonce : List Byte) (id : W16) : List Byte := nonce ++ leBytes 2 id.toNat ++ leBytes 8 Config.serial.toNat

/-- The unseal response is right (R338). -/
def State.unsealOk (s : State) (id : W16) (resp : List Byte) : Bool := match s.prm.ident.sealKey, s.log.nonce with
  | some k, some (2, n) => resp = Config.hmacSha256 k (unsealMessage n id)
  | _, _ => false

/-- The nonce of a purpose consumed (R177). -/
def useNonce (purpose : Nat) (s : State) : State := match s.log.nonce with
  | none => s
  | some (p, _) => if p = purpose then { s with log.nonce := none } else s

/-- A transaction opened (R193). -/
def txnOpen (op : Byte) (d : Desc) (auth : Bool) (s : State) : State :=
  let id := dTxnId d
  let ms := (arg24 d.d3).toNat
  let t : State := { s with
    txn.id := id, txn.force := d.d4.getLsbD 0, txn.authd := auth, txn.deadlineMs := ms, txn.failIsl := 15, txn.failCause := 0
    txn.voted := 0, txn.atSafe := 0, txn.written := false, txn.imageDone := false, txn.ref := none }
  let t := raise 0x0401 2 (id.zeroExtend 24) (w24 ms) (txnTo .opened t)
  acceptOk op d (id.zeroExtend 24) 0 t

/-- TXN_BEGIN (Table 6-11, R193, R338). -/
def decTxnBegin (d : Desc) (s : State) : State :=
  let op : Byte := 0x10
  let keyed := d.d4.getLsbD 1
  let mb := if keyed then mB else m0
  let ms := (arg24 d.d3).toNat
  gate op d (formOk d false true mA 3 mb mb mb && (!keyed || bulkOk d 32 4) && dTxnId d != 0#16 && 1 ≤ ms && ms ≤ 10000) s fun s =>
  if s.txn.st != .idle && s.txn.st != .rolledBack then refuse op d .txnOpen 0 s
  else if dTxnId d = s.txn.lastId then refuse op d .badArg 0 s
  else if !keyed then txnOpen op d false s
  else if !d.dmaOk then bulkFail op d false s
  else if s.unsealOk (dTxnId d) (bulkBytes d 32) then txnOpen op d true (useNonce 2 s)
  else refuse op d .authFail 0 (raise 0x380A 5 ((dTxnId d).zeroExtend 24) 0 (useNonce 2 s))

/-- The commit begun (R197, R198, R204, R208). -/
def startCommit (op : Byte) (d : Desc) (s : State) : State :=
  let t := imageBegin { s with txn.deadline := some (s.now + 1000 * s.txn.deadlineMs), txn.voted := 0, txn.atSafe := 0 }
  let safe := BitVec.ofNat 9 (bitsOf ((List.range 9).map (fun i => t.needsSafe i && t.atSafePoint i)))
  let waits : Bool := (List.range 9).any (fun i => t.needsSafe i && !t.atSafePoint i)
  let r := t.nextRef op d
  let t := acceptRun op d (if waits then .deferred else .queued) 0 0 { t with txn.atSafe := safe }
  let t := txnTo .preparing { t with txn.ref := some r, txn.written := t.logUp }
  if t.txn.force then quiesce t else t

/-- TXN_COMMIT (Table 6-11, R197, R202). A commit with no staged write logs no TXN_COMMITTED (DESIGN CHOICE, log 98). -/
def decTxnCommit (d : Desc) (s : State) : State :=
  let op : Byte := 0x11
  gate op d (formOk d false true m0 m0 m0 m0 m0) s fun s =>
  if s.committing then refuse op d .busy 0 s
  else if s.txn.st != .opened || dTxnId d != s.txn.id then refuse op d .noTxn 0 s
  else if s.stagedCount = 0 && !s.glb.defaults then
    let t := txnTo .idle { s with txn.lastId := s.txn.id, txn.lastCommit := true, txn.authd := false }
    acceptOk op d (lo24 s.prm.epoch) 0 t
  else startCommit op d s

/-- TXN_ROLLBACK (Table 6-11, R191, R205). Its journal entry stands before the outcome that it causes (R215). -/
def decTxnRollback (d : Desc) (s : State) : State :=
  let op : Byte := 0x12
  gate op d (formOk d false true m0 m0 m0 m0 m0) s fun s =>
  if s.txn.st = .applying && dTxnId d = s.txn.id then refuse op d .busy 0 s
  else if !(s.txn.st = .opened || s.txn.st = .preparing || s.txn.st = .waiting) || dTxnId d != s.txn.id then refuse op d .noTxn 0 s
  else
    let t := jrnCmd op d .ok s
    postCpl op d .ok t.jrn.head (w24 s.stagedCount) 0 (rollback 1 15 t)

/-- TXN_STATUS (Table 6-11). -/
def decTxnStatus (d : Desc) (s : State) : State :=
  gate 0x13 d (formOk d false false m0 m0 m0 m0 m0) s fun s =>
  acceptOk 0x13 d (w24 (s.txn.st.code + 8 * s.stagedCount + 8192 * s.txn.failIsl.toNat)) 0 s

/-! ### Live parameters (R186, R187, R287) -/

/-- A running move after a live write to one of its axis's parameters (R286, R287). `pid` is the one written. -/
def retuneMove (a pid : Nat) (s : State) : State :=
  match (s.axis a).move with
  | none => s
  | some m =>
    let x := s.axis a
    let v := s.pn pid
    let k := pid % 256
    let m : Move :=
      if k = 0x08 then (if x.st = .moving || x.st = .velocity then { m with speed := min m.speed v } else m)
      else if k = 0x0A && m.accDef then { m with acc := v }
      else if k = 0x0B && m.decDef then x.takeDec (s.pn (axP a 0x0C)) v m
      else m
    axMod a (fun y => { y with move := some m }) s

/-- What else a new value in force does at once: a running move is retuned, a rate class is full again (R287, R448). -/
def valueEffect (pid : Nat) (s : State) : State :=
  let b := pid / 256
  if 0x10 ≤ b && b ≤ 0x14 then retuneMove (b - 0x10) pid s
  else if 0x4810 ≤ pid && pid ≤ 0x482F && pid % 2 = 0 then
    { s with log.tokens := s.log.tokens.setIfInBounds ((pid - 0x4810) / 2) (s.pn pid) }
  else s

/-- A live value of a field parameter crosses to the Husk: its active slice, and its shadow slice where that is staged (R252, R255). -/
def liveSlice (pid : Nat) (s : State) : State :=
  let t := sliceDue pid s
  if (sliceOf pid).isSome && s.txn.staged.any (fun p => sliceOf p.1 = sliceOf pid) then shadowDue pid t else t

/-- One live value in force. -/
def applyLive (s : State) (p : Nat × W24) : State := liveSlice p.1 (valueEffect p.1 { s with prm.live := assocSet s.prm.live p.1 p.2 })

/-- LIVE_PARAM_APPLY (R186): the live values that wait for an island's tick take effect. -/
def execLiveParamApply (i : Island) (s : State) : Host.Outcome State Fault Refusal :=
  let mine := s.prm.due.filter (fun p => blockOwner (p.1 / 256) = islNum i)
  doneIf (!mine.isEmpty) (fun s =>
    mine.foldl applyLive { s with prm.due := s.prm.due.filter (fun p => blockOwner (p.1 / 256) != islNum i) }) s

/-! ### Votes and safe points (R196 to R200) -/

/-- Whether an island votes yes (R74, R196, R270, R316, R334, R345, R411, R506). -/
def State.votesYes (s : State) (i : Nat) : Bool :=
  if i = 0 then (match s.txn.idWords with
    | none => true
    | some l => (s.idCheck (recordBytes l)).isNone)
  else if i = 1 then s.voteMotion
  else if i = 2 then s.voteLift
  else if i = 3 then grindRules (fun k => s.jn (0x2800 + k))
  else if i = 4 then s.voteGuard
  else if i = 8 then s.voteField
  else true

/-- ID_REFUSED where HOST refuses a record (R506). -/
def refuseIdent (s : State) : State := match s.txn.idWords with
  | none => s
  | some l => match s.idCheck (recordBytes l) with
    | none => s
    | some k => raise 0x010B 4 (w24 k) (s.txn.id.zeroExtend 24) s

/-- Whether an island can vote (R200): FIELD through LINK. -/
def State.canVote (s : State) (i : Nat) : Bool := s.islUp (if i = 8 then 6 else i)

/-- TXN_VOTE (R196, R198, R205). -/
def execTxnVote (i : Island) (s : State) : Host.Outcome State Fault Refusal :=
  let n := islNum i
  doneIf (s.txn.st = .preparing && s.touches n && !s.txn.voted.getLsbD n && s.canVote n) (fun s =>
    if s.votesYes n then
      let t : State := { s with txn.voted := setB s.txn.voted n true }
      txnAdvance (if s.needsSafe n then t else { t with txn.atSafe := setB t.txn.atSafe n true })
    else rollback 3 n (if n = 0 then refuseIdent s else s)) s

/-- SAFE_POINT_REACHED (R199). -/
def execSafePointReached (i : Island) (s : State) : Host.Outcome State Fault Refusal :=
  let n := islNum i
  doneIf ((s.txn.st = .preparing || s.txn.st = .waiting) && s.touches n && s.needsSafe n && !s.txn.atSafe.getLsbD n && s.atSafePoint n) (fun s =>
    txnAdvance { s with txn.atSafe := setB s.txn.atSafe n true }) s

/-- The lowest-numbered touched island that is not at its safe point or has not voted (R203). -/
def State.lateIsland (s : State) : Nat :=
  ((List.range 9).find? (fun i => s.touches i && !(s.txn.voted.getLsbD i && s.txn.atSafe.getLsbD i))).getD 15

/-- TXN_DEADLINE (R203). -/
def execTxnDeadline (s : State) : Host.Outcome State Fault Refusal :=
  doneIf (s.txn.st = .preparing || s.txn.st = .waiting) (fun s => rollback 2 s.lateIsland s) s

/-! ### The commit point (R208, R209, R294, R507) -/

/-- The entries of a bank after the commit. -/
def State.nextTable (s : State) (a : Nat) (b : Bool) : List (Nat × W24) :=
  (s.txn.tables.filter (fun p => p.1 = a && p.2.1 = b)).foldl (fun l p =>
    if builtinTable.getD p.2.2.1 0 = p.2.2.2 then assocErase l p.2.2.1 else assocSet l p.2.2.1 p.2.2.2) (s.tblDiff a b)

/-- A bank is staged. -/
def State.tableStaged (s : State) (a : Nat) (b : Bool) : Bool := s.txn.tables.any (fun p => p.1 = a && p.2.1 = b)

/-- Staged tables written to the spare of their two copies: the invalid one, else the older (R294). -/
def writeTables (epoch : Nat) (s : State) : State :=
  (List.range 10).foldl (fun t k =>
    let a := k / 2
    let b : Bool := k % 2 = 1
    if !s.tableStaged a b then t else
    let c0 := vget t.prm.tblNv (2 * k) {}
    let c1 := vget t.prm.tblNv (2 * k + 1) {}
    let j := if !c0.valid then 0 else if !c1.valid then 1 else if c0.epoch ≤ c1.epoch then 0 else 1
    { t with prm.tblNv := vset t.prm.tblNv (2 * k + j) { valid := true, epoch := epoch, entries := s.nextTable a b } }) s

/-- The merged identity content written to the spare identity copy (R507). -/
def writeIdent (epoch : Nat) (s : State) : State :=
  if s.txn.idWords.isNone then s else
  let c0 := vget s.prm.identNv 0 (false, 0, {})
  let c1 := vget s.prm.identNv 1 (false, 0, {})
  let j := if !c0.1 then 0 else if !c1.1 then 1 else if c0.2.1 ≤ c1.2.1 then 0 else 1
  { s with prm.identNv := vset s.prm.identNv j (true, epoch, s.nextIdent) }

/-- The header write (R208): the commit point takes the next epoch. -/
def commitPoint (s : State) : State :=
  let e := s.prm.highEpoch + 1
  let t := writeIdent e (writeTables e s)
  let t := putBanks { valid := true, epoch := e, txn := s.txn.id, vals := s.nextImage } t
  let t : State := { t with
    prm.highEpoch := e, glb.defaults := false, glb.bankBad := s.glb.bankBad && !(t.prm.bankA.valid && t.prm.bankB.valid)
    txn.imageDone := true, txn.deadline := none }
  txnTo .applying t

/-- COMMIT_POINT (R207, R208). A commit that touches no island reaches it from PREPARING (R211). -/
def execCommitPoint (s : State) : Host.Outcome State Fault Refusal :=
  doneIf (!s.txn.imageDone && s.txn.written && s.logUp && (s.txn.st = .applying || (s.txn.st = .preparing && s.allVoted && s.allSafe))) commitPoint s

/-! ### The apply strobe (R201, R187, R270, R281, R292, R339, R345, R448, R508) -/

/-- An axis at the strobe: the index is kept across a change of AX_DIR_INV (R281); an enabled stage stands in the state that
AX_SRC gives; the reference pair is taken again where an encoder parameter changed (DEDUCED, log 31). -/
def strobeAxis (old : State) (a : Nat) (s : State) : State :=
  let x := s.axis a
  let p := BitVec.ofInt 10 x.pos
  let i := old.index a
  let staged (k : Nat) : Bool := (old.txn.staged.lookup (axP a k)).isSome
  let y : Axis := { x with k := if s.pb (axP a 0x05) then i + p else i - p }
  let y : Axis := if staged 0x18 || staged 0x19 || staged 0x1A then y.takeRef else y
  let y : Axis := if (y.st = .standstill || y.st = .external) && s.standState a != y.st then { y with st := s.standState a, stepTarget := y.word } else y
  axMod a (fun _ => y) s

/-- The outputs whose FLD_FUNC the strobe changes are off from that boundary on (R270). A brake or lock channel that begins or ends
crosses at once (R237). -/
def strobeField (old s : State) : State :=
  let m := chMask (fun c => old.func c != s.func c)
  let t := endField true m .interlock 0 (cmdOff m s)
  let t := (List.range 24).foldl (fun u c => if fastOwned old.pv c = fastOwned s.pv c then u else sliceDue (fldP c 3) u) t
  if old.touches 8 then { t with awn.strobeDue := true, awn.shadow := [] } else t

/-- Calls to landings that the strobe disables end SUPERSEDED (R345); a door that is switched on or off has its state to
judge again (R374). -/
def strobeLift (old s : State) : State :=
  let gone := s.lift.calls.filter (fun c => !s.ldgEn c.landing.val)
  let t := finishAll (gone.flatMap Call.refs) .superseded 0 0 { s with lift.calls := s.lift.calls.filter (fun c => s.ldgEn c.landing.val) }
  let t : State := if s.liftEn then t else { t with lift.st := .notHomed }
  { t with door := Vector.ofFn (fun (k : Fin 2) => if old.drEn k.val = s.drEn k.val then vget t.door k.val {} else {}) }

/-- With TWP_HB_EN clear the supervisor heartbeat is never OK (R425, R426). -/
def twpOff (s : State) : State :=
  if s.twp.hbOk && !s.pb 0x4000 then raise 0x4004 5 (s.twp.counter.zeroExtend 24) 0 { s with twp.hbOk := false } else s

/-- The sealed state after the strobe (R339), the second copy of the rules (R333), and its event. -/
def strobeGuard (old s : State) : State :=
  let t := twpOff (setLines { s with grd.copyB := s.latticeCopy })
  if old.pb 0x3C00 = s.pb 0x3C00 then t
  else if s.pb 0x3C00 then raise 0x3808 4 (s.txn.id.zeroExtend 24) 0 t else raise 0x3809 5 (s.txn.id.zeroExtend 24) 0 t

/-- The accepted identity record in force (R508, R509). -/
def strobeIdent (old s : State) : State :=
  if old.txn.idWords.isNone then s else
  let i := old.nextIdent
  let s : State := { s with prm.ident := i }
  let s : State := match old.prm.ident.pubKey, i.pubKey with
    | none, some k => { s with fw.slots := s.fw.slots.map (fun f => { f with a := f.a.recheck k, b := f.b.recheck k }) }
    | _, _ => s
  let r := recordBytes (old.txn.idWords.getD [])
  raise 0x010A 4 (w24 i.recNo) ((r.getD 5 0).zeroExtend 24) s

/-- The apply strobe: every touched island switches all of its staged shadows (R201), then the outcome entry. -/
def strobe (s : State) : State :=
  let e := s.prm.highEpoch
  let pids := s.txn.staged.map Prod.fst
  let t : State := { s with
    prm.committed := s.nextImage, prm.live := s.prm.live.filter (fun p => !pids.contains p.1), prm.epoch := e
    prm.tblA := Vector.ofFn (fun (a : Fin 5) => s.nextTable a.val false), prm.tblB := Vector.ofFn (fun (a : Fin 5) => s.nextTable a.val true) }
  let t := (List.range 5).foldl (fun u a => strobeAxis s a u) t
  let t := pids.foldl (fun u p => valueEffect p u) t
  let t := strobeGuard s (strobeLift s (strobeField s (grindEnable t)))
  let t := strobeIdent s (limitScan t)
  let t := raise 0x0404 3 (s.txn.id.zeroExtend 24) (lo24 e) t
  let t : State := { t with
    txn.staged := [], txn.tables := [], txn.idWords := none, txn.voted := 0, txn.atSafe := 0, txn.written := false, txn.imageDone := false, txn.ref := none
    txn.authd := false, txn.lastId := s.txn.id, txn.lastCommit := true }
  let t := match s.txn.ref with
    | none => t
    | some r => finish r .ok (lo24 e) 0 t
  txnTo .idle t

/-- APPLY_STROBE (R191, R201). -/
def execApplyStrobe (s : State) : Host.Outcome State Fault Refusal := doneIf (s.txn.st = .applying && s.txn.imageDone) strobe s

end Sys2Proof.Machine
end

