-- ==== Sys2Proof/Machine/LogCmds.lean ====
section
/-! DEFINITION. The recorder's commands and events (15), the journal's and the recorder's bytes (07, 15), and the bulk copies
that the host can ask for (06). -/

namespace Sys2Proof.Machine

/-! ### Bytes -/

/-- 28 bytes with their CRC-32C (R213, R435). -/
def withCrc (b : List Byte) : List Byte := b ++ leBytes 4 (crc32c b).toNat

/-- A record as stored or as the window shows it (Table 15-1, Table 15-2 bit 7). -/
def Rec.bytes (r : Rec) (staged : Bool) : List Byte :=
  withCrc (leBytes 6 r.seq ++ leBytes 2 r.code.toNat ++ [BitVec.ofNat 8 (16 * r.sev + r.isl), setB r.flags 7 staged] ++ leBytes 2 r.repeats ++
    leBytes 3 r.w0.toNat ++ leBytes 3 r.w1.toNat ++ leBytes 3 r.w2.toNat ++ leBytes 3 r.w3.toNat ++ leBytes 4 0)

/-- The 32 bytes of a slot (R435). -/
def slotBytes : Option (Rec × Bool) → List Byte
  | none => List.replicate 32 0
  | some p => p.1.bytes p.2

/-- A journal entry (Table 7-6). -/
def JEntry.bytes (e : JEntry) : List Byte :=
  let kind := (match e.body with | .command .. => 1 | .outcome .. => 2) + 128 * bit e.atStart
  let rest := match e.body with
    | .command d3 d4 d5 => leBytes 4 d3.toNat ++ leBytes 4 d4.toNat ++ leBytes 4 d5.toNat
    | .outcome q r x c => leBytes 6 q ++ leBytes 3 r.toNat ++ [x, c, 0]
  withCrc (leBytes 6 e.seq ++ [e.op, e.flags] ++ leBytes 4 e.tag.toNat ++ leBytes 2 e.txn.toNat ++ [BitVec.ofNat 8 kind, e.status.code] ++ rest)

/-! ### LOG_MARK -/

/-- LOG_MARK (Table 6-15, R177, R436). Where no record is staged the spec states no sequence: the result is a free value. -/
def decLogMark (d : Desc) (s : State) : State :=
  let op : Byte := 0x58
  gate op d (formOk d false false mA mA mA m0 m0) s fun s =>
  let p := stage 0x4802 2 0 0 (arg24 d.d3) (arg24 d.d4) (arg24 d.d5) (d.tag.extractLsb' 0 24) s
  let t := p.2
  let t := if t.admits 0x4802 2 then postEvt 0x4802 2 (BitVec.ofNat 32 p.1) (d.d3.extractLsb' 0 24 |>.zeroExtend 32) (d.d4.extractLsb' 0 24 |>.zeroExtend 32) false t else t
  let t := flushOn 2 s t
  if p.1 = 0 then acceptOk op d t.freeWord 0 t.tick else acceptOk op d (lo24 p.1) 0 t

/-! ### Nonces and the clear (R456 to R459) -/

/-- LOG_CHALLENGE (Table 6-15, R177, R456). -/
def decLogChallenge (d : Desc) (s : State) : State :=
  let op : Byte := 0x59
  let purpose := fld d.d3 0 2
  gate op d (formOk d false false 3 m0 mB mB mB && bulkOk d 16 4 && purpose != 3) s fun s =>
  if !d.dmaOk then bulkFail op d true s
  else
    let n := (List.range 16).map (Config.freeNonce s.free)
    acceptOk op d 0 0 { s.tick with log.nonce := some (purpose, n), ring.bulkOut := some (bulkAddr d, dwordsOf n) }

/-- The 25-byte message of R457. -/
def clearMessage (nonce : List Byte) (full : Bool) : List Byte := nonce ++ [if full then 3 else 1] ++ leBytes 8 Config.serial.toNat

/-- Why a LOG_CLEAR is refused (R457, Table 15-8): none where it is accepted. -/
def State.clearFail (s : State) (full : Bool) (resp : List Byte) : Option Nat := match s.prm.ident.clearKey with
  | none => some 1
  | some k => match s.log.nonce with
    | none => some 2
    | some (p, n) =>
      if p != bit full then some 2
      else if resp = (Config.hmacSha256 k (clearMessage n full)).take 16 then none else some 0

/-- Steps 1 to 3 of an accepted clear with its command entry (R458, R459): the sequence reserved, the records below it
flushed, the marker written. The decoder waits for step 6. -/
def startClear (d : Desc) (s : State) : State :=
  let q := s.log.head + 1
  let run : ClearRun := { full := d.d3.getLsbD 1, prevHead := s.log.head, reserved := q }
  let t : State := { s with log.head := q, log.reserve := if s.log.reserve < q then s.log.reserve + 64 else s.log.reserve, log.clear := some run }
  let t := bumpWin s t
  let t := jrnCmd 0x5A d .ok { flush t with log.marker := some run }
  { t with ring.block := some (.logClear d t.jrn.head) }

/-- LOG_CLEAR (Table 6-15, R457, R458). A clear that outlived a reset of HOST ends first (DEDUCED, log 32). -/
def decLogClear (d : Desc) (s : State) : State :=
  let op : Byte := 0x5A
  let full := d.d3.getLsbD 1
  gate op d (formOk d false false 3 m0 mB mB mB && bulkOk d 16 4 && d.d3.getLsbD 0) s fun s =>
  if !d.dmaOk then bulkFail op d false s
  else
    let t : State := { s with log.nonce := none }
    match s.clearFail full (bulkBytes d 16) with
    | some why => refuse op d .authFail 0 (raise 0x4806 5 (if full then 3 else 1) (w24 why) t)
    | none => if t.log.clear.isSome then { t with ring.block := some (.clearNext d) } else startClear d t

/-- Steps 4 to 6 of a clear (R458): the regions emptied, the drop counters reset, LOG_CLEARED written with the reserved
sequence, the marker removed. -/
def clearRegions (c : ClearRun) (flags : Byte) (s : State) : State :=
  let dropped := sat24 (s.log.drops.toList.foldl (fun n w => n + w.toNat) 0)
  let t : State := { s with
    log.roll := [], log.keep := if c.full then [] else s.log.keep, log.badSlots := if c.full then [] else s.log.badSlots
    log.drops := Vector.replicate 8 0, log.clean := false }
  let r : Rec := { seq := c.reserved, code := 0x4801, sev := 6, isl := 5, flags := flags, w0 := lo24 c.prevHead, w1 := hi24 c.prevHead, w2 := if c.full then 3 else 1, w3 := dropped }
  let t := writeRec r 1 [] t
  let t := if t.admits 0x4801 6 then postEvt 0x4801 6 (BitVec.ofNat 32 c.reserved) ((lo24 c.prevHead).zeroExtend 32) ((hi24 c.prevHead).zeroExtend 32) false t else t
  bumpWin s { t with log.marker := none, log.clear := none }

/-- LOG_CLEARED (R458): steps 4 to 6, then the completion; the records raised meanwhile are written by the flush that follows. -/
def logCleared (s : State) : State := match s.log.clear with
  | none => s
  | some c =>
    let t := flush (clearRegions c 0 s)
    match t.ring.block with
    | some (.logClear d q) => postCpl 0x5A d .ok q 0 0 { t with ring.block := none }
    | some (.clearNext d) => startClear d t
    | _ => t

/-! ### Timers of the recorder -/

/-- FLUSH_TIMER (R443), with the slots that fail their read-back twice (R446). -/
def execFlushTimer (bad : List Nat) (s : State) : Host.Outcome State Fault Refusal :=
  doneIf (s.logUp && !s.log.staged.isEmpty) (flushBad bad) s

/-- TOKEN_REFILL (R448): one token more, up to the burst. -/
def execTokenRefill (c : Fin 16) (s : State) : Host.Outcome State Fault Refusal :=
  doneIf s.logUp (fun s => { s with log.tokens := vmap s.log.tokens c.val 0 (fun n => min (s.burst c.val) (n + 1)) }) s

/-- NONCE_EXPIRY (R177): 60 s after the challenge. -/
def execNonceExpiry (s : State) : Host.Outcome State Fault Refusal :=
  doneIf s.log.nonce.isSome (fun s => { s with log.nonce := none }) s

/-! ### Bulk copies (R180) -/

/-- A bulk copy accepted: one may run and one wait; a third is refused (R180). -/
def acceptBulk (op : Byte) (d : Desc) (first : Nat) (s : State) : State :=
  if 2 ≤ bit s.ring.bulkRun.isSome + s.ring.bulkWait.length then refuse op d .busy 3 s
  else
    let r := s.nextRef op d
    acceptRun op d .queued 0 0 { s with ring.bulkWait := s.ring.bulkWait ++ [{ ref := r, addr := bulkAddr d, len := bulkLen d, first := first }] }

/-- LOG_COPY (Table 6-15, R455). -/
def decLogCopy (d : Desc) (s : State) : State :=
  gate 0x5B d (formOk d false false 0x1FFF m0 mB mB mB && bulkOk d 32 32 && bulkLen d ≤ 262144) s fun s =>
  acceptBulk 0x5B d (fld d.d3 0 13) s

/-- JOURNAL_COPY (Table 6-15, R177). -/
def decJournalCopy (d : Desc) (s : State) : State :=
  gate 0x68 d (formOk d false false mA mA mB mB mB && bulkOk d 32 32) s fun s =>
  acceptBulk 0x68 d ((arg24 d.d3).toNat + 16777216 * (arg24 d.d4).toNat) s

/-- The bytes of n records from an index upward (R455). -/
def State.recordCopy (s : State) (first n : Nat) : List Byte :=
  (List.range n).flatMap (fun k =>
    let i := (first + k) % 8192
    slotBytes (((if i < 1024 then s.log.keep else s.log.roll).lookup i).map (fun r => (r, false))))

/-- The entries that a JOURNAL_COPY of at most n entries copies, in sequence order, and result bit 15 (R177). -/
def State.entryCopy (s : State) (first n : Nat) : List JEntry × Bool :=
  let old := (s.jrn.entries.getLast?.map JEntry.seq).getD (s.jrn.head + 1)
  let start := if first < old then old else first
  ((s.jrn.entries.reverse.filter (fun e => start ≤ e.seq)).take n, first != 0 && first < old)

end Sys2Proof.Machine
end

