-- ==== Sys2Proof/Machine/Reset.lean ====
section
/-! DEFINITION. Resets (04, 05): what each reset source reaches and what survives it (Table 4-2, R91, R494), and what the loss
of HOST ends (R107, R108, R114). -/

namespace Sys2Proof.Machine

/-! ### HOST -/

/-- The copies of HOST's bulk engine end INTERNAL, extra 2 (R95). -/
def endBulk (s : State) : State :=
  let l := (s.ring.bulkRun.map (fun p => p.1.ref)).toList ++ s.ring.bulkWait.map BulkJob.ref
  finishAll l .internal 0 2 { s with ring.bulkRun := none, ring.bulkWait := [] }

/-- The descriptor whose decode waits is dropped: it was not accepted, and its FIELD_WRITE record goes with it. -/
def dropBlock (s : State) : State :=
  let t : State := match s.ring.block with
    | some (.fieldWrite _ id) => { s with awn.writes := s.awn.writes.filter (fun w => w.id != id) }
    | _ => s
  { t with ring.block := none, ring.backlog := [], ring.announced := 0 }

/-- HOST loses its rings: nothing is fetched or posted, the undecoded descriptors and the entries that waited for DMA are dropped, the
transaction that is OPEN rolls back (Table 7-4), the bulk copies end. -/
def hostLost (s : State) : State :=
  let t : State := { s with
    host.run := false, host.running := false, host.stopping := false, host.paused := false, host.sleepReady := false
    ring.heldDone := [], ring.waiting := [], ring.irqDue := [] }
  endBulk (txnHostStop (dropBlock t))

/-- The identity IDs that configuration space takes at a PE_PERST_N, an FLR or a full reset (R508). -/
def State.idsNow (s : State) : W16 × W16 × W16 := s.prm.ident.ids.getD (0x6C47, 0x6C47, 0x4860)

/-- The P column of Table 17-1: the HST_ registers but HST_GEN, the MSI-X table, and configuration space. -/
def hostRegisters (link : LinkState) (s : State) : State :=
  { s with host := { gen := s.host.gen, ids := s.idsNow, link := link } }

/-- A reset with the reach of PE_PERST_N: HOST in reset, its live values restored (R80, R107, R114, R187, R494). -/
def hostReset (link : LinkState) (s : State) : State :=
  let t := restoreLive 0 (hostRegisters link (hostLost s))
  { t.setIsl 0 .off with
    ring.cmdCons := 0, ring.cmdProd := 0, ring.cplProd := 0, ring.cplCons := 0, ring.evtProd := 0, ring.evtCons := 0, ring.evtMissed := 0
    ring.badRun := false, ring.readRun := false, ring.stalled := false, ring.beat := none, ring.sleepReq := false, ring.urgentSeen := false
    ring.modCpl := false, ring.modEvt := false, ring.heldCpl := false, ring.heldEvt := false, ring.mirrorBeat := 0, ring.mirrorAt := none }

/-! ### Full resets -/

/-- What lies in host memory as the block wrote it, which no reset of the block changes. -/
def RingSt.memory (r : RingSt) : RingSt := { cpl := r.cpl, evts := r.evts, irqs := r.irqs, bulkOut := r.bulkOut, mirror := r.mirror }

/-- The ferroelectric memory of the recorder (Table 15-5, "Kept"). -/
def LogSt.kept (l : LogSt) : LogSt :=
  { keep := l.keep, roll := l.roll, head := l.head, reserve := l.reserve, crit := l.crit, badSlots := l.badSlots, drops := l.drops, marker := l.marker, clean := l.clean }

/-- The ferroelectric memory of the parameters (R103, R209, R294, R507). -/
def PrmSt.kept (p : PrmSt) : PrmSt :=
  { bankA := p.bankA, bankB := p.bankB, highEpoch := p.highEpoch, tblNv := p.tblNv, identNv := p.identNv }

/-- What KEEP holds after a full reset: its retention RAM, where the count of the records lost from the staging buffer joins (R71), the
wake causes and the events for the next start. A record that an earlier reset lost before any start is counted with them. -/
def KeepSt.held (k : KeepSt) (lost : Nat) (thermal : Bool) : KeepSt :=
  { valid := k.valid, ret := k.ret, lostCount := some (k.lostCount.getD 0 + lost), lostThermal := thermal || (k.lostThermal && k.lostCount.isSome)
    cause := k.cause, since := k.since, late := k.late }

/-- The step at which the start resumes after a reset from step `at_` on: the earliest that this reset and those before it, which no
start has followed, ask for (Table 4-2; DEDUCED, log 70). -/
def State.resumeFrom (s : State) (at_ : Fin 5) : Fin 5 :=
  if s.glb.step = 0 then min s.glb.resumeAt at_ else if s.glb.step = 2 then min 2 at_ else at_

/-- A full reset other than power-on, after which the start resumes at a step (Table 4-2, R70, R71, R91): the cause bits join, the staged
records are lost and counted, an unfinished staging leaves its slot unverified. Below the L5 threshold the level stays (R61). -/
def fullReset (at_ : Fin 5) (bits : W24) (thermal : Bool) (s : State) : State :=
  let s := cutStage s
  { pending := s.pending, now := s.now, free := s.free, resp := s.resp
    glb := { cause := s.glb.cause ||| bits, bootSel := s.glb.bootSel, twAdr := s.glb.twAdr, resetCount := satInc s.glb.resetCount, held := s.glb.held
             resumeAt := s.resumeFrom at_ }
    clk := { crystal := s.clk.crystal, refclk := s.clk.refclk }
    sup := { lowest := s.sup.lowest, level := if s.glb.held.getLsbD 1 then 5 else 0 }
    keep := s.keep.held s.log.staged.length thermal
    land := s.land
    host := { ids := s.idsNow }
    ring := s.ring.memory
    prm := s.prm.kept
    jrn := s.jrn
    log := s.log.kept
    grd := { estopA := s.grd.estopA, estopB := s.grd.estopB }
    mot := { nv := s.mot.nv }
    grind := { still := s.grind.still }
    awn := { hAir := s.awn.hAir, hNews := s.awn.hNews, discardDue := true }
    husk := s.husk
    fw := { slots := s.fw.slots }
    dbg := { fails := s.dbg.fails, ir := s.dbg.ir, preload := s.dbg.preload, sampled := s.dbg.sampled } }

/-- The guard global watchdog's reset (R93), with further cause bits. -/
def globalWatchdog (bits : W24) (s : State) : State := fullReset 2 (bits ||| 16#24) false s

/-- The power-on reset (Table 4-2): everything but ferroelectric memory and flash; KEEP and the TAP start anew. -/
def powerOnReset (s : State) : State :=
  let t := fullReset 1 0 false s
  { t with glb := { cause := 1, resetCount := t.glb.resetCount }, keep := {}, dbg := { fails := t.dbg.fails }, grind := {}, sup := {} }

end Sys2Proof.Machine
end

