-- ==== Sys2Proof/Machine/Fw.lean ====
section
/-! DEFINITION. Firmware commands and staging (16): FW_STAGE, FW_ACTIVATE, FW_STATUS, and the ends of a staging command. -/

namespace Sys2Proof.Machine

/-- The firmware island of a number: none for 1 and 4 to 15. -/
def fwOfNum (n : Nat) : Option FwIsland := if n = 0 then some .host else if n = 2 then some .lift else if n = 3 then some .grind else none

/-! ### Staging (R472 to R474) -/

/-- The units that the inactive slot will hold once the accepted staging commands have run: those of a command from unit 0
replace all others. -/
def State.unitsDue (s : State) (i : FwIsland) : List Nat :=
  (s.fw.stage.toList ++ s.fw.stageNext.toList).foldl (fun l j =>
    if j.isl != i then l else if j.unit = 0 then j.units.map Prod.fst else j.units.map Prod.fst ++ l) (((s.slots (fwIdx i)).spare).units.map Prod.fst)

/-- A staging command starts: one from unit 0 erases the slot first, which clears the verified mark. -/
def beginStage (j : StageJob) (s : State) : State :=
  let t : State := { s with fw.stage := some j }
  if j.unit != 0 then t else
  { t with fw.slots := vmap s.fw.slots (fwIdx j.isl) {} (fun f => f.mapSpare (fun x => { erases := x.erases + 1 })) }

/-- FW_STAGE (Table 6-15, R169, R472). -/
def decFwStage (d : Desc) (s : State) : State :=
  let op : Byte := 0x60
  let i := fwOfNum (fld d.d3 0 4)
  let unit := (arg24 d.d4).toNat
  let n := bulkLen d / 256
  gate op d (formOk d false false 0x10F mA mB mB mB && bulkOk d 256 256 && i.isSome && unit + n ≤ slotUnits (i.getD .host)) s fun s =>
  let isl := i.getD .host
  if s.fw.stage.isSome && s.fw.stageNext.isSome then refuse op d .busy 3 s
  else if unit != 0 && (List.range n).any (fun k => (s.unitsDue isl).contains (unit + k)) then refuse op d .badArg 0 s
  else if !d.dmaOk then bulkFail op d false s
  else
    let j : StageJob := { ref := s.nextRef op d, isl := isl, last := d.d3.getLsbD 8, unit := unit, data := bulkWords d }
    let t := acceptRun op d .queued 0 0 s
    if t.fw.stage.isNone then beginStage j t else { t with fw.stageNext := some j }

/-- The staging command that waited starts. -/
def nextStage (s : State) : State := match s.fw.stageNext with
  | none => { s with fw.stage := none }
  | some j => beginStage j { s with fw.stage := none, fw.stageNext := none }

/-- The units of a staging command in its slot. -/
def writeUnits (j : StageJob) (s : State) : State :=
  { s with fw.slots := vmap s.fw.slots (fwIdx j.isl) {} (fun f => f.mapSpare (fun x => { x with units := j.units ++ x.units })) }

/-- UNIT_WRITTEN (R472): a command without LAST has written its units and ends OK. -/
def execUnitWritten (s : State) : Host.Outcome State Fault Refusal := match s.fw.stage with
  | none => .next s
  | some j => doneIf (!j.last) (fun s => nextStage (finish j.ref .ok 0 0 (writeUnits j s))) s

/-- FW_STAGED (R473): a command with LAST has written its units, and the slot is verified or not. -/
def execFwStaged (s : State) : Host.Outcome State Fault Refusal := match s.fw.stage with
  | none => .next s
  | some j => doneIf j.last (fun s =>
    let t := writeUnits j s
    let k := fwIdx j.isl
    let x := (t.slots k).spare
    nextStage (match t.imageFail j.isl x with
      | none =>
        let y := x.accept
        finish j.ref .ok 0 0 (raise 0x6001 2 (w24 (fwNum j.isl)) y.version { t with fw.slots := vmap t.fw.slots k {} (fun f => f.mapSpare (fun _ => y)) })
      | some why =>
        let t : State := { t with fw.slots := vmap t.fw.slots k {} (fun f => f.mapSpare (fun z => { z with verified := false })) }
        finish j.ref .authFail 0 0 (raise 0x6002 4 (w24 (fwNum j.isl)) (w24 why) t))) s

/-- Shedding from L2 on ends the staging command in flight with SHED (R474); the one that waits ends with it, before it has
written anything. -/
def shedStage (s : State) : State :=
  let l := s.fw.stage.toList ++ s.fw.stageNext.toList
  finishAll (l.map StageJob.ref) .shed 0 0 { cutStage s with fw.stageNext := none }

/-! ### Activation at decode (R475, R476, R481) -/

/-- An accepted activation brings its island to the safe point (Table 16-3). -/
def beginAct (op : Byte) (d : Desc) (i : FwIsland) (s : State) : State :=
  let r := s.nextRef op d
  let t := acceptRun op d .deferred 0 0 s
  let t : State := { t with fw.act := some { ref := r, isl := i } }
  if i = .grind then grindRampCause .superseded 0 t else t

/-- An activation in RECOVERY (R481): the slot is marked active for the next start, and the activation ends OK without a restart. -/
def markActive (op : Byte) (d : Desc) (i : FwIsland) (s : State) : State :=
  let t := acceptRun op d .deferred 0 0 s
  endAct .ok 0 { t with
    fw.act := some { ref := s.nextRef op d, isl := i }
    fw.slots := vmap t.fw.slots (fwIdx i) {} (fun f => { f with activeB := !f.activeB }) }

/-- FW_ACTIVATE (Table 6-15, R475, R481). -/
def decFwActivate (d : Desc) (s : State) : State :=
  let op : Byte := 0x61
  let io := fwOfNum (fld d.d3 0 4)
  gate op d (formOk d false false 0xF m0 m0 m0 m0 && io.isSome) s fun s =>
  let i := io.getD .host
  let k := fwIdx i
  let x := (s.slots k).spare
  if !x.verified then refuse op d .authFail 0 s
  else match (if s.isl (fwNum i) = .recovery then none else s.badPeer k x) with
    | some p => refuse op d .authFail 0 (raise 0x6005 4 (w24 (fwNum i)) (w24 p) s)
    | none =>
      if s.fw.act.isSome || (s.txn.st = .opened && s.touches (fwNum i)) then refuse op d .busy 0 s
      else if s.isl (fwNum i) = .recovery then markActive op d i s else beginAct op d i s

/-- FW_STATUS (Table 6-15). -/
def decFwStatus (d : Desc) (s : State) : State :=
  let op : Byte := 0x62
  let io := fwOfNum (fld d.d3 0 4)
  gate op d (formOk d false false 0xF m0 m0 m0 m0 && io.isSome) s fun s =>
  let i := io.getD .host
  let f := s.slots (fwIdx i)
  let v := f.running.val + 4 * bit f.spare.verified + 8 * bit (s.isl (fwNum i) = .held) + 16 * (f.image.epoch % 256) + 4096 * (f.image.version.toNat % 4096)
  acceptOk op d (w24 v) 0 s

end Sys2Proof.Machine
end

