-- ==== Sys2Proof/Machine/Regs.lean ====
section
/-! DEFINITION. What the BAR0 registers, the BAR2 windows and the GET_STATUS block show (Tables 4-5, 4-6, 5-12, 3-7, 7-8, 15-5,
16-5, 17-1, 5-3, 6-10), and the host-silence values that govern (R139). -/

namespace Sys2Proof.Machine

/-! ### Status words -/

/-- GLB_STATUS (Table 4-5). Its FAULT_N bit shows the land once GUARD runs: the register reads 0 in a full reset (R110). -/
def State.glbStatus (s : State) : W24 :=
  w24 (s.glb.step.val + 8 * bit s.glb.bootSel + 16 * s.glb.twAdr.toNat + 128 * bit s.glb.bankB + 256 * bit s.glb.defaults +
    512 * bit s.glb.bankBad + 1024 * bit (s.faultNow && s.isl 4 = .run) + 2048 * bit s.glb.retValid)

/-- GLB_RETAIN (Table 4-5): 0 until MOTION runs. -/
def State.glbRetain (s : State) : W24 :=
  if s.isl 1 = .off then 0
  else w24 (s.glb.restored.toNat + 32 * s.glb.awaiting.toNat + 1024 * bitsOf (s.mot.ax.toList.map (fun x => !x.homed)))

/-- The F24 state (Table 3-7): 2 from F24_UVLO until it is judged again, and while LINK hears no frames (R52, log 103). -/
def State.f24Shown (s : State) : Nat := if s.awn.hears then s.sup.f24State.val else if s.isl 6 = .off then 0 else 2

/-- SUP_STATUS (Table 3-7). -/
def State.supStatus (s : State) : W24 :=
  w24 (s.sup.level.val + 8 * bit s.sup.overV + 16 * bit s.sup.recovering + 32 * s.f24Shown + 128 * bit s.sup.aux5Bad + 256 * bit s.sup.aux3Bad +
    512 * s.sup.prewarn.toNat + 4096 * bit (s.sup.shutdown.getLsbD 1) + 8192 * bit (s.sup.shutdown.getLsbD 2) + 16384 * bit s.sup.ntcOver)

/-- An axis state word (Table 9-3). -/
def State.axisWord (s : State) (a : Nat) : W24 :=
  let x := s.axis a
  w24 (x.st.code + 16 * bit x.homed + 32 * bit x.stall + 64 * bit x.limNeg + 128 * bit x.limPos + 256 * bit x.hold + 512 * bit x.emg +
    1024 * x.armedRef.length + 2048 * bit (s.retOf a).isSome + 4096 * bit x.noVerify + 8192 * bit (s.pb (axP a 0x13)) + 16384 * s.owner a +
    65536 * bit x.openA + 131072 * bit x.openB)

/-- The car word (Table 6-10, +20). -/
def State.carWord (s : State) : W24 := w24 (s.lift.st.code + 16 * s.lift.last.val + 256 * s.lift.target.val + 4096 * s.lift.calls.length)

/-- The timeout that governs host silence (R139, R152): while RUN is set the one that the RUN write took, else PID 0x0800. -/
def State.silTmoNow (s : State) : Nat := if s.host.run then s.sil.tmoRun else s.pn 0x800
/-- The action that governs host silence (R139, R152). -/
def State.silActNow (s : State) : Nat := if s.host.run then s.sil.actRun else s.pn 0x801

/-- HST_SILENCE_LEFT (Table 5-12). -/
def State.silLeft (s : State) : W24 :=
  if s.sil.active || s.sil.suspended then 0xFFFFFF else if s.sil.armed then sat24 (s.silTmoNow - msOf (s.now - s.sil.began)) else 0

/-- The GET_STATUS block (Table 6-10): 32 dwords. -/
def State.statusBlock (s : State) : List W32 :=
  let ws : List W24 := [s.glbStatus, s.glbIslands, s.supStatus, w24 s.grd.st.code, s.grd.permits.zeroExtend 24, s.carWord,
    w24 ((s.dr 0).st.code + 16 * (s.dr 1).st.code)] ++
    (List.range 5).map s.axisWord ++ (List.range 5).map (fun a => w24i (s.axis a).pos) ++
    [s.grindWord, s.grind.rpm, w24 (s.awn.inputs.toNat + 65536 * bit s.awn.stale), s.awn.drivers, s.txnWord,
     lo24 s.jrn.head, hi24 s.jrn.head, lo24 s.log.head, hi24 s.log.head, s.silLeft, s.keep.cause.zeroExtend 24]
  ws.map (fun w => w.zeroExtend 32) ++ List.replicate 4 0

/-! ### Registers by block -/

/-- One third of a 64-bit address: `_L`, `_M`, `_H`. -/
def addrPart (a : BitVec 64) (k : Nat) : W24 := if k = 0 then a.extractLsb' 0 24 else if k = 1 then a.extractLsb' 24 24 else (a.extractLsb' 48 16).zeroExtend 24

/-- HST_STATUS (Table 5-12). -/
def State.hstStatus (s : State) : W24 :=
  let h := s.host
  w24 (bit h.ready + 2 * bit h.running + 4 * bit h.setupErr + 8 * h.errCode.toNat + 64 * bit s.sil.active + 128 * bit h.sleepReady + 256 * bit h.dmaFault +
    512 * bit h.genChanged + 1024 * bit h.paused + 2048 * (if h.d3hot then 3 else 0))

/-- The GLB_ block by dword index (Table 4-5); GLB_FIELD_STATE is encoded as GLB_ISLANDS. -/
def State.glbReg (s : State) (k : Nat) : W24 :=
  [0x486001, s.glb.cause, s.glbStatus, s.glbIslands, w24 s.fieldState.code, s.glb.bootTime, s.glb.wdtCount, s.glb.wdtLast.zeroExtend 24, s.glb.resetCount, s.glbRetain].getD k 0

/-- The HST_ block by dword index (Table 5-12). -/
def State.hstReg (s : State) (k : Nat) : W24 :=
  let h := s.host
  if 2 ≤ k && k < 17 then addrPart ([h.cmdBase, h.cplBase, h.evtBase, h.dbAddr, h.mirAddr].getD ((k - 2) / 3) 0) ((k - 2) % 3)
  else match k with
  | 0 => w24 (bit h.run)
  | 1 => s.hstStatus
  | 17 => h.ringSize.zeroExtend 24
  | 18 => h.pollFast
  | 19 => h.pollIdle
  | 20 => h.pollHold
  | 21 => w24 s.silTmoNow
  | 22 => w24 s.silActNow
  | 23 => h.vecMap
  | 24 => h.irqMod
  | 25 => s.keep.wakeEn.zeroExtend 24
  | 26 => s.keep.cause.zeroExtend 24
  | 27 => h.pollNow
  | 28 => h.gen
  | 29 => lo24 s.jrn.head
  | 30 => hi24 s.jrn.head
  | 31 => h.jrnCursor
  | 32 => s.silLeft
  | 33 => w24 (h.dmaErrRead.toNat + 256 * h.dmaErrWrite.toNat)
  | _ => 0

/-- The SUP_ block by dword index (Table 3-7). -/
def State.supReg (s : State) (k : Nat) : W24 :=
  let t (i : Nat) : W24 := vget s.sup.temp i 0x800000
  [s.supStatus, s.sup.vbus, s.sup.f24, t 0, t 1, t 2, s.sup.tempNtc, s.sup.vbusMin, s.sup.latch.zeroExtend 24, s.sup.lost].getD k 0

/-- The CLK_ block by dword index (Table 4-6). -/
def State.clkReg (s : State) (k : Nat) : W24 :=
  [s.clk.good.zeroExtend 24, s.clk.latch.zeroExtend 24, s.clk.guardKhz, s.clk.logKhz, s.clk.keepChz, s.clk.fieldKhz].getD k 0

/-- The TXN_ block by dword index (Table 7-8). -/
def State.txnReg (s : State) (k : Nat) : W24 :=
  let t := s.txn
  [w24 (s.txnWord.toNat + 8 * bit t.force + 16 * bit t.authd), w24 s.stagedCount, s.touchedMap.zeroExtend 24, t.voted.zeroExtend 24, t.atSafe.zeroExtend 24,
   (match t.deadline with | none => 0xFFFFFF | some u => sat24 (msOf (u - s.now))), w24 (t.failIsl.toNat + 16 * t.failCause.toNat),
   lo24 s.prm.epoch, hi24 s.prm.epoch, w24 (t.lastId.toNat + 65536 * bit t.lastCommit)].getD k 0

/-- LOG_OLDEST: the lowest retained sequence, 0 if none. -/
def State.oldest (s : State) : Nat := match lowestFrom s.retained 0 with
  | none => 0
  | some p => p.1.seq

/-- LOG_STATUS (Table 15-5). A flush is part of one step, so bit 2 is never seen set. -/
def State.logStatus (s : State) : W24 :=
  w24 (bit s.log.mounted + 2 * bit (!s.keepOpen) + 8 * bit s.log.clear.isSome + 16 * bit s.prm.ident.clearKey.isSome + 32 * s.log.staged.length +
    4096 * bit (s.log.crit != 0#6))

/-- The LOG_ block by dword index (Table 15-5). -/
def State.logReg (s : State) (k : Nat) : W24 :=
  if 16 ≤ k && k < 24 then vget s.log.drops (k - 16) 0
  else [s.logStatus, lo24 s.log.head, hi24 s.log.head, lo24 s.oldest, hi24 s.oldest, w24 s.log.keep.length, w24 s.log.roll.length, s.log.cursor,
    w24 (bit s.log.seqMode), s.log.winGen, s.log.crit.zeroExtend 24, w24 s.log.staged.length, w24 s.log.badSlots.length].getD k 0

/-- FWU_STATUS (Table 16-5). No row of the table of steps parts the self-test and the fallback
from the restart: phases 3 and 4 are never shown. -/
def State.fwuStatus (s : State) : W24 :=
  let act := match s.fw.act with
    | none => 0
    | some a => 1 + 2 * fwNum a.isl + 32 * (match a.phase with | .waiting => 1 | .restarting => 2)
  let stg := match s.fw.stage with
    | none => 0
    | some j => 256 + 512 * fwNum j.isl
  w24 (act + stg)

/-- The registers of one firmware island by dword index (Table 16-5). The peers stand in island order. -/
def State.fwuReg (s : State) (i k : Nat) : W24 :=
  let f := s.slots i
  let x := f.image
  let n := fwIsl i
  let range (j : Nat) : W24 := w24 (x.lo.toList.getD j 0 + 256 * x.hi.toList.getD j 0)
  [w24 (f.running.val + 4 * bit f.a.verified + 8 * bit f.b.verified + 16 * bit f.rcv.verified + 32 * bit (s.isl n = .held) + 64 * bit (s.isl n = .recovery)),
   x.version, w24 x.epoch, range (if i = 0 then 1 else 0), range (if i = 2 then 1 else 2), w24 (max f.a.erases f.b.erases)].getD k 0

/-- DBG_STATUS (R490). -/
def State.dbgStatus (s : State) : W24 :=
  let d := s.dbg
  w24 (bit d.unlocked + 2 * d.scope.toNat + 8 * bit s.prm.ident.debugKey.isSome + 16 * bit d.nonce.isSome + 32 * d.halted.toNat + 256 * d.haltReq.toNat)

/-- The PID that PRM_ID selects. -/
def State.prmPid (s : State) : Nat := s.prm.prmId.toNat

/-- PRM_STATE (R222). -/
def State.prmState (s : State) : W24 :=
  let p := s.prmPid
  if !pidExists p then 0 else
  let live : Bool := match pinfo p with | some i => i.live | none => false
  let safe : Bool := match pinfo p with | some i => i.safe | none => isTablePid p && s.pb (axP (tableOf p).1 0x13) = (tableOf p).2
  let staged : Bool := (s.txn.staged.lookup p).isSome || (isIdentPid p && s.txn.idWords.isSome) || (isTablePid p && s.txn.tables.any (fun t => (t.1, t.2.1) = tableOf p))
  w24 (1 + 2 * bit live + 4 * bit safe + 8 * bit (live && s.pv p != s.committed p) + 16 * bit staged)

/-- PRM_VALUE (R222, R499). -/
def State.prmValue (s : State) : W24 := if pidExists s.prmPid then s.forceWord s.prmPid else 0

/-- The value of a BAR0 register below 0xF000 by dword offset; a reserved offset reads zero (R8, R493). -/
def State.reg24 (s : State) (off : Nat) : W24 :=
  let k := off % 0x400 / 4
  if off < 0x400 then s.glbReg k
  else if off < 0x800 then s.hstReg k
  else if off < 0xC00 then s.supReg k
  else if off < 0x1000 then s.clkReg k
  else if off < 0x1400 then s.txnReg k
  else if 0x6000 ≤ off && off < 0x6400 then s.logReg k
  else if off = 0x7000 then s.fwuStatus
  else if off = 0x7004 then s.fw.last
  else if 0x7020 ≤ off && off < 0x7080 then (if (off - 0x7020) % 0x20 < 0x18 then s.fwuReg ((off - 0x7020) / 0x20) ((off - 0x7020) % 0x20 / 4) else 0)
  else if off = 0x7800 then s.dbgStatus
  else if off = 0x7804 then s.dbg.fails
  else if off = 0x8000 then s.prm.prmId.zeroExtend 24
  else if off = 0x8004 then s.prmValue
  else if off = 0x8008 then s.prmState
  else 0

/-- The value of a BAR0 dword (R3, R117). -/
def State.regRead (s : State) (off : Nat) : W32 :=
  if 0xF000 ≤ off && off < 0xF080 then
    let e := vget s.host.msix ((off - 0xF000) / 16) {}
    [e.addrLo, e.addrHi, e.data, BitVec.ofNat 32 (bit e.masked)].getD (off % 16 / 4) 0
  else if off = 0xF800 then s.host.pba.zeroExtend 32
  else (s.reg24 off).zeroExtend 32

/-- The pairs of registers that hold one 48-bit value: offset of the low word (Tables 5-12, 7-8, 15-5). -/
def pairs48 : List Nat := [0x0474, 0x101C, 0x6004, 0x600C]

/-- A dword as a debugger reads it: the high word of a pair whose low word was read before it is the one latched then (R81). -/
def State.pairRead (s : State) (off : Nat) : W32 := match s.dbg.pairHi with
  | some (lo, v) => if off = lo + 4 then v.zeroExtend 32 else s.regRead off
  | none => s.regRead off

/-- A read of a pair's low word latches the high word of the same value; the read of the high word ends the latch (R81; log 116). -/
def latchPair (off : Nat) (s : State) : State :=
  if pairs48.contains off then { s with dbg.pairHi := some (off, s.reg24 (off + 4)) }
  else match s.dbg.pairHi with
    | some (lo, _) => if off = lo + 4 then { s with dbg.pairHi := none } else s
    | none => s

/-- The registers of Table 17-1 below 0xF000: whether an offset holds one. -/
def isReg (off : Nat) : Bool :=
  let k := off % 0x400 / 4
  off % 4 = 0 && (
    (off < 0x400 && k < 10) || (0x400 ≤ off && off < 0x800 && k < 34) || (0x800 ≤ off && off < 0xC00 && k < 10) || (0xC00 ≤ off && off < 0x1000 && k < 6) ||
    (0x1000 ≤ off && off < 0x1400 && k < 10) || (0x6000 ≤ off && off < 0x6400 && (k < 13 || (16 ≤ k && k < 24))) || off = 0x7000 || off = 0x7004 ||
    (0x7020 ≤ off && off < 0x7080 && (off - 0x7020) % 0x20 < 0x18) || off = 0x7800 || off = 0x7804 || off = 0x8000 || off = 0x8004 || off = 0x8008)

/-! ### BAR2 (R119) -/

/-- The event-log window's 64 dwords (R452, R453). -/
def State.logWindow (s : State) : List W32 := dwordsOf (s.window.flatMap slotBytes)

/-- The journal window's 64 dwords (R217). -/
def State.jrnWindow (s : State) : List W32 :=
  dwordsOf ((List.range 8).flatMap (fun k =>
    let want := (s.host.jrnCursor.toNat + k) % 16777216
    match s.jrn.entries.find? (fun e => e.seq % 16777216 = want) with
    | some e => e.bytes
    | none => List.replicate 32 0))

/-- Index i of the block that PRM_ID selects, as committed (R499, R500). -/
def State.prmWindow (s : State) (i : Nat) : W32 :=
  let p := s.prmPid / 256 * 256 + i
  if pidExists p then (s.committedWord p).zeroExtend 32 else 0

/-- One BAR2 dword (Table 5-3). -/
def State.bar2Read (s : State) (off : Nat) : W32 :=
  if off < 0x100 then s.logWindow.getD (off / 4) 0
  else if 0x1000 ≤ off && off < 0x1100 then s.jrnWindow.getD ((off - 0x1000) / 4) 0
  else if 0x2000 ≤ off && off < 0x2400 then s.prmWindow ((off - 0x2000) / 4)
  else 0

/-! ### Configuration space (R113) -/

/-- What Table 5-1 fixes of the endpoint. Speeds are in 0.1 GT/s, sizes in bytes. -/
structure Endpoint where
  deviceId : W16 := 0x4860
  revision : Byte := 0x01
  classCode : W24 := 0x088000
  lanes : Nat := 1
  speeds : List Nat := [50, 25]
  bar0Size : Nat := 0x10000
  bar2Size : Nat := 0x10000
  interruptPin : Byte := 0
  msixVectors : Nat := 8
  msixTable : Nat := 0xF000
  msixPba : Nat := 0xF800
  msiMessages : Nat := 8
  noSoftReset : Bool := true
  maxPayload : Nat := 256
  maxReadRequest : Nat := 512
  tags : Nat := 16
  flr : Bool := true
  aspmL0s : Bool := false
  aspmL1 : Bool := true
  relaxedOrdering : Bool := false
  noSnoop : Bool := false
  deriving DecidableEq, Repr

/-- The endpoint of the LV4860. -/
def endpoint : Endpoint := {}

/-- The dwords of the type 0 header that Table 5-1 gives, by offset (R113, R508; offsets PRESUMED PCI Express, log 9); others read 0 here. -/
def State.configWord (s : State) (off : Nat) : W32 :=
  let i := s.host.ids
  if off = 0x00 then endpoint.deviceId ++ i.1
  else if off = 0x04 then BitVec.ofNat 32 (2 * bit s.host.cfg.mse + 4 * bit s.host.cfg.bme)
  else if off = 0x08 then endpoint.classCode ++ endpoint.revision
  else if off = 0x10 then s.host.cfg.bar0 ++ (0 : W16)
  else if off = 0x18 then s.host.cfg.bar2 ++ (0 : W16)
  else if off = 0x2C then i.2.2 ++ i.2.1
  else 0

/-- The longest memory read that HOST requests: the setting, at most 512 bytes (Table 5-1), and never more than 16 descriptors (R134). -/
def State.readMax (s : State) : Nat := min endpoint.maxReadRequest (128 * 2 ^ s.host.cfg.mrrs.toNat)
/-- The longest posted write: the setting, at most 256 bytes (Table 5-1). -/
def State.writeMax (s : State) : Nat := min endpoint.maxPayload (128 * 2 ^ s.host.cfg.mps.toNat)

/-- The requests that read n descriptors: the count of each, at most 16 and at most what one read may ask for (R134). -/
def fetchRequests (per : Nat) : Nat → Nat → List Nat
  | 0, _ => []
  | fuel + 1, n => if n = 0 then [] else min per n :: fetchRequests per fuel (n - per)

/-- The read requests that fetch n announced descriptors (R134, R113). -/
def State.fetchPlan (s : State) (n : Nat) : List Nat := fetchRequests (min 16 (s.readMax / 32)) n n

end Sys2Proof.Machine
end

