-- ==== Sys2Proof/Machine/Host.lean ====
section
/-! DEFINITION. The general commands NOP, GET_STATUS, EVENT_FILTER and POWER_STATE (Table 6-9), and the bulk copy engine (R179
to R181). -/

namespace Sys2Proof.Machine

/-- NOP (Table 6-9). -/
def decNop (d : Desc) (s : State) : State :=
  gate 0x01 d (formOk d false false m0 m0 m0 m0 m0) s fun s => acceptOk 0x01 d 0 0 s

/-- GET_STATUS (Table 6-9, R172, R180). -/
def decGetStatus (d : Desc) (s : State) : State :=
  gate 0x02 d (formOk d false false m0 m0 mB mB mB && bulkOk d 128 4) s fun s => acceptBulk 0x02 d 0 s

/-- EVENT_FILTER (Table 6-9, R183). -/
def decEventFilter (d : Desc) (s : State) : State :=
  let op : Byte := 0x70
  let c := fld d.d3 0 8
  let m := fld d.d4 0 4
  let all : Bool := c = 0xFF
  let k := if all then 0 else classPos (256 * c)
  gate op d (formOk d false false 0xFF 0xF m0 m0 m0 && (all || k < 14) && m ≤ 8) s fun s =>
  let old := vget s.ring.minSev k 0
  acceptOk op d (w24 old) 0 { s with ring.minSev := if all then Vector.replicate 14 m else vset s.ring.minSev k m }

/-! ### Machine power states (R171, R264) -/

/-- Whether the machine may enter SLEEP (R171). A lift or a door that is not enabled is no obstacle (DEDUCED, log 33). -/
def State.maySleep (s : State) : Bool :=
  (!s.liftEn || s.lift.st = .idle || s.lift.st = .hold) && (List.range 2).all (fun k => !s.drEn k || (s.dr k).st = .closedLocked) &&
    (List.range 5).all (fun a => (s.axis a).stands) && s.grindStopped && (s.txn.st = .idle || s.txn.st = .rolledBack)

/-- The ferroelectric memory marked clean after a flush that ends an orderly stop, where no record remains staged (R72). -/
def markClean (s : State) : State := { s with log.clean := s.log.staged.isEmpty || s.log.clean }

/-- SLEEP begins: the recorder is flushed, every stage is disabled with retention, the brake is set (R171, Table 15-3). It is the orderly
stop of R72 (DEDUCED, log 67). -/
def beginSleep (s : State) : State :=
  let t := (List.range 5).foldl (fun u a => axDisable a .interlock 0 u) (markClean (flush s))
  let t := if t.liftEn then brakeSet false t else t
  { t with glb.sleep := true }

/-- The change of machine state ends OK. -/
def powerDone (s : State) : State := match s.glb.powerRef with
  | none => s
  | some r => finish r .ok 0 0 { s with glb.powerRef := none }

/-- LINK leaves sleep: it sends DATA frames again, and the next H-frame comes after a gap (R249, R267). -/
def linkWake (s : State) : State :=
  if s.awn.mode = .sleep then { s with awn.mode := .data, awn.exempt := true, awn.hunt := false, awn.period := 1000 } else s

/-- POWER_STATE (Table 6-9). SLEEP is entered once LINK has sent SLEEP; where LINK sends no DATA frames, at once. ACTIVE is
entered at once (DEDUCED, log 34). -/
def decPowerState (d : Desc) (s : State) : State :=
  let op : Byte := 0x78
  let m := fld d.d3 0 2
  gate op d (formOk d false false 3 m0 m0 m0 m0 && m ≤ 1) s fun s =>
  if s.glb.powerRef.isSome then refuse op d .busy 0 s
  else if m = 1 && !s.glb.sleep && !s.maySleep then refuse op d .busy 0 s
  else
    let r := s.nextRef op d
    let t := acceptRun op d .queued 0 0 s
    let t : State := { t with glb.powerRef := some r }
    if m = 0 then powerDone (linkWake { t with glb.sleep := false, twp.asleep := false, twp.waking := false })
    else if t.glb.sleep then powerDone t
    else
      let t := beginSleep t
      if t.awn.mode = .data && t.isl 6 = .run then t else powerDone t

/-! ### The bulk copy engine (R180) -/

/-- HOST runs its firmware: not in reset, restarting or paused, and not halted. -/
def State.hostUp (s : State) : Bool := (s.isl 0 = .run || s.isl 0 = .recovery || s.isl 0 = .held) && !s.host.paused && !s.dbg.halted.getLsbD 0

/-- Bytes cut or filled with zeros to a length. -/
def padTo (n : Nat) (l : List Byte) : List Byte := l.take n ++ List.replicate (n - l.length) 0

/-- What a copy writes and its result: the snapshot at its start (R172, R177, R180, R455). -/
def State.copyOf (s : State) (j : BulkJob) : List W32 × W24 :=
  if j.ref.op = 0x02#8 then (s.statusBlock, 128)
  else if j.ref.op = 0x5B#8 then (dwordsOf (s.recordCopy j.first (j.len / 32)), w24 (j.len / 32))
  else
    let p := s.entryCopy j.first (j.len / 32)
    (dwordsOf (padTo j.len (p.1.flatMap JEntry.bytes)), w24 (p.1.length + 32768 * bit p.2))

/-- BULK_COPY_START (R172, R180, R455): LOG_COPY flushes first. -/
def execBulkCopyStart (s : State) : Host.Outcome State Fault Refusal := match s.ring.bulkWait with
  | [] => .next s
  | j :: rest => doneIf (s.ring.bulkRun.isNone && s.hostUp && s.dmaOpen && (j.ref.op != 0x5B#8 || s.logUp)) (fun s =>
    let t := if j.ref.op = 0x5B#8 then flush s else s
    { t with ring.bulkWait := rest, ring.bulkRun := some (j, t.copyOf j) }) s

/-- The running bulk copy ends (R179), or fails (R181). -/
def bulkEnd (ok : Bool) (s : State) : State := match s.ring.bulkRun with
  | none => s
  | some (j, ws, res) =>
    let t : State := { s with ring.bulkRun := none }
    if ok then finish j.ref .ok res 0 { t with ring.bulkOut := some (j.addr, ws) }
    else finish j.ref .internal 0 1 (dmaEvent true 5 t)

/-- BULK_COPY_DONE (R179, R181). -/
def execBulkCopyDone (ok : Bool) (s : State) : Host.Outcome State Fault Refusal :=
  doneIf (s.ring.bulkRun.isSome && s.hostUp && s.dmaOpen) (bulkEnd ok) s

end Sys2Proof.Machine
end

