-- ==== Sys2Proof/Machine/HostDecode.lean ====
section
/-! DEFINITION. The decoder of HOST (06): which descriptor is decoded when, what waits, and how a stop ends (R124, R130, R134,
R159, R161, R162, R165). -/

namespace Sys2Proof.Machine

/-- Descriptors may be fetched: HOST runs its rings, no stop and no sleep request stands, LOG takes journal entries (R124,
R130, R480, Table 4-3). -/
def State.canFetch (s : State) : Bool :=
  s.host.run && s.host.running && !s.host.stopping && s.hostUp && s.dmaOpen && !s.ring.sleepReq && s.logUp

/-- The decoder is free: no descriptor waits in it, the completion ring has room (R159, R165). -/
def State.canDecode (s : State) : Bool :=
  s.host.running && !s.host.stopping && s.hostUp && s.dmaOpen && s.logUp && s.ring.block.isNone && 0 < s.cplFree

/-- The command of an opcode (Tables 6-9 to 6-15); any other opcode is BAD_OPCODE (R161). -/
def decodeOp (op : Byte) (d : Desc) (s : State) : State := match op.toNat with
  | 0x01 => decNop d s
  | 0x02 => decGetStatus d s
  | 0x08 => decParamRead d s
  | 0x09 => decParamWrite d s
  | 0x10 => decTxnBegin d s
  | 0x11 => decTxnCommit d s
  | 0x12 => decTxnRollback d s
  | 0x13 => decTxnStatus d s
  | 0x20 => decLiftCall d s
  | 0x21 => decLiftCancel d s
  | 0x22 => decLiftHome d s
  | 0x23 => decLiftHold d s
  | 0x24 => decLiftRelease d s
  | 0x28 => decDoorOpen d s
  | 0x29 => decDoorClose d s
  | 0x2A => decDoorHold d s
  | 0x30 => decAxisMoveAbs d s
  | 0x31 => decAxisMoveVel d s
  | 0x32 => decAxisRetune d s
  | 0x33 => decAxisStop d s
  | 0x34 => decAxisHome d s
  | 0x35 => decAxisGear d s
  | 0x36 => decAxisPower d s
  | 0x37 => decAxisSetPos d s
  | 0x40 => decGrindRun d s
  | 0x41 => decGrindStop d s
  | 0x48 => decFieldWrite d s
  | 0x49 => decFieldPulse d s
  | 0x4A => decFieldRead d s
  | 0x4B => decCounterRead d s
  | 0x4C => decCounterClear d s
  | 0x50 => decGuardAck d s
  | 0x51 => decGuardStatus d s
  | 0x58 => decLogMark d s
  | 0x59 => decLogChallenge d s
  | 0x5A => decLogClear d s
  | 0x5B => decLogCopy d s
  | 0x60 => decFwStage d s
  | 0x61 => decFwActivate d s
  | 0x62 => decFwStatus d s
  | 0x68 => decJournalCopy d s
  | 0x70 => decEventFilter d s
  | 0x78 => decPowerState d s
  | _ => refuse op d .badOpcode 0 s

/-- One descriptor decoded: the consumer index passes it (R155, R165). -/
def consume (op : Byte) (d : Desc) (s : State) : State :=
  decodeOp op d { s with ring.cmdCons := s.ring.cmdCons + 1, ring.urgentSeen := s.ring.urgentSeen || dUrgent d }

/-- A descriptor at the decoder; with FENCE it waits while an earlier accepted command has no final outcome (R162). -/
def decodeOne (op : Byte) (d : Desc) (s : State) : State :=
  if dFence d && !s.ring.outstanding.isEmpty then { s with ring.block := some (.fence op d) } else consume op d s

/-- The fetched descriptors decoded in order while the decoder is free. -/
def drainDesc : Nat → State → State
  | 0, s => s
  | n + 1, s => if !s.canDecode then s else match s.ring.backlog with
    | [] => s
    | (op, d) :: rest => drainDesc n (decodeOne op d { s with ring.backlog := rest })

/-- A stop is complete: fetched descriptors and the entries that wait for DMA dropped, the event, the mirror, RUNNING clear (R124).
SLEEP_READY clears with it, and HST_POLL_NOW keeps the last interval (DESIGN CHOICE, log 93, log 96). -/
def endStop (s : State) : State :=
  let t : State := txnHostStop { s with ring.backlog := [], ring.announced := 0, ring.block := none, ring.waiting := [] }
  let t := mirrorNowSent (raise 0x0302 2 t.ring.cmdCons 0 t)
  { t with host.running := false, host.stopping := false, host.sleepReady := false }

/-- RUN cleared (R124, R128, R151): a descriptor being decoded finishes first; one that waits under FENCE is not being
decoded. -/
def stopRun (s : State) : State :=
  if !s.host.run then s else
  let t : State := { s with host.run := false }
  match s.ring.block with
  | none | some (.fence _ _) => endStop t
  | _ => { t with host.stopping := true }

/-- No descriptor is being decoded: one that waits under FENCE is not. -/
def State.decoderIdle (s : State) : Bool := match s.ring.block with
  | none | some (.fence _ _) => true
  | _ => false

/-- D3hot entered (R137, R144): the link is in L1; after SLEEP_READY the host-silence timer is suspended. -/
def enterD3 (s : State) : State :=
  let t : State := { s with host.d3Due := false, host.d3hot := true, host.link := .l1, sil.suspended := s.sil.suspended || (s.host.sleepReady && s.sil.armed && !s.sil.active) }
  raise 0x030A 2 3 0 t

/-- PME_Turn_Off answered after the mirror (R145). -/
def answerPme (s : State) : State :=
  let t := mirrorNowSent s
  { t with host.pmeDue := false, host.link := .l23 }

/-- What a power request waited for: the end of the descriptor being decoded. -/
def answerPower (s : State) : State :=
  if !s.decoderIdle then s else
  let t := if s.host.d3Due then enterD3 s else s
  if t.host.pmeDue then answerPme t else t

/-- SLEEP_READY once every fetched descriptor is decoded (R130). -/
def sleepSync (s : State) : State :=
  if s.ring.sleepReq && s.host.running && s.ring.backlog.isEmpty && s.ring.block.isNone then { s with host.sleepReady := true } else s

/-- What follows when the decoder may have become free: a stop that waited ends, else the fetched descriptors go on. -/
def resume (s : State) : State :=
  let s := answerPower s
  if s.host.stopping then (if s.ring.block.isNone then endStop s else s) else sleepSync (drainDesc s.ring.backlog.length s)

/-- A descriptor fetched (R134): decoded at once, or behind those that wait. -/
def deliver (op : Byte) (d : Desc) (s : State) : State :=
  if !(s.canFetch && 0 < s.ring.announced) then s
  else resume { s with ring.announced := s.ring.announced - 1, ring.backlog := s.ring.backlog ++ [(op, d)] }

/-- A command row: its descriptor is the next one that HOST fetches. Where HOST fetches nothing, it stays in host memory. -/
def command (op : Byte) (d : Desc) (s : State) : Host.Outcome State Fault Refusal := done (deliver op d s)

/-- A next state after which the decoder goes on where it can. -/
def doneR (s : State) : Host.Outcome State Fault Refusal := done (resume s)
/-- The same where a condition holds. -/
def doneRIf (c : Bool) (f : State → State) (s : State) : Host.Outcome State Fault Refusal := if c then doneR (f s) else .next s

/-! ### The command rows -/

/-- NOP. -/
def execNop (d : Desc) (s : State) : Host.Outcome State Fault Refusal := command 0x01 d s
/-- GET_STATUS. -/
def execGetStatus (d : Desc) (s : State) : Host.Outcome State Fault Refusal := command 0x02 d s
/-- EVENT_FILTER. -/
def execEventFilter (d : Desc) (s : State) : Host.Outcome State Fault Refusal := command 0x70 d s
/-- POWER_STATE. -/
def execPowerState (d : Desc) (s : State) : Host.Outcome State Fault Refusal := command 0x78 d s
/-- PARAM_READ. -/
def execParamRead (d : Desc) (s : State) : Host.Outcome State Fault Refusal := command 0x08 d s
/-- PARAM_WRITE. -/
def execParamWrite (d : Desc) (s : State) : Host.Outcome State Fault Refusal := command 0x09 d s
/-- TXN_BEGIN. -/
def execTxnBegin (d : Desc) (s : State) : Host.Outcome State Fault Refusal := command 0x10 d s
/-- TXN_COMMIT. -/
def execTxnCommit (d : Desc) (s : State) : Host.Outcome State Fault Refusal := command 0x11 d s
/-- TXN_ROLLBACK. -/
def execTxnRollback (d : Desc) (s : State) : Host.Outcome State Fault Refusal := command 0x12 d s
/-- TXN_STATUS. -/
def execTxnStatus (d : Desc) (s : State) : Host.Outcome State Fault Refusal := command 0x13 d s
/-- LIFT_CALL. -/
def execLiftCall (d : Desc) (s : State) : Host.Outcome State Fault Refusal := command 0x20 d s
/-- LIFT_CANCEL. -/
def execLiftCancel (d : Desc) (s : State) : Host.Outcome State Fault Refusal := command 0x21 d s
/-- LIFT_HOME. -/
def execLiftHome (d : Desc) (s : State) : Host.Outcome State Fault Refusal := command 0x22 d s
/-- LIFT_HOLD. -/
def execLiftHold (d : Desc) (s : State) : Host.Outcome State Fault Refusal := command 0x23 d s
/-- LIFT_RELEASE. -/
def execLiftRelease (d : Desc) (s : State) : Host.Outcome State Fault Refusal := command 0x24 d s
/-- DOOR_OPEN. -/
def execDoorOpen (d : Desc) (s : State) : Host.Outcome State Fault Refusal := command 0x28 d s
/-- DOOR_CLOSE. -/
def execDoorClose (d : Desc) (s : State) : Host.Outcome State Fault Refusal := command 0x29 d s
/-- DOOR_HOLD. -/
def execDoorHold (d : Desc) (s : State) : Host.Outcome State Fault Refusal := command 0x2A d s
/-- AXIS_MOVE_ABS. -/
def execAxisMoveAbs (d : Desc) (s : State) : Host.Outcome State Fault Refusal := command 0x30 d s
/-- AXIS_MOVE_VEL. -/
def execAxisMoveVel (d : Desc) (s : State) : Host.Outcome State Fault Refusal := command 0x31 d s
/-- AXIS_RETUNE. -/
def execAxisRetune (d : Desc) (s : State) : Host.Outcome State Fault Refusal := command 0x32 d s
/-- AXIS_STOP. -/
def execAxisStop (d : Desc) (s : State) : Host.Outcome State Fault Refusal := command 0x33 d s
/-- AXIS_HOME. -/
def execAxisHome (d : Desc) (s : State) : Host.Outcome State Fault Refusal := command 0x34 d s
/-- AXIS_GEAR. -/
def execAxisGear (d : Desc) (s : State) : Host.Outcome State Fault Refusal := command 0x35 d s
/-- AXIS_POWER. -/
def execAxisPower (d : Desc) (s : State) : Host.Outcome State Fault Refusal := command 0x36 d s
/-- AXIS_SET_POS. -/
def execAxisSetPos (d : Desc) (s : State) : Host.Outcome State Fault Refusal := command 0x37 d s
/-- GRIND_RUN. -/
def execGrindRun (d : Desc) (s : State) : Host.Outcome State Fault Refusal := command 0x40 d s
/-- GRIND_STOP. -/
def execGrindStop (d : Desc) (s : State) : Host.Outcome State Fault Refusal := command 0x41 d s
/-- FIELD_WRITE. -/
def execFieldWrite (d : Desc) (s : State) : Host.Outcome State Fault Refusal := command 0x48 d s
/-- FIELD_PULSE. -/
def execFieldPulse (d : Desc) (s : State) : Host.Outcome State Fault Refusal := command 0x49 d s
/-- FIELD_READ. -/
def execFieldRead (d : Desc) (s : State) : Host.Outcome State Fault Refusal := command 0x4A d s
/-- COUNTER_READ. -/
def execCounterRead (d : Desc) (s : State) : Host.Outcome State Fault Refusal := command 0x4B d s
/-- COUNTER_CLEAR. -/
def execCounterClear (d : Desc) (s : State) : Host.Outcome State Fault Refusal := command 0x4C d s
/-- GUARD_ACK. -/
def execGuardAck (d : Desc) (s : State) : Host.Outcome State Fault Refusal := command 0x50 d s
/-- GUARD_STATUS. -/
def execGuardStatus (d : Desc) (s : State) : Host.Outcome State Fault Refusal := command 0x51 d s
/-- LOG_MARK. -/
def execLogMark (d : Desc) (s : State) : Host.Outcome State Fault Refusal := command 0x58 d s
/-- LOG_CHALLENGE. -/
def execLogChallenge (d : Desc) (s : State) : Host.Outcome State Fault Refusal := command 0x59 d s
/-- LOG_CLEAR. -/
def execLogClear (d : Desc) (s : State) : Host.Outcome State Fault Refusal := command 0x5A d s
/-- LOG_COPY. -/
def execLogCopy (d : Desc) (s : State) : Host.Outcome State Fault Refusal := command 0x5B d s
/-- FW_STAGE. -/
def execFwStage (d : Desc) (s : State) : Host.Outcome State Fault Refusal := command 0x60 d s
/-- FW_ACTIVATE. -/
def execFwActivate (d : Desc) (s : State) : Host.Outcome State Fault Refusal := command 0x61 d s
/-- FW_STATUS. -/
def execFwStatus (d : Desc) (s : State) : Host.Outcome State Fault Refusal := command 0x62 d s
/-- JOURNAL_COPY. -/
def execJournalCopy (d : Desc) (s : State) : Host.Outcome State Fault Refusal := command 0x68 d s

/-- FENCE_RELEASE (R162): every earlier accepted command has its final outcome. -/
def execFenceRelease (s : State) : Host.Outcome State Fault Refusal := match s.ring.block with
  | some (.fence op d) => doneRIf (s.ring.outstanding.isEmpty && { s with ring.block := none }.canDecode) (fun s => consume op d { s with ring.block := none }) s
  | _ => .next s

/-- LOG_CLEARED (R458): a running clear ends where power and LOG allow (R459). -/
def execLogCleared (s : State) : Host.Outcome State Fault Refusal :=
  doneRIf (s.logUp && s.sup.level.val < 3 && s.log.clear.isSome) logCleared s

end Sys2Proof.Machine
end

