-- ==== Sys2Proof/Machine/Islands.lean ====
section
/-! DEFINITION. Island watchdogs, restarts and clock faults (04): the reactions of Table 4-3, what follows a restart, the guard
global watchdog (R93) and the clock supervision (R85 to R87). -/

namespace Sys2Proof.Machine

/-! ### Reactions (Table 4-3, R95) -/

/-- One axis as MOTION's restart leaves it: its commands end INTERNAL, extra 2; it is not homed and holds nothing retained. -/
def axLost (s : State) (a : Nat) : State :=
  let x := s.axis a
  let t : State := { s with keep.ret := s.keep.ret.setIfInBounds a none, glb.restored := setB s.glb.restored a false, glb.awaiting := setB s.glb.awaiting a false }
  let t := axMod a (fun y => { y with
    st := .off, homed := false, stage := false, v := 0, a := 0, move := none, gear := none, emg := false, hold := false, next := none, refs := [], stops := []
    endWith := none, after := none, powerRefs := [], verifying := false, retained := none, fromRam := false, noVerify := false, latchArmed := false, still := 0 }) t
  finishAll (x.refs ++ x.armedRef ++ x.stops ++ x.powerRefs) .internal 0 2 t

/-- MOTION: every axis and the car NOT_HOMED, and TRIP. -/
def motionLost (s : State) : State :=
  let t := (List.range 5).foldl axLost s
  let r := t.lift.homeRef.toList ++ t.lift.holdRefs
  let t := finishAll r .notHomed 0 0 { t with lift.homeRef := none, lift.holdRefs := [] }
  guardTrip 4 (if t.liftEn then carLost t else t)

/-- A door of a LIFT that restarts: its motion stops, its commands end, its outputs are off; it is judged again (R374). -/
def doorLost (s : State) (k : Nat) : State :=
  if !s.drEn k then s else
  let t := doorHalt k .internal 2 s
  let t := endClose k .internal 2 (endOpen k .internal 2 t)
  drMod k (fun _ => {}) (buzz k false (lockOut k false t))

/-- LIFT: the car stops on the emergency ramp, door motion stops, the calls end INTERNAL (R348). -/
def liftLost (s : State) : State :=
  let r := s.lift.homeRef.toList ++ s.lift.holdRefs
  let t := endCalls .internal 2 s
  let t := finishAll r .internal 0 2 { t with lift.homeRef := none, lift.holdRefs := [] }
  let t := (List.range 2).foldl doorLost t
  let t := if t.liftEn then axStop true 0 .internal 2 t else t
  brakeAtRest { t with lift := { brake := t.lift.brake, order := t.lift.order } }

/-- LIFT back: HOLD with cause 4 where axis 0 is homed, else NOT_HOMED (Table 11-3). -/
def liftBack (s : State) : State :=
  if s.liftEn && (s.axis 0).homed then enterHold 4 { s with lift.last := Fin.ofNat 16 s.carLanding } else s

/-- GRIND: all gates off, the commands end INTERNAL, extra 2 (R408, R409). -/
def grindGone (s : State) : State :=
  let t := grindEnd .internal 2 s
  let t := finishAll t.grind.stops .internal 0 2 { t with grind.stops := [] }
  { t with grind := { st := if s.grind.st = .disabled then .disabled else if s.grind.still then .stopped else .coast, still := s.grind.still, rpm := s.grind.rpm } }

/-- LINK: field commands in flight end INTERNAL, the inputs are STALE, the handshake starts anew (R95, R251). -/
def linkLost (s : State) : State :=
  let t := unheard (failClear (endAllField .internal 2 s))
  { t with awn := { helloAgain t.awn with badRun := false, hunt := false, period := 1000, gAir := none } }

/-- KEEP: TRIP, and the retention RAM is invalid. -/
def keepLost (s : State) : State :=
  guardTrip 5 { s with keep.valid := false, keep.ret := Vector.replicate 5 none, keep.lostCount := none, keep.lostThermal := false }

/-- The reaction of an island by number. -/
def react (n : Nat) (s : State) : State :=
  if n = 0 then hostLost s else if n = 1 then motionLost s else if n = 2 then liftLost s else if n = 3 then grindGone s
  else if n = 6 then linkLost s else if n = 7 then keepLost s else s

/-! ### A missed watchdog (R92 to R94) -/

/-- Whether a miss of an island now makes the guard global watchdog act: a second within 10 s, or another island's within
100 ms (R93). -/
def State.globalDue (s : State) (n : Nat) : Bool :=
  (List.range 8).any (fun i => match vget s.glb.wdtAt i none with
    | none => false
    | some t => s.now - t ≤ (if i = n then 10000000 else 100000))

/-- A missed watchdog: the transaction, the reaction, the record, and the guard global watchdog where it is due. -/
def missed (n : Nat) (s : State) : State :=
  let again := s.globalDue n
  let t : State := { s with
    glb.cause := setB (setB s.glb.cause 3 true) (9 + n) true, glb.wdtCount := satInc s.glb.wdtCount, glb.wdtLast := BitVec.ofNat 4 n
    glb.wdtAt := vset s.glb.wdtAt n (some s.now), glb.restartAt := vset s.glb.restartAt n (some s.now) }
  let t := react n ((txnIslandLost n t).setIsl n .restarting)
  let t := raise 0x0102 5 (w24 n) t.glb.wdtCount t
  if again then globalWatchdog 0 t else t

/-- An island whose heartbeat GUARD watches now: it runs and no debugger halts it (R92, R487). -/
def State.watched (s : State) (n : Nat) : Bool :=
  s.guardUp && n < 8 && n != 4 && !s.haltedIsl n && (s.isl n = .run || s.isl n = .recovery || s.isl n = .held)

/-- ISLAND_WDT (R92). GUARD and FIELD have no watchdog of their own. -/
def execIslandWdt (i : Island) (s : State) : Host.Outcome State Fault Refusal := doneIf (s.watched (islNum i)) (missed (islNum i)) s

/-- An island that serves: it runs, in RECOVERY or HELD too. -/
def State.islServes (s : State) (n : Nat) : Bool := s.isl n = .run || s.isl n = .recovery || s.isl n = .held

/-- HANDSHAKE_TMO (R84): logged by the sender, and the reaction of a missed watchdog of the receiver where Table 4-3 has one. -/
def execHandshakeTmo (sender receiver : Island) (s : State) : Host.Outcome State Fault Refusal :=
  let r := islNum receiver
  doneIf (s.guardUp && s.islServes (islNum sender) && sender != receiver) (fun s =>
    let t := raiseBy (islNum sender) 0x0105 5 (w24 (islNum sender)) (w24 r) s
    if t.watched r then missed r t else t) s

/-- LOG_OSC_FAULT (R87). -/
def execLogOscFault (s : State) : Host.Outcome State Fault Refusal :=
  doneIf (s.watched 5) (fun s => missed 5 { s with clk.good := setB s.clk.good 9 false, clk.latch := setB s.clk.latch 9 true }) s

/-! ### The restart (R92, R112, R470) -/

/-- A restart that a firmware activation runs ends with the activation (R478). -/
def State.actRestart (s : State) (n : Nat) : Bool := match s.fw.act with
  | none => false
  | some a => fwNum a.isl = n && a.phase != .waiting

/-- What an island does once it is back (R187). MOTION looks at the limits (R308); LOG flushes the staging buffer that its restart kept
(Table 4-3) and writes an image that waits for it. The retention RAM stays invalid for the next start (Table 4-3). -/
def islandBack (n : Nat) (s : State) : State :=
  let s := restoreLive n s
  if n = 1 then limitScan s else if n = 2 then liftBack s
  else if n = 5 then writeImage (flush { s with clk.good := setB s.clk.good 9 true }) else s

/-- A booted firmware island: RECOVERY on its recovery slot, else admitted by R470 (R109, R481; log 35). -/
def enterFw (k : Nat) (s : State) : State := if (s.slots k).running = 2 then s.setIsl (fwIsl k) .recovery else enterMain k s

/-- An island admitted after its boot. -/
def bootIsland (n : Nat) (s : State) : State := match fwOf n with
  | none => s.setIsl n .run
  | some k => enterFw k.val s

/-- ISLAND_RESTARTED (R92): the island itself logs it. -/
def execIslandRestarted (i : Island) (s : State) : Host.Outcome State Fault Refusal :=
  let n := islNum i
  doneRIf (n < 8 && s.isl n = .restarting && !s.actRestart n) (fun s =>
    let us := sat24 (s.now - (vget s.glb.restartAt n none).getD s.now)
    let t := bootIsland n { s with glb.restartAt := vset s.glb.restartAt n none }
    islandBack n (raiseBy n 0x0103 3 (w24 n) us t)) s

/-- RESTART_TIMEOUT (R93). -/
def execRestartTimeout (i : Island) (s : State) : Host.Outcome State Fault Refusal :=
  let n := islNum i
  doneIf (n < 8 && s.isl n = .restarting && !s.actRestart n) (globalWatchdog 0) s

/-! ### Clock faults (R85, R86) -/

/-- A clock of Table 4-6 found bad. -/
def clockBad (i : Nat) (s : State) : State := { s with clk.good := setB s.clk.good i false, clk.latch := setB s.clk.latch i true }

/-- CLK_FAULT (R85): the crystal (0) or a crystal PLL (1 to 4). TRIP, then the global watchdog's reset; the start waits at step 2. -/
def execClkFault (bad : Fin 5) (s : State) : Host.Outcome State Fault Refusal :=
  doneIf s.guardUp (fun s =>
    let t := clockBad bad.val s
    let t := guardTrip 6 (raise 0x0104 6 (t.clk.latch.zeroExtend 24) 0 { t with clk.crystal := false })
    let t := globalWatchdog 0x80 t
    { t with glb.step := 2, glb.waitCrystal := true }) s

/-- GUARD_CLOCK_FAULT (R86). -/
def execGuardClockFault (s : State) : Host.Outcome State Fault Refusal :=
  doneIf s.guardUp (globalWatchdog 0x100) s

end Sys2Proof.Machine
end

