-- ==== Sys2Proof/Machine/FwEvents.lean ====
section
/-! DEFINITION. Firmware activation after its acceptance (16): the safe point, the restart, its success, its fallback and its
timeout (R476 to R480). -/

namespace Sys2Proof.Machine

/-! ### The choice of a slot at boot (R46, R100) -/

/-- The slots in the order that a boot tries them: 0 A, 1 B, 2 recovery. -/
def FwSlots.order (f : FwSlots) (recovery : Bool) : List (Fin 3) := if recovery then [2] else if f.activeB then [1, 0, 2] else [0, 1, 2]

/-- An island boots: each slot that fails its check is reported, the first sound one runs; without one the island is in
FAULT. -/
def bootFw (k : Nat) (s : State) : State :=
  let f := s.slots k
  let l := f.order s.glb.bootSel
  let bad := l.takeWhile (fun j => !(f.slot j.val).verified)
  let t := bad.foldl (fun (u : State) (j : Fin 3) => raise 0x6008 5 (w24 (fwIsl k)) (w24 j.val) u) s
  match l.find? (fun j => (f.slot j.val).verified) with
  | none => t.setIsl (fwIsl k) .fault
  | some j => { t with fw.slots := vmap t.fw.slots k {} (fun x => { x with running := j }) }.setIsl (fwIsl k) .starting

/-- HOST may run: PE_PERST_N high and the reference valid (R80). -/
def State.hostAllowed (s : State) : Bool := s.land.perstN && s.clk.refclk

/-! ### Activation -/

/-- Whether the island under activation stands at its activation safe point (Table 16-3). A HELD island runs nothing that
would have to stop. -/
def State.actSafe (s : State) (i : FwIsland) : Bool :=
  let n := fwNum i
  !(s.committing && s.touches n) && !s.haltedIsl n && (s.isl n = .held || (match i with
    | .host => (match s.ring.block with
      | none | some (.fence _ _) => true
      | _ => false)
    | .lift => s.atSafePoint 2
    | .grind => s.grindStopped))

/-- HOST pauses its rings: the mirror shows bit 10, nothing is fetched (R480). -/
def pauseHost (s : State) : State := mirrorNowSent { s with host.paused := true, ring.pauseRecs := 0 }

/-- ACTIVATION_SAFE_POINT (R476, R477): the island restarts. LIFT's pending calls end at the restart (Table 16-3). -/
def execActivationSafePoint (s : State) : Host.Outcome State Fault Refusal := match s.fw.act with
  | none => .next s
  | some a => doneIf (a.phase = .waiting && s.actSafe a.isl) (fun s =>
    let n := fwNum a.isl
    let t : State := { s with fw.act := some { a with phase := .restarting, safeAt := s.now } }
    let t := t.setIsl n .restarting
    match a.isl with
    | .host => if t.host.running then pauseHost t else t
    | .lift => liftLost t
    | .grind => grindGone t) s

/-- The CMD_DONE entries held back by a pause, posted in their order. -/
def postHeld (s : State) : State :=
  s.ring.heldDone.foldl (fun t p => putDone p.1 p.2.1 p.2.2 t) { s with ring.heldDone := [] }

/-- HOST's rings run again after its activation (R480): the new image polls at HST_POLL_FAST (the last activity is the restart, DESIGN
CHOICE, log 95) and posts the outcomes of the pause, with the mirror. -/
def unpause (s : State) : State :=
  if s.host.paused then mirrorNowSent (postHeld { s with host.paused := false, host.pollNow := s.host.pollFast, ring.lastActivity := s.now }) else s

/-- The one event for the records staged during a pause (R480). -/
def pauseOverflow (n : Nat) (s : State) : State := if n = 0 then s else raise 0x0311 4 (sat24 n) 0 { s with ring.pauseRecs := 0 }

/-- The island of an activation boots: HOST only with PE_PERST_N high and a valid reference (R80). -/
def actBoot (i : FwIsland) (s : State) : State :=
  if i = .host && !s.hostAllowed then s.setIsl 0 .off
  else
    let t := enterMain (fwIdx i) s
    let t := restoreLive (fwNum i) t
    if i = .lift then liftBack t else t

/-- The end of the restart with the status of the activation. -/
def actEnd (a : Activation) (st : Status) (ms : Nat) (ev : State → State) (s : State) : State :=
  let n := s.ring.pauseRecs
  let was := s.host.paused
  let t := endAct st ms (ev (unpause (actBoot a.isl s)))
  if was then pauseOverflow n t else t

/-- FW_ACTIVATED (R477): the new slot, still verified, becomes active, the island is admitted (R470). -/
def execFwActivated (s : State) : Host.Outcome State Fault Refusal := match s.fw.act with
  | none => .next s
  | some a => doneRIf (a.phase = .restarting && (s.slots (fwIdx a.isl)).spare.verified) (fun s =>
    let ms := msOf (s.now - a.safeAt)
    let t : State := { s with fw.slots := vmap s.fw.slots (fwIdx a.isl) {} (fun f => { f with activeB := f.spareB, running := if f.spareB then 1 else 0 }) }
    actEnd a .ok ms (raise 0x6003 3 (w24 (fwNum a.isl)) (w24 ms)) t) s

/-- FW_FALLBACK (R477): the previous slot boots again; `code` is the self-test's, 0 for no report. -/
def execFwFallback (code : W24) (s : State) : Host.Outcome State Fault Refusal := match s.fw.act with
  | none => .next s
  | some a => doneRIf (a.phase = .restarting) (fun s =>
    actEnd a .authFail (msOf (s.now - a.safeAt)) (raise 0x6004 5 (w24 (fwNum a.isl)) code) s) s

/-- ACTIVATION_TIMEOUT (R478): a missed watchdog of the island; its command ends INTERNAL, extra 2 (R95). -/
def execActivationTimeout (s : State) : Host.Outcome State Fault Refusal := match s.fw.act with
  | none => .next s
  | some a => doneIf (a.phase = .restarting) (fun s =>
    endAct .internal (msOf (s.now - a.safeAt)) (finish a.ref .internal 0 2 (missed (fwNum a.isl) s))) s

end Sys2Proof.Machine
end

