-- ==== Sys2Proof/Machine/HostLink.lean ====
section
/-! DEFINITION. The host link (05, 06): set-up and run, polling, the mirror, interrupts, host silence, power states, PE_PERST_N
and the link. -/

namespace Sys2Proof.Machine

/-! ### Host silence (R137 to R141) -/

/-- The timer runs from now with its full timeout. -/
def silStart (s : State) : State := { s with sil.suspended := false, sil.began := s.now }
/-- A suspended timer leaves its suspension (R137). -/
def unsuspend (s : State) : State := if s.sil.suspended then silStart s else s
/-- A change of the host heartbeat observed (R137, R141). -/
def beatSeen (s : State) : State :=
  let t := if s.sil.active then raise 0x0305 3 (sat24 (msOf (s.now - s.sil.since))) 0 { s with sil.active := false, sil.park := false } else s
  silStart t
/-- The heartbeat of a doorbell line: the first one read is no change. -/
def takeBeat (w : W24) (s : State) : State := match s.ring.beat with
  | none => { s with ring.beat := some w }
  | some b => if b = w then s else beatSeen { s with ring.beat := some w }

/-- PARK at a door: a hold with no end ends; an OPEN door whose hold-open time has elapsed closes, so every door completes its cycle
(Table 5-7, R383). -/
def parkDoor (x : Door) : Door :=
  if x.holdInf then { x with holdInf := false, closeDue := x.closeDue || (x.st = .opened && x.holdEnd.isNone) } else x

/-- What PARK does (Table 5-7, R383). -/
def parkMachine (s : State) : State :=
  let t := if s.liftEn then holdCause 2 s else s
  let t := (List.range 2).foldl (fun u k => if u.drEn k then drMod k parkDoor u else u) t
  grindRampCause .superseded 0 t

/-- HOST_SILENCE (R140, Table 5-7): the wake cause is latched where an action is taken; an OPEN transaction rolls back with cause 6
(Tables 7-2, 7-4, 7-7). -/
def execHostSilence (s : State) : Host.Outcome State Fault Refusal :=
  doneIf (s.guardUp && s.sil.armed && !s.sil.active && !s.sil.suspended) (fun s =>
    let act := s.silActNow
    let t : State := { s with sil.active := true, sil.since := s.now, sil.park := act = 1 }
    let t := txnHostStop (sendIrq 6 (raise 0x0304 5 (w24 act) (w24 s.silTmoNow) t))
    let t := if act = 0 then t else wake 5 t
    if act = 1 then parkMachine t else if act = 2 then guardStop 17 t else t) s

/-! ### Set-up and run (R121 to R124) -/

/-- The five structures of set-up: base and length in bytes. -/
def State.structures (s : State) : List (Nat × Nat) :=
  [(s.host.cmdBase.toNat, 32 * s.ringEntries 0), (s.host.cplBase.toNat, 16 * s.ringEntries 1), (s.host.evtBase.toNat, 16 * s.ringEntries 2),
   (s.host.dbAddr.toNat, 64), (s.host.mirAddr.toNat, 64)]

/-- Two structures that overlap. -/
def overlaps (a b : Nat × Nat) : Bool := a.1 < b.1 + b.2 && b.1 < a.1 + a.2

/-- Some two structures of a list overlap. -/
def anyOverlap : List (Nat × Nat) → Bool
  | [] => false
  | x :: t => t.any (overlaps x) || anyOverlap t

/-- The timeout and action that a RUN write takes (R139): the registers' values, where one was never written those in force. -/
def State.silForRun (s : State) : Nat × Nat := ((s.host.silTmo.map BitVec.toNat).getD (s.pn 0x800), (s.host.silAct.map BitVec.toNat).getD (s.pn 0x801))

/-- The first check of Table 5-4 that fails, 0 where none does. -/
def State.setupCode (s : State) (lineOk : Bool) : Nat :=
  let h := s.host
  let fast := h.pollFast.toNat
  let idle := h.pollIdle.toNat
  let tmo := s.silForRun.1
  let act := s.silForRun.2
  if s.structures.any (fun p => p.1 % 64 != 0) then 1
  else if (List.range 3).any (fun k => s.ringLog k < 4 || 12 < s.ringLog k) then 2
  else if fast < 10 || 1000 < fast || idle < fast || 10240 < idle || h.pollHold.toNat < fast then 3
  else if !(h.cfg.bme && h.cfg.mse) then 4
  else if tmo < 50 || 60000 < tmo || tmo * 1000 < 5 * idle || 2 < act then 5
  else if anyOverlap s.structures then 6
  else if !(lineOk && s.dmaOpen) then 7 else 0

/-- The rings started (R122, R137, R139, R183). Right after RUN the interval in force is HST_POLL_FAST and the last activity is the RUN
write (DESIGN CHOICE, log 95). -/
def runRings (line : Doorbell) (s : State) : State :=
  let t : State := { s with
    host.run := true, host.running := true, host.gen := line.gen, host.pollNow := s.host.pollFast, host.sleepReady := false
    sil.tmoRun := s.silForRun.1, sil.actRun := s.silForRun.2
    ring.cmdCons := 0, ring.cmdProd := 0, ring.cplProd := 0, ring.cplCons := 0, ring.evtProd := 0, ring.evtCons := 0, ring.announced := 0
    ring.backlog := [], ring.block := none, ring.cpl := [], ring.evts := [], ring.evtMissed := 0, ring.badRun := false, ring.readRun := false
    ring.waiting := []
    ring.stalled := false, ring.sleepReq := false, ring.urgentSeen := false, ring.lastActivity := s.now
    ring.minSev := Vector.ofFn (fun (k : Fin 14) => s.pn (0x0810 + k.val)) }
  let t := if t.sil.armed then t else silStart { t with sil.armed := true }
  raise 0x0301 2 line.gen 0 (mirrorNowSent (takeBeat line.beat t))

/-- A BAR access reaches the function (R116, Table 5-9). -/
def State.barUp (s : State) : Bool :=
  s.isl 0 != .off && s.host.cfg.mse && !s.host.d3hot && (s.host.link = .l0 || s.host.link = .l1)

/-- RUN written while it may start (R122, R137, R150): the error bits of an earlier set-up clear (log 36), and with them DMA_FAULT and
GEN_CHANGED (DESIGN CHOICE, log 92); the checks of Table 5-4, then the rings run, or the failing check is reported. -/
def setUp (line : Doorbell) (lineOk : Bool) (s : State) : State :=
  let t : State := unsuspend { s with host.setupErr := false, host.errCode := 0, host.dmaFault := false, host.genChanged := false }
  let c := t.setupCode lineOk
  if c = 0 then runRings line t
  else
    let t := if c = 7 then raise 0x0307 5 0 0 (dmaCount false { t with host.dmaFault := true }) else t
    raise 0x0303 3 (w24 c) 0 { t with host.setupErr := true, host.errCode := BitVec.ofNat 3 c }

/-- RUN may start: HOST is ready, its rings neither run nor complete a stop (log 36). -/
def State.mayRun (s : State) : Bool := s.hostUp && s.host.ready && !s.host.run && !s.host.running

/-- HOST_RUN (R122, R137, R150). A write while RUN is set, or while a stop still completes, has no effect (log 36). -/
def execHostRun (line : Doorbell) (lineOk : Bool) (s : State) : Host.Outcome State Fault Refusal :=
  doneIf (s.mayRun && (s.host.link = .l0 || s.host.link = .l1) && !s.host.d3hot) (setUp line lineOk) s

/-- HOST_STOP (R124). -/
def execHostStop (s : State) : Host.Outcome State Fault Refusal := doneIf (s.barUp && s.host.run) stopRun s

/-! ### Polling (R127 to R136, R151, R156, R160) -/

/-- An event that the event ring takes whatever its class's minimum (R160). -/
def overflowEvent (n : Nat) (s : State) : State :=
  let p := stage 0x0311 4 0 0 (sat24 n) 0 0 0 s
  flushOn 4 s (postEvt 0x0311 4 (BitVec.ofNat 32 p.1) ((sat24 n).zeroExtend 32) 0 false p.2)

/-- The count of events not posted, once two entries are free (R160). -/
def reportMissed (s : State) : State :=
  if s.ring.evtMissed = 0 || s.evtFree < 2 then s else overflowEvent s.ring.evtMissed { s with ring.evtMissed := 0 }

/-- The interval to the next poll (R129, R130, R135). With the urgent and the sleep flag both set it is HST_POLL_IDLE (DESIGN CHOICE,
log 94). -/
def nextInterval (act urgent : Bool) (s : State) : State :=
  let h := s.host
  let t : State := if act then { s with ring.lastActivity := s.now } else s
  let v : W24 := if s.ring.sleepReq then h.pollIdle
    else if urgent || act then h.pollFast
    else if s.now - s.ring.lastActivity < h.pollHold.toNat then h.pollFast
    else w24 (min (2 * h.pollNow.toNat) h.pollIdle.toNat)
  { t with host.pollNow := v }

/-- A doorbell read that fails (R151): a poll that found no change. -/
def pollFail (s : State) : State :=
  let t := dmaCount false { s with host.dmaFault := true, ring.readRun := true }
  nextInterval false false (if s.ring.readRun then t else raise 0x0307 5 0 0 t)

/-- The descriptors that a poll announces: those between the producer index and what is fetched already (R134). -/
def State.toFetch (s : State) : Nat :=
  let held := match s.ring.block with
    | some (.fence _ _) => 1
    | _ => 0
  (s.ring.cmdProd - s.ring.cmdCons).toNat - s.ring.backlog.length - held

/-- The indices of a good poll taken; fetching waits while the sleep request stands (R130, R134). -/
def takeIndices (line : Doorbell) (s : State) : State :=
  let t : State := { s with ring.cmdProd := line.cmdProd, ring.cplCons := line.cplCons, ring.evtCons := line.evtCons, ring.badRun := false }
  let t : State := { t with ring.stalled := t.ring.stalled && t.cplFree = 0, ring.announced := if line.sleepReq then 0 else t.toFetch }
  reportMissed t

/-- The fetched descriptors join those that wait. -/
def fetchList (fetch : List (Byte × Desc)) (s : State) : State :=
  if !s.canFetch then s else
  let n := min s.ring.announced fetch.length
  { s with ring.announced := s.ring.announced - n, ring.backlog := s.ring.backlog ++ fetch.take n }

/-- A poll whose count of pending descriptors exceeds the ring (R156): RING_INDEX_BAD once for a run of them; it finds no change and
fetches nothing. The heartbeat and the flags of its line are taken (log 58). -/
def pollBad (line : Doorbell) (s : State) : State :=
  let t : State := { s with ring.announced := 0, ring.badRun := true }
  if s.ring.badRun then t else raise 0x0312 4 line.cmdProd s.ring.cmdCons t

/-- A poll that found its indices good: what has changed is activity, what it announces is fetched (R134, R135). -/
def pollGood (line : Doorbell) (fetch : List (Byte × Desc)) (s : State) : State := fetchList fetch (takeIndices line s)

/-- A poll that read the doorbell line (R128 to R135, R156). -/
def pollLine (line : Doorbell) (fetch : List (Byte × Desc)) (s : State) : State :=
  let t := takeBeat line.beat { s with ring.readRun := false }
  if line.gen != s.host.gen then stopRun (raise 0x0306 3 s.host.gen line.gen { t with host.genChanged := true })
  else
    let bad : Bool := s.ringEntries 0 < (line.cmdProd - s.ring.cmdCons).toNat
    let moved : Bool := line.cmdProd != s.ring.cmdProd || line.cplCons != s.ring.cplCons || line.evtCons != s.ring.evtCons
    let act : Bool := (!bad && moved) || s.ring.urgentSeen
    let t : State := { t with ring.sleepReq := line.sleepReq, host.sleepReady := t.host.sleepReady && line.sleepReq, ring.urgentSeen := false }
    let t := resume (if bad then pollBad line t else pollGood line fetch t)
    nextInterval (act || t.ring.urgentSeen) line.urgent t

/-- A poll runs while RUN is set and DMA is allowed (R116, R135), once every descriptor that the poll before announced has been fetched
(R134), or none can be while LOG is down (Table 4-3). -/
def State.mayPoll (s : State) : Bool := s.host.run && s.host.running && !s.host.stopping && s.hostUp && s.dmaOpen && (s.ring.announced = 0 || !s.logUp)

/-- POLL (R135). -/
def execPoll (line : Option Doorbell) (fetch : List (Byte × Desc)) (s : State) : Host.Outcome State Fault Refusal :=
  doneIf s.mayPoll (fun s => match line with
    | none => pollFail s
    | some l => pollLine l fetch s) s

/-- CPL_RING_STALL (R159). -/
def execCplRingStall (s : State) : Host.Outcome State Fault Refusal :=
  doneIf (s.host.running && s.cplFree = 0 && !s.ring.stalled) (fun s => raise 0x0313 3 s.ring.cplProd 0 { s with ring.stalled := true }) s

/-- The number of a structure (Table 5-14). -/
def dmaNum : DmaStruct → Nat
  | .doorbell => 0 | .command => 1 | .completion => 2 | .event => 3 | .mirror => 4 | .bulk => 5

/-- HOST_DMA_FAULT (R151, R181): a failed doorbell read is a poll without change; a failed descriptor read is counted and
logged; a failed write stops the rings; a failed bulk copy ends its command. -/
def execHostDmaFault (k : DmaStruct) (s : State) : Host.Outcome State Fault Refusal :=
  let open_ : Bool := s.host.running && s.hostUp && s.dmaOpen
  match k with
  | .doorbell => doneIf s.mayPoll pollFail s
  | .command => doneIf open_ (dmaEvent false 1) s
  | .bulk => doneIf (s.ring.bulkRun.isSome && s.hostUp && s.dmaOpen) (bulkEnd false) s
  | k => doneIf open_ (fun s => stopRun (dmaEvent true (dmaNum k) { s with host.dmaFault := true })) s

/-- MIRROR_WRITE (R132): no sooner than 10 µs after the write before it. -/
def execMirrorWrite (s : State) : Host.Outcome State Fault Refusal := doneIf (s.host.run && s.mirrorOpen && s.mirrorTime = s.now) writeMirror s

/-- IRQ_MODERATION_END (R143): a held-back message is sent and begins the next interval. -/
def execIrqModerationEnd (events : Bool) (s : State) : Host.Outcome State Fault Refusal :=
  doneIf (if events then s.ring.modEvt else s.ring.modCpl) (fun s =>
    if events then
      (if s.ring.heldEvt then sendIrq 1 { s with ring.heldEvt := false } else { s with ring.modEvt := false })
    else (if s.ring.heldCpl then sendIrq 0 { s with ring.heldCpl := false } else { s with ring.modCpl := false })) s

/-! ### Pending messages (R113) -/

/-- A vector whose message waits for its mask to clear. -/
def State.vectorDue (s : State) (v : Nat) : Bool :=
  if s.host.cfg.msix then s.host.pba.getLsbD v && !s.host.cfg.fnMask && !(vget s.host.msix v {}).masked
  else s.host.msiPend.getLsbD v && !s.host.cfg.msiMask.getLsbD v

/-- The pending messages of unmasked vectors sent, as source 8. -/
def flushPba (s : State) : State :=
  if !s.irqOpen then s else
  (List.range 8).foldl (fun t v => if t.vectorDue v then
    { t with host.pba := if t.host.cfg.msix then setB t.host.pba v false else t.host.pba
             host.msiPend := if t.host.cfg.msix then t.host.msiPend else setB t.host.msiPend v false
             ring.irqs := (8, v) :: t.ring.irqs } else t) s

/-- DMA may have opened: the entries that waited are written, the pending messages are sent (R113, R116). -/
def dmaBack (s : State) : State := flushPba (postWaiting s)

/-! ### Power states and the link (R114, R116, R144 to R149) -/

/-- Configuration requests reach the endpoint: HOST runs or boots, and the link is up. -/
def State.cfgSeen (s : State) : Bool := s.isl 0 != .off && (s.host.link = .l0 || s.host.link = .l1)
/-- Configuration requests are served: READY is set too (R107). -/
def State.cfgUp (s : State) : Bool := s.cfgSeen && s.host.ready

/-- A configuration request: until READY is set it is answered with Configuration Request Retry Status and has no effect (R107). -/
def configRequest (f : State → State) (s : State) : Host.Outcome State Fault Refusal :=
  if s.cfgSeen && !s.host.ready then .next { s with resp := .crs } else doneRIf s.cfgUp f s

/-- BUS_MASTER_ENABLE (R116): what software writes in configuration space; polling resumes where it allows it. -/
def execBusMasterEnable (c : CfgBits) (s : State) : Host.Outcome State Fault Refusal :=
  configRequest (fun s => dmaBack { s with host.cfg := c }) s

/-- D3HOT_ENTRY (R144): the descriptor being decoded finishes first. -/
def execD3hotEntry (s : State) : Host.Outcome State Fault Refusal :=
  configRequest (fun s => if s.host.d3hot then s else answerPower { s with host.d3Due := true }) s

/-- D0_RETURN (R137, R144). -/
def execD0Return (s : State) : Host.Outcome State Fault Refusal :=
  configRequest (fun s =>
    if !s.host.d3hot then { s with host.d3Due := false } else
    let t : State := { s with host.d3hot := false, host.link := .l0, host.pmePending := false, keep.wakeN := false }
    unsuspend (raise 0x030A 2 0 0 (dmaBack t))) s

/-- PME_TURN_OFF (R145). -/
def execPmeTurnOff (s : State) : Host.Outcome State Fault Refusal :=
  doneIf (s.host.link = .l0 || s.host.link = .l1) (fun s => answerPower { s with host.pmeDue := true }) s

/-- LINK_L0 (R137, R148): the link trains or leaves L1 under ASPM. A function in D3hot takes its link back to L1. -/
def execLinkL0 (s : State) : Host.Outcome State Fault Refusal :=
  doneRIf (s.isl 0 != .off && s.hostAllowed && s.host.link != .l23 && s.sup.level.val < 4) (fun s =>
    let t : State := { s with host.link := if s.host.d3hot then .l1 else .l0, keep.wakeN := false }
    dmaBack (if s.host.d3hot then t else unsuspend t)) s

/-- LINK_DOWN (R148): the link leaves L0 and L1 without a reset and trains again. -/
def execLinkDown (s : State) : Host.Outcome State Fault Refusal :=
  doneIf (s.host.link != .down) (fun s => { s with host.link := .down, host.pmeDue := false }) s

/-! ### PE_PERST_N, FLR and the reference (R80, R97, R107, R114) -/

/-- D0 after D3hot or D3cold: HOST_D_STATE (R153). After D3cold it is logged as HOST boots (DEDUCED, log 113). -/
def backInD0 (s : State) : State := raise 0x030A 2 0 0 { s with host.d3cold := false }

/-- HOST boots where the start has reached step 6 and nothing holds it in reset. -/
def hostBoot (s : State) : State :=
  if !(s.isl 0 = .off && s.hostAllowed && 6 ≤ s.glb.step.val) then s
  else if s.host.d3cold then backInD0 (bootFw 0 s) else bootFw 0 s

/-- PE_PERST_N_FALL (R19, R88, R107). From D3hot or L2/L3 Ready it is the entry into D3cold; after SLEEP_READY the silence
timer is suspended (R137, log 37). -/
def execPePerstNFall (s : State) : Host.Outcome State Fault Refusal :=
  doneIf s.land.perstN (fun s =>
    let cold : Bool := s.host.d3hot || s.host.link = .l23
    let hold : Bool := s.sil.suspended || (cold && s.host.sleepReady && s.sil.armed && !s.sil.active)
    let t : State := { s with land.perstN := false, glb.cause := setB s.glb.cause 2 true, sil.suspended := hold }
    let t := hostReset .down t
    if cold then raise 0x030A 2 4 0 { t with host.d3cold := true } else t) s

/-- PE_PERST_N_RISE (R107). -/
def execPePerstNRise (s : State) : Host.Outcome State Fault Refusal :=
  doneIf (!s.land.perstN) (fun s => hostBoot { s with land.perstN := true }) s

/-- FLR (R114): the reach of PE_PERST_N; the link stays (log 9), and out of D3hot it is in L0 with the function in D0 (R137, R144, R153). -/
def execFlr (s : State) : Host.Outcome State Fault Refusal :=
  if s.cfgSeen && !s.host.ready then .next { s with resp := .crs } else
  doneIf s.cfgUp (fun s =>
    let t := hostBoot (hostReset (if s.host.d3hot then .l0 else s.host.link) s)
    if s.host.d3hot then unsuspend (backInD0 t) else t) s

/-- REFERENCE_CLOCK_CHANGE (R80). -/
def execReferenceClockChange (present : Bool) (s : State) : Host.Outcome State Fault Refusal :=
  doneIf (s.clk.refclk != present) (fun s =>
    let t : State := { s with clk.refclk := present }
    if present then hostBoot { t with clk.good := if s.glb.step.val < 3 then t.clk.good else t.clk.good ||| 0x060#11 }
    else
      let t := clockBad 5 (clockBad 6 t)
      if t.isl 0 = .off then t else hostReset .down t) s

end Sys2Proof.Machine
end

