-- ==== Sys2Proof/Machine/RegRows.lean ====
section
/-! DEFINITION. The register rows (05, 17): writes and reads that have an effect, refused accesses (R18, R118, R120, R123, R147,
R454, R461, R495 to R498). -/

namespace Sys2Proof.Machine

/-- A discarded write while RUN is set (R123, R496). -/
def writeIgnored (off : Nat) (s : State) : State := raise 0x0308 2 (w24 off) 0 s

/-- A read of an RS register: its value answered, its side effect done once (R497). -/
def rsRead (off : Nat) (f : State → State) (s : State) : State := f { s with resp := .sc (s.regRead off) }

/-- The side effect of a read of HST_WAKE_CAUSE: the snapshot of R147. -/
def snapWake (s : State) : State := { s with keep.since := 0 }
/-- Of HST_DMA_ERR: both counts clear. -/
def clearDma (s : State) : State := { s with host.dmaErrRead := 0, host.dmaErrWrite := 0 }
/-- Of SUP_VBUS_MIN: it takes the present VBUS. -/
def reloadMin (s : State) : State := { s with sup.vbusMin := s.sup.vbus }
/-- Of SUP_LATCH: the bits returned clear. -/
def clearSup (s : State) : State := { s with sup.latch := 0 }
/-- Of CLK_LATCH: the bits returned clear; a clock that is still bad sets its bit again. -/
def clearClk (s : State) : State := { s with clk.latch := s.clk.latch &&& ~~~ s.clk.good }
/-- Of LOG_CRIT: the bits returned clear. -/
def clearCrit (s : State) : State := { s with log.crit := 0 }

/-- The side effect of a read of a register, none for most (Table 17-2). -/
def readEffect (off : Nat) (s : State) : State :=
  if off = 0x0468 then snapWake s else if off = 0x0484 then clearDma s else if off = 0x081C then reloadMin s else if off = 0x0820 then clearSup s
  else if off = 0x0C04 then clearClk s else if off = 0x6028 then clearCrit s else if off = 0x602C then flush s else s

/-- HST_WAKE_CAUSE read (R147). -/
def execHstWakeCauseRead (s : State) : Host.Outcome State Fault Refusal := doneIf s.barUp (rsRead 0x0468 snapWake) s
/-- HST_WAKE_CAUSE written (R147): a bit clears only where its cause has not occurred since the snapshot. -/
def execHstWakeCauseWrite (value : W32) (s : State) : Host.Outcome State Fault Refusal :=
  doneIf s.barUp (fun s => { s with keep.cause := s.keep.cause &&& ~~~ (value.extractLsb' 0 6 &&& ~~~ s.keep.since) }) s
/-- HST_DMA_ERR read (R150). -/
def execHstDmaErr (s : State) : Host.Outcome State Fault Refusal := doneIf s.barUp (rsRead 0x0484 clearDma) s
/-- SUP_VBUS_MIN read (R75). -/
def execSupVbusMin (s : State) : Host.Outcome State Fault Refusal := doneIf s.barUp (rsRead 0x081C reloadMin) s
/-- SUP_LATCH read (R75). -/
def execSupLatch (s : State) : Host.Outcome State Fault Refusal := doneIf s.barUp (rsRead 0x0820 clearSup) s
/-- CLK_LATCH read (R111). -/
def execClkLatch (s : State) : Host.Outcome State Fault Refusal := doneIf s.barUp (rsRead 0x0C04 clearClk) s
/-- LOG_CRIT read (R450, R461). -/
def execLogCrit (s : State) : Host.Outcome State Fault Refusal := doneIf s.barUp (rsRead 0x6028 clearCrit) s
/-- LOG_FLUSH read (R443, R461): the number of staged records, and a flush. -/
def execLogFlush (s : State) : Host.Outcome State Fault Refusal := doneIf s.barUp (rsRead 0x602C flush) s

/-- GLB_CAUSE written (R18, R91): while RUN is clear, each 1 clears its bit. -/
def execGlbCause (value : W32) (s : State) : Host.Outcome State Fault Refusal :=
  doneIf s.barUp (fun s => if s.host.run then writeIgnored 0x0004 s else { s with glb.cause := s.glb.cause &&& ~~~ arg24 value }) s
/-- PRM_ID written (R222, R498). -/
def execPrmId (value : W32) (s : State) : Host.Outcome State Fault Refusal := doneIf s.barUp (fun s => { s with prm.prmId := value.extractLsb' 0 16 }) s
/-- LOG_CURSOR written (R454, R461). -/
def execLogCursor (value : W32) (s : State) : Host.Outcome State Fault Refusal :=
  doneIf s.barUp (fun s => { s with log.cursor := arg24 value, log.winGen := s.log.winGen + 1 }) s
/-- LOG_WIN_CTL written (R454, R461). -/
def execLogWinCtl (value : W32) (s : State) : Host.Outcome State Fault Refusal :=
  doneIf s.barUp (fun s => { s with log.seqMode := value.getLsbD 0, log.winGen := s.log.winGen + 1 }) s
/-- HST_JRN_CURSOR written (R217). -/
def execHstJrnCursor (value : W32) (s : State) : Host.Outcome State Fault Refusal := doneIf s.barUp (fun s => { s with host.jrnCursor := arg24 value }) s

/-- One third of an address replaced (R150). -/
def setPart (a : BitVec 64) (k : Nat) (v : W24) : BitVec 64 :=
  if k = 0 then a.extractLsb' 24 40 ++ v else if k = 1 then a.extractLsb' 48 16 ++ v ++ a.extractLsb' 0 24 else v.extractLsb' 0 16 ++ a.extractLsb' 0 48

/-- An RW set-up register of the HST_ block by dword index (Table 5-12, R498). Other registers take no write (R496). -/
def setupWrite (k : Nat) (v : W24) (s : State) : State :=
  let h := s.host
  if 2 ≤ k && k < 17 then
    let i := (k - 2) / 3
    let p := (k - 2) % 3
    if i = 0 then { s with host.cmdBase := setPart h.cmdBase p v } else if i = 1 then { s with host.cplBase := setPart h.cplBase p v }
    else if i = 2 then { s with host.evtBase := setPart h.evtBase p v } else if i = 3 then { s with host.dbAddr := setPart h.dbAddr p v }
    else { s with host.mirAddr := setPart h.mirAddr p v }
  else match k with
  | 17 => { s with host.ringSize := v.extractLsb' 0 12 }
  | 18 => { s with host.pollFast := v }
  | 19 => { s with host.pollIdle := v }
  | 20 => { s with host.pollHold := v }
  | 21 => { s with host.silTmo := some v }
  | 22 => { s with host.silAct := some v }
  | 23 => { s with host.vecMap := v }
  | 24 => { s with host.irqMod := v }
  | 25 => { s with keep.wakeEn := v.extractLsb' 0 6 }
  | _ => s

/-- A write to the MSI-X table (R117, R118): one dword of one entry; a vector that it unmasks is sent where pending. -/
def msixWrite (off : Nat) (v : W32) (s : State) : State :=
  flushPba { s with host.msix := vmap s.host.msix ((off - 0xF000) / 16) {} (fun e =>
    match off % 16 / 4 with
    | 0 => { e with addrLo := v }
    | 1 => { e with addrHi := v }
    | 2 => { e with data := v }
    | _ => { e with masked := v.getLsbD 0 }) }

/-- The offsets that have rows of their own. -/
def rowOffsets : List Nat := [0x0004, 0x0400, 0x0468, 0x047C, 0x601C, 0x6020, 0x8000]

/-- REGISTER_WRITE (R8, R123, R496, R498): any other BAR0 register. Offsets with a row of their own are left to it. -/
def execRegisterWrite (off : Nat) (value : W32) (s : State) : Host.Outcome State Fault Refusal :=
  doneIf (s.barUp && off % 4 = 0 && !rowOffsets.contains off) (fun s =>
    if 0xF000 ≤ off && off < 0xF080 then msixWrite off value s
    else if !isReg off then s
    else if s.host.run then writeIgnored off s
    else if 0x0400 ≤ off && off < 0x0800 then setupWrite ((off - 0x0400) / 4) (arg24 value) s else s) s

/-- The MSI-X table and PBA, whose accesses follow the MSI-X rules instead (R118). -/
def inMsix (off : Nat) : Bool := (0xF000 ≤ off && off < 0xF080) || (0xF800 ≤ off && off < 0xF808)

/-- HOST_BAD_ACCESS (R118): a BAR0 request outside the MSI-X table and PBA that is not one whole aligned dword. -/
def execHostBadAccess (write : Bool) (off : Nat) (s : State) : Host.Outcome State Fault Refusal :=
  doneIf (s.barUp && !inMsix off) (fun s => raise 0x0309 2 (w24 off) 0 (if write then s else { s with resp := .ur })) s

/-- The windows of Table 5-3: first and end offsets. -/
def windows2 : List (Nat × Nat) := [(0x0000, 0x0100), (0x1000, 0x1100), (0x2000, 0x2400)]

/-- A BAR2 read that R120 refuses: too long, or touching a window without lying inside it. -/
def bar2Bad (off dwords : Nat) : Bool :=
  let last := off + 4 * dwords
  64 < dwords || windows2.any (fun w => off < w.2 && w.1 < last && !(w.1 ≤ off && last ≤ w.2))

/-- BAR2_BAD_READ (R120). -/
def execBar2BadRead (off dwords : Nat) (s : State) : Host.Outcome State Fault Refusal :=
  doneIf (s.barUp && off % 4 = 0 && bar2Bad off dwords) (fun s => raise 0x0309 2 (w24 off) 2 { s with resp := .ur }) s

end Sys2Proof.Machine
end

