-- ==== Sys2Proof/Machine/Supply.lean ====
section
/-! DEFINITION. Supply and heat (03): the shedding ladder, over-voltage, F24 and the Husk die's supply, the auxiliary outputs,
die temperatures and the thermistor. -/

namespace Sys2Proof.Machine

/-! ### The ladder (R56 to R63) -/

/-- The threshold of a level, mV: parameters for L1 to L4, fixed for L5 (R58). -/
def State.levelMv (s : State) (k : Nat) : Nat := if k = 5 then 18000 else s.pn (0x1FF + k)

/-- VBUS as measured (R75), and whether the recovery timer runs (R59). -/
def noteVbus (v : W24) (s : State) : State :=
  { s with
    sup.vbus := v
    sup.vbusMin := if v < s.sup.vbusMin then v else s.sup.vbusMin
    sup.lowest := if v < s.sup.lowest then v else s.sup.lowest
    sup.recovering := s.sup.level = 1 && s.pn 0x0204 ≤ v.toNat }

/-- L1: the grinder coasts, no new trip starts, an activation before its safe point is abandoned (Table 3-2, R366, R479). -/
def actL1 (s : State) : State :=
  let t := grindCoastCause .shed 0 s
  abandonAct 1 .shed (if t.lift.st = .dispatch then liftAbandon t else t)

/-- L2 at a door: its motion stops; an OPEN one stays open, its hold-open time over, and closes at the first decision once the level is
back at L0 (R383). -/
def doorShed (k : Nat) (s : State) : State :=
  if s.drEn k && (s.dr k).st = .opened then drMod k (fun x => { x with closeDue := true }) s else doorHalt k .shed 0 s

/-- L2: trips, doors and axes stop, every enabled stage drops to its hold current, staging ends (Table 3-2, R366, R383, R474). -/
def actL2 (s : State) : State :=
  let t := (List.range 2).foldl (fun u k => doorShed k u) (liftAbandon s)
  let t := (List.range 5).foldl (fun u a => axStop true a .shed 0 u) t
  let t := (List.range 5).foldl (fun u a => axMod a (fun x => { x with hold := x.hold || x.stage }) u) t
  shedStage t

/-- L3: the brake set, every stage disabled, retention saved, the field outputs safe, the transaction rolled back, the
recorder flushed (Table 3-2, R72, R206, R366, R428). -/
def actL3 (v : W24) (s : State) : State :=
  let car : Bool := s.liftEn && (s.axis 0).moves
  let t := if s.liftEn then brakeSet false s else s
  let t := (List.range 5).foldl (fun u a => axDisable a .shed 0 u) t
  let t : State := { t with mot.nv := t.keep.ret }
  let t := if !t.liftEn then t else if car then liftFaultEnd (liftFault 6 t) else holdCause 6 t
  let t := attention 1 (txnShed (endField true 0xFFFFFF .interlock 0 t))
  let n := t.log.staged.length
  mirrorNowSent (markClean (raise 0x0203 5 v (w24 n) (flush t)))

/-- L5: the full reset is held; SHED_L5 and its wake cause are written at the next start (R56, R76, R88). -/
def actL5 (s : State) : State :=
  let t := fullReset 1 0x20 false s
  wake 3 (raise 0x0205 5 0 0 { t with sup.level := 5, glb.held := setB t.glb.held 1 true })

/-- One level entered: its state, its record, wake cause 3, its actions and interrupt source 3 (R56, R75, R76, R146). At L3 the wake
cause comes before the flush that leaves the memory clean (R72). -/
def enterLevel (v : W24) (s : State) (j : Fin 6) : State :=
  let t : State := { s with
    sup.level := j, sup.deepest := max s.sup.deepest j, sup.recovering := false
    sup.latch := if 1 ≤ j.val && j.val ≤ 4 then setB s.sup.latch (j.val - 1) true else s.sup.latch }
  sendIrq 3 (match j with
    | 1 => actL1 (wake 3 (raise 0x0201 3 v 0 t))
    | 2 => actL2 (wake 3 (raise 0x0202 4 v 0 t))
    | 3 => actL3 v (wake 3 t)
    | 4 => wake 3 (raise 0x0204 5 v 0 t)
    | 5 => actL5 t
    | _ => t)

/-- Every level crossed entered in ladder order (R57). -/
def shedTo (k : Fin 6) (v : W24) (s : State) : State :=
  (([1, 2, 3, 4, 5] : List (Fin 6)).filter (fun j => s.sup.level < j && j ≤ k)).foldl (enterLevel v) (noteVbus v s)

/-- VBUS falls below a level's threshold: from step 7 on (R56, R99). -/
def shed (k : Fin 6) (v : W24) (s : State) : Host.Outcome State Fault Refusal :=
  doneIf (s.started && s.sup.level < k && v.toNat < s.levelMv k.val) (shedTo k v) s

/-- SHED_L1 (R56). -/
def execShedL1 (v : W24) (s : State) : Host.Outcome State Fault Refusal := shed 1 v s
/-- SHED_L2 (R56). -/
def execShedL2 (v : W24) (s : State) : Host.Outcome State Fault Refusal := shed 2 v s
/-- SHED_L3 (R56). -/
def execShedL3 (v : W24) (s : State) : Host.Outcome State Fault Refusal := shed 3 v s
/-- SHED_L4 (R56). -/
def execShedL4 (v : W24) (s : State) : Host.Outcome State Fault Refusal := shed 4 v s
/-- SHED_L5 (R56): the full reset is held. -/
def execShedL5 (v : W24) (s : State) : Host.Outcome State Fault Refusal := shed 5 v s

/-- SHED_STEP_UP (R59 to R61): one level back, down to L1; leaving L5 ends the hold of the reset, and at L3 HOST has its DMA back. -/
def execShedStepUp (v : W24) (s : State) : Host.Outcome State Fault Refusal :=
  doneRIf (2 ≤ s.sup.level.val && s.levelMv s.sup.level.val + 1000 ≤ v.toNat) (fun s =>
    let j := s.sup.level.val
    let t : State := { s with sup.level := Fin.ofNat 6 (j - 1), glb.held := if j = 5 then setB s.glb.held 1 false else s.glb.held }
    sendIrq 3 (dmaBack (noteVbus v t))) s

/-- SHED_RECOVER (R59, R60). -/
def execShedRecover (v : W24) (s : State) : Host.Outcome State Fault Refusal :=
  doneIf (s.started && s.sup.level = 1 && s.pn 0x0204 ≤ v.toNat) (fun s =>
    let t := noteVbus v { s with sup.level := 0 }
    (sendIrq 3 (raise 0x0206 2 (w24 s.sup.deepest.val) 0 { t with sup.deepest := 0 }))) s

/-- VBUS_OVER (R63): the L1 and L2 actions. -/
def execVbusOver (v : W24) (s : State) : Host.Outcome State Fault Refusal :=
  doneIf (s.started && !s.sup.overV && s.pn 0x0205 < v.toNat) (fun s =>
    let t := noteVbus v { s with sup.overV := true, sup.latch := setB s.sup.latch 4 true }
    sendIrq 3 (actL2 (actL1 (wake 3 (raise 0x0207 5 v 0 t))))) s

/-- OV_END (R63). -/
def execOvEnd (v : W24) (s : State) : Host.Outcome State Fault Refusal :=
  doneIf (s.sup.overV && v.toNat + 1000 < s.pn 0x0205) (fun s => sendIrq 3 (noteVbus v { s with sup.overV := false })) s

/-- VBUS_BELOW_9V (R54): whatever level was still above L5 is passed (R57), and KEEP loses its retention RAM. -/
def execVbusBelow9v (s : State) : Host.Outcome State Fault Refusal :=
  let t := if s.started then shedTo 5 s.freeWord s.tick else s
  done { t with keep := {} }

/-- VBUS_NOT_GOOD (R99): the start stops, in its wait for the crystal too, and begins again at step 1 with the next COLD_START. -/
def execVbusNotGood (s : State) : Host.Outcome State Fault Refusal :=
  doneIf (2 ≤ s.glb.step.val && s.glb.step.val < 7 && s.glb.held = 0#3) (fun s =>
    let t := fullReset 1 0 false s
    { t with glb.resetCount := s.glb.resetCount }) s

/-! ### F24 and the Husk's supply (R52, R53)

F24 is judged from the frames: while no H-frame arrives, nothing of it is known on the Grain (log 103). -/

/-- F24 as the Husk reports it. -/
def noteF24 (mv : W24) (s : State) : State := { s with husk.f24 := mv, sup.f24 := if s.awn.stale then s.sup.f24 else mv }

/-- F24_LOW (R52). -/
def execF24Low (mv : W24) (s : State) : Host.Outcome State Fault Refusal :=
  doneIf (s.husk.alive && s.awn.hears && s.sup.f24State = 0 && mv.toNat < s.pn 0x0210) (fun s =>
    raise 0x0210 4 mv 0 (noteF24 mv { s with sup.f24State := 1, sup.latch := setB s.sup.latch 5 true })) s

/-- F24_GOOD (R52). -/
def execF24Good (mv : W24) (s : State) : Host.Outcome State Fault Refusal :=
  doneIf (s.husk.alive && s.awn.hears && s.sup.f24State = 1 && s.pn 0x0210 ≤ mv.toNat) (fun s =>
    raise 0x0212 2 mv 0 (noteF24 mv { s with sup.f24State := 0 })) s

/-- The Husk die without its supply: every output off, nothing sent; it starts anew when it resumes. -/
def huskDown (s : State) : State :=
  { s with husk := { alive := false, f24 := s.husk.f24, temp := s.husk.temp, hot := s.husk.hot, news := [.restart 0] }, awn.hAir := none, awn.hNews := [] }

/-- F24_UVLO (R53): the Husk die switches every output off and sends nothing; LINK, which heard it until now, finds its frames gone. -/
def execF24Uvlo (s : State) : Host.Outcome State Fault Refusal :=
  doneIf s.husk.alive (fun s =>
    if !s.awn.hears then huskDown s
    else unheard (raise 0x0211 5 0 0 (huskDown { s with sup.f24State := 2, sup.latch := setB s.sup.latch 6 true }))) s

/-- HUSK_RESUME (R53): the die starts anew, its outputs off until it is configured; LINK finds the restart in its frames (R262). -/
def execHuskResume (mv : W24) (s : State) : Host.Outcome State Fault Refusal :=
  doneIf (!s.husk.alive && 19200 ≤ mv.toNat) (fun s =>
    { s with husk := { alive := true, f24 := mv, temp := s.husk.temp, hot := s.husk.hot, news := s.husk.news, lastValid := s.now } }) s

/-! ### Auxiliary outputs (R55) -/

/-- AUX5_OVERLOAD (R55): AUX5 has limited its current for 10 ms and is switched off; logged once for each episode. Whether an output
that is on limits its current is measured each millisecond (`measure`, log 68). -/
def execAux5Overload (s : State) : Host.Outcome State Fault Refusal :=
  doneIf s.sup.aux5On (fun s =>
    let t : State := { s with sup.aux5On := false, sup.aux5Bad := true, sup.aux5Logged := true, sup.latch := setB s.sup.latch 7 true }
    if s.sup.aux5Logged then t else raise 0x0220 4 0 0 t) s

/-- AUX3V3_OVERLOAD (R55): the same for AUX3V3. -/
def execAux3v3Overload (s : State) : Host.Outcome State Fault Refusal :=
  doneIf s.sup.aux3On (fun s =>
    let t : State := { s with sup.aux3On := false, sup.aux3Bad := true, sup.aux3Logged := true, sup.latch := setB s.sup.latch 8 true }
    if s.sup.aux3Logged then t else raise 0x0221 4 0 0 t) s

/-- AUX_RETRY (R55): the output on again; the episode ends where it is no longer limited. -/
def execAuxRetry (is5 limited : Bool) (s : State) : Host.Outcome State Fault Refusal :=
  doneIf (if is5 then !s.sup.aux5On else !s.sup.aux3On) (fun s =>
    if is5 then { s with sup.aux5On := true, sup.aux5Bad := limited, sup.aux5Logged := s.sup.aux5Logged && limited }
    else { s with sup.aux3On := true, sup.aux3Bad := limited, sup.aux3Logged := s.sup.aux3Logged && limited }) s

/-! ### Die temperatures (R68, R69) -/

/-- The junction of a Grain-side die as KEEP reads it, 1/16 °C. -/
def noteTemp (die : Die) (t : W24) (s : State) : State := { s with sup.temp := s.sup.temp.setIfInBounds (dieNum die) t }

/-- A die's prewarn begins: its status bit, the record and the forced flush, once (R68). -/
def beginPrewarn (die : Die) (t : W24) (s : State) : State :=
  flush (raise 0x0230 5 (w24 (dieNum die)) t
    (noteTemp die t { s with sup.prewarn := setB s.sup.prewarn (dieNum die) true, sup.latch := setB s.sup.latch 9 true }))

/-- A die's prewarn ends. -/
def endPrewarn (die : Die) (t : W24) (s : State) : State := noteTemp die t { s with sup.prewarn := setB s.sup.prewarn (dieNum die) false }

/-- TEMP_PREWARN (R68): from 135 °C on. The Husk reports its junction in its frames. -/
def execTempPrewarn (die : Die) (t : W24) (s : State) : Host.Outcome State Fault Refusal := match die with
  | .husk => doneIf (s.husk.alive && 2160 ≤ t.int) (fun s => { s with husk.temp := t }) s
  | d => doneIf (2160 ≤ t.int && !s.sup.prewarn.getLsbD (dieNum d)) (beginPrewarn d t) s

/-- PREWARN_END (R68): below 130 °C. -/
def execPrewarnEnd (die : Die) (t : W24) (s : State) : Host.Outcome State Fault Refusal := match die with
  | .husk => doneIf (s.husk.alive && t.int < 2080) (fun s => { s with husk.temp := t }) s
  | d => doneIf (t.int < 2080 && s.sup.prewarn.getLsbD (dieNum d)) (endPrewarn d t) s

/-- A die marked as in shutdown. -/
def shutDie (die : Die) (t : W24) (s : State) : State :=
  noteTemp die t { s with sup.shutdown := setB s.sup.shutdown (dieNum die) true, sup.latch := setB s.sup.latch 10 true }

/-- What the Grain makes of the junction and the shutdown flag of the Husk's latest valid frame: its prewarn, its shutdown with the
guard's stop, its restart (R68, R69, Tables 3-5 and 10-5). -/
def followHusk (s : State) : State :=
  let t := vget s.sup.temp 2 0x800000
  let s := if 2160 ≤ t.int && !s.sup.prewarn.getLsbD 2 then beginPrewarn .husk t s
    else if t.int < 2080 && s.sup.prewarn.getLsbD 2 then endPrewarn .husk t s else s
  if s.awn.huskHot && !s.sup.shutdown.getLsbD 2 then
    let u := shutDie .husk t s
    raise 0x0231 6 2 t (if u.guardUp then guardStop 19 u else u)
  else if !s.awn.huskHot && s.sup.shutdown.getLsbD 2 then raise 0x0232 3 2 t { s with sup.shutdown := setB s.sup.shutdown 2 false }
  else s

/-- The Grain die in shutdown (R69 to R71, R93): the guard's TRIP with cause 10 latches its wake cause; then every island but
KEEP is held in reset. Its records are written at the restart (R76, log 67). -/
def grainShutdown (t : W24) (s : State) : State :=
  let c := setB s.keep.cause 0 true
  let en := s.keep.wakeEn
  let u := fullReset 4 0x50 true { s with keep.cause := c, keep.since := setB s.keep.since 0 true }
  let u := noteTemp .grain t ({ u with glb.held := setB u.glb.held 2 true }.setIsl 7 .run)
  raise 0x0231 6 0 t (raise 0x030B 3 (c.zeroExtend 24) (en.zeroExtend 24) (raise 0x3801 4 3 10 u))

/-- TEMP_SHUTDOWN (R68, Table 3-5): from 155 °C on. The Husk switches every output off and reports its flag. -/
def execTempShutdown (die : Die) (t : W24) (s : State) : Host.Outcome State Fault Refusal :=
  match die with
  | .grain => doneIf (2480 ≤ t.int && !s.glb.held.getLsbD 2) (grainShutdown t) s
  | .spindle => doneIf (2480 ≤ t.int && !s.sup.shutdown.getLsbD 1) (fun s =>
      let u := shutDie .spindle t s
      raise 0x0231 6 1 t (if s.guardUp then guardTrip 7 u else u)) s
  | .husk => doneIf (s.husk.alive && 2480 ≤ t.int && !s.husk.hot) (fun s => outOff (BitVec.allOnes 24) { s with husk.hot := true, husk.temp := t }) s

/-! ### The thermistor (R73, R514) -/

/-- NTC_OVER reported: the latch, the record, and a flush where SUP_NTC_ACT asks for one. -/
def reportNtc (w : W24) (s : State) : State :=
  let t := raise 0x0233 4 w 0 { s with sup.latch := setB s.sup.latch 11 true }
  if s.pb 0x021C then flush t else t

/-- NTC_MEASURE (R73, R514): `ohm` none is open; 20 Ω to 30 kΩ can be measured. -/
def execNtcMeasure (ohm : Option Nat) (s : State) : Host.Outcome State Fault Refusal :=
  doneIf (s.isl 7 = .run) (fun s =>
    if !s.pb 0x0218 then { s with sup.tempNtc := 0x800000, sup.ntcOver := false, sup.ntcBadSent := false }
    else
      let bad (u : State) : State :=
        let t : State := { u with sup.tempNtc := 0x800000, sup.ntcOver := false, sup.ntcBadSent := true }
        if u.sup.ntcBadSent then t else reportNtc 0xFFFFFF t
      match ohm with
      | none => bad s
      | some r =>
        if r < 20 || 30000 < r then bad s
        else
          let c := Config.ntcTenths r (s.pn 0x0219) (s.pn 0x021A)
          let w := s.pz 0x021B
          let t : State := { s with sup.tempNtc := Config.ntcSixteenths r (s.pn 0x0219) (s.pn 0x021A), sup.ntcBadSent := false }
          if s.sup.ntcOver then (if c ≤ w - 50 then { t with sup.ntcOver := false } else t)
          else if w < c then reportNtc (w24i c) { t with sup.ntcOver := true }
          else t) s

end Sys2Proof.Machine
end

