-- ==== Sys2Proof/Machine/Start.lean ====
section
/-! DEFINITION. Power-on, RESET_N, and the cold start (04): the guard's step 3, the mounting of the ferroelectric memory (15, 07,
09, 17), the boot of the islands, the restored axes, and step 7. -/

namespace Sys2Proof.Machine

/-! ### Steps 1 to 3 -/

/-- A strap bit as sampled: an open TW_ADR land samples a free value (R47). -/
def strapBit (l : Option Bool) (free : Bool) : Bool := l.getD free

/-- The straps sampled (R45 to R47). -/
def sampleStraps (c : StartIn) (s : State) : State :=
  let f (k : Nat) : Bool := Config.freeBit (s.free + k)
  let adr := BitVec.ofBool (strapBit c.adr2 (f 2)) ++ BitVec.ofBool (strapBit c.adr1 (f 1)) ++ BitVec.ofBool (strapBit c.adr0 (f 0))
  { s with glb.bootSel := c.bootSel, glb.twAdr := adr, free := s.free + 3 }

/-- A free value between two bounds. -/
def bounded (lo hi : Nat) (w : W24) : W24 := w24 (lo + w.toNat % (hi - lo + 1))

/-- The frequencies that GUARD measures against the crystal (R111): free values within the tolerances of Table 4-1. -/
def measureClocks (s : State) : State :=
  { s with
    clk.guardKhz := bounded 23520 24480 (Config.freeWord s.free), clk.logKhz := bounded 31360 32640 (Config.freeWord (s.free + 1))
    clk.keepChz := bounded 3178496 3375104 (Config.freeWord (s.free + 2)), free := s.free + 3 }

/-- The clocks found good at step 3, and the latch of those that are not (R111). FIELD's is judged from the frames. -/
def clocksUp (s : State) : State :=
  let g := 0x39F#11 ||| (if s.clk.refclk then 0x060#11 else 0)
  measureClocks { s with clk.good := g, clk.latch := s.clk.latch ||| ~~~ g }

/-- Step 3 (R96, R101, Table 10-5 cause 20): GUARD starts in SAFE_STOP; KEEP runs. An ESTOP channel that is low trips it (R44, R323). -/
def startGuard (s : State) : State :=
  let t := enterGuard .safeStop 20 (clocksUp ({ s with glb.step := 3 }.setIsl 4 .run |>.setIsl 7 .run))
  if t.grd.estopA && t.grd.estopB then t else guardTrip 1 (raise 0x3802 6 (w24 (bit (!t.grd.estopA) + 2 * bit (!t.grd.estopB))) 0 t)

/-! ### Step 4: the ferroelectric memory -/

/-- The highest sequence stored. -/
def highSeq (l : List (Nat × Rec)) : Nat := l.foldl (fun m p => max m p.2.seq) 0

/-- The recorder mounted (R438, R448, R459, R460): the next sequence, full buckets, an interrupted clear completed,
LOG_MOUNTED. -/
def mountLog (s : State) : State :=
  let h := max s.log.reserve (max (highSeq s.log.keep) (highSeq s.log.roll))
  let h := match s.log.marker with
    | none => h
    | some c => max h c.reserved
  let t := { s with log.head := h, log.mounted := true, log.tokens := Vector.ofFn (fun (k : Fin 16) => s.burst k.val) }.setIsl 5 .run
  let t := match t.log.marker with
    | none => t
    | some c => clearRegions c 1 t
  raise 0x4803 2 (w24 (t.log.keep.length + t.log.roll.length)) 0 t

/-- A LOST record, which is log critical (Table 15-4); SUP_LOST holds its count (R71). -/
def lostRecord (n cause : W24) (s : State) : State := setCrit 4 (lateRec 0x0240 6 n cause { s with sup.lost := n })

/-- The staged records that the last reset lost (R71, R72): their count is then invalid. -/
def reportLost (wasClean : Bool) (s : State) : State :=
  let t := match s.keep.lostCount with
    | some 0 => s
    | some n => lostRecord (sat24 n) (if s.keep.lostThermal then 1 else 3) s
    | none => if wasClean then s else lostRecord 0xFFFFFF 2 s
  { t with keep.lostCount := none, keep.lostThermal := false }

/-- The committed image (R103, R104, R208). -/
def loadImage (s : State) : State :=
  let a := s.prm.bankA
  let b := s.prm.bankB
  let takeB : Bool := b.valid && (!a.valid || a.epoch < b.epoch)
  let k := if takeB then b else a
  if !a.valid && !b.valid then
    raise 0x0107 6 0 0 { s with glb.defaults := true, glb.bankB := false, prm.committed := [], prm.epoch := 0, prm.live := [], prm.due := [] }
  else
    let t : State := { s with glb.defaults := false, glb.bankB := takeB, prm.committed := k.vals, prm.epoch := k.epoch, prm.live := [], prm.due := [] }
    if a.valid && b.valid then t else raise 0x0106 4 (w24 (bit a.valid)) 0 { t with glb.bankBad := true }

/-- The microstep tables (R294): for each bank the valid copy with the highest epoch not above the image's. -/
def loadTables (s : State) : State := (List.range 10).foldl (fun t k =>
  let a := k / 2
  let b : Bool := k % 2 = 1
  let c := (((List.range 2).map (fun j => vget t.prm.tblNv (2 * k + j) {})).filter (fun c => c.valid && c.epoch ≤ t.prm.epoch)).foldl
    (fun (m : Option TblCopy) c => match m with
      | none => some c
      | some x => if x.epoch < c.epoch then some c else some x) none
  let l := match c with
    | none => []
    | some x => x.entries
  let u : State := if b then { t with prm.tblB := vset t.prm.tblB a l } else { t with prm.tblA := vset t.prm.tblA a l }
  if c.isSome then u else raise (axCode 0x10D0 a) 4 (w24 (bit b)) 0 u) s

/-- The identity content (R507, R508): the valid copy with the highest epoch not above the image's, whatever it is under
DEFAULTS. -/
def loadIdent (s : State) : State :=
  let c := (s.prm.identNv.toList.filter (fun c => c.1 && (s.glb.defaults || c.2.1 ≤ s.prm.epoch))).foldl
    (fun (m : Option (Bool × Nat × Ident)) c => match m with
      | none => some c
      | some x => if x.2.1 < c.2.1 then some c else some x) none
  let t : State := { s with prm.ident := match c with
    | none => {}
    | some x => x.2.2 }
  { t with host.ids := t.idsNow }

/-- The journal completed (R216): each command without its outcome gets one; JRN_REPAIRED for each. -/
def repairJournal (s : State) : State :=
  let done_ (q : Nat) : Bool := s.jrn.entries.any (fun e => match e.body with
    | .outcome c _ _ _ => c = q
    | .command .. => false)
  let id := if s.glb.defaults then 0 else if s.glb.bankB then s.prm.bankB.txn else s.prm.bankA.txn
  let open_ := s.jrn.entries.reverse.filter (fun e => (e.status = .queued || e.status = .deferred) && (match e.body with
    | .command .. => true
    | .outcome .. => false) && !done_ e.seq)
  open_.foldl (fun t e =>
    let ok : Bool := e.txn = id && e.txn != 0#16
    let st : Status := if e.op != 0x11#8 then .internal else if ok then .ok else .txnRolledBack
    let body : JBody := if e.op != 0x11#8 then .outcome e.seq 0 2 0 else if ok then .outcome e.seq (lo24 s.prm.epoch) 0 0 else .outcome e.seq 0 15 7
    raise 0x0406 4 (w24 e.seq) (st.code.zeroExtend 24) (journal e.op e.flags e.tag e.txn true st body t)) s

/-- The events raised before LOG ran, written with the flag of a late record (R76, Table 15-2 bit 0, log 67); SHED_L5 takes the lowest
VBUS seen. -/
def lateRecords (s : State) : State :=
  let t : State := { s with keep.late := [], sup.lowest := 0xFFFFFF }
  s.keep.late.foldl (fun u l => flushOn l.sev u (stage l.code l.sev l.isl 1 (if l.code = 0x0205 then s.sup.lowest else l.w0) l.w1 0 0 u).2) t

/-- Step 4 (R96). -/
def startMount (s : State) : State :=
  let clean := s.log.clean
  let t := reportLost clean (mountLog s)
  let t := repairJournal (loadIdent (loadTables (loadImage t)))
  let t := lateRecords t
  let t : State := { t with log.tokens := Vector.ofFn (fun (k : Fin 16) => if s.burst k.val = t.burst k.val then vget t.log.tokens k.val 0 else t.burst k.val) }
  grindEnable { t with glb.step := 4, glb.retValid := t.keep.valid, grd.copyB := t.latticeCopy }

/-! ### Steps 5 and 6 -/

/-- The retained record of an axis that a start takes (R105), and whether it is the ferroelectric copy. -/
def State.retainedRecord (s : State) (a : Nat) : Option (Retained × Bool) :=
  if s.keep.valid then (vget s.keep.ret a none).map (fun r => (r, false))
  else if s.encOn a then (vget s.mot.nv a none).map (fun r => (r, true)) else none

/-- A retained record passes the checks of R105. -/
def State.retainedOk (s : State) (a : Nat) (r : Retained) : Bool := r.crcOk && r.bankB = s.pb (axP a 0x13) && r.ratio = s.pv (axP a 0x19)

/-- An axis restored: position, index and count as retained; it stays unpowered (R105, R106, R314). -/
def restoreAxis (a : Nat) (r : Retained) (fromNv : Bool) (s : State) : State :=
  let p := r.pos.int
  let q := BitVec.ofInt 10 p
  let t := axMod a (fun x => { x with x := p * xUnit, k := if s.pb (axP a 0x05) then r.index + q else r.index - q, enc := r.enc, homed := true, retained := some r, fromRam := !fromNv, st := .off }) s
  { t with glb.restored := setB t.glb.restored a true, glb.awaiting := setB t.glb.awaiting a (s.encOn a) }

/-- MOTION's restoration (R105): RETAIN_RESTORED for each source, RETAIN_INVALID for the records that fail. From here on the retention RAM
counts as valid again, whatever it holds (DESIGN CHOICE, log 91). -/
def restoreAxes (s : State) : State :=
  let recs := (List.range 5).filterMap (fun a => (s.retainedRecord a).map (fun r => (a, r.1, r.2)))
  let good := recs.filter (fun p => s.retainedOk p.1 p.2.1)
  let mask (l : List (Nat × Retained × Bool)) : W24 := w24 (l.foldl (fun n p => n + 2 ^ p.1) 0)
  let ram := good.filter (fun p => !p.2.2)
  let nv := good.filter (fun p => p.2.2)
  let bad := recs.filter (fun p => !s.retainedOk p.1 p.2.1)
  let t := good.foldl (fun u p => restoreAxis p.1 p.2.1 p.2.2 u) s
  let t := if ram.isEmpty then t else raise 0x0108 2 (mask ram) 0 t
  let t := if nv.isEmpty then t else raise 0x0108 2 (mask nv) 1 t
  let t := if bad.isEmpty then t else raise 0x0109 3 (mask bad) 0 t
  { t with keep.valid := true }

/-- An island booted and admitted, where a sound slot was found (R97, R100, R470). -/
def bootNow (k : Nat) (s : State) : State :=
  let t := bootFw k s
  if t.isl (fwIsl k) = .starting then enterFw k t else t

/-- Step 5 (R96, R97): LINK starts its handshake. -/
def startLink (s : State) : State := { s.setIsl 6 .run with glb.step := 5 }

/-- Step 6 (R96, R97): the firmware islands boot, HOST only where it is allowed; MOTION restores and looks at the limits. -/
def startBoots (s : State) : State :=
  let t : State := { s.setIsl 1 .run with glb.step := 6 }
  let t := if t.hostAllowed then bootNow 0 t else t
  limitScan (restoreAxes (bootNow 2 (bootNow 1 t)))

/-- Step 5 ends once the handshake of R251 has completed, or 35 ms after the start's reference time (R97). -/
def linkStep (s : State) : State := if s.glb.step = 5 && (s.awn.up || s.glb.startAt + 35000 ≤ s.now) then startBoots s else s

/-- The start from step 4 to step 5 (R101). -/
def startFrom4 (s : State) : State := startLink (startMount (startGuard s))

/-- The end of step 2 (R96): the full reset ends and the straps are sampled, once, when the crystal runs (R45; whether before or after
the wait for it is open, DESIGN CHOICE, log 70). A start that did not begin with VBUS good takes its reference time here. -/
def endStep2 (c : StartIn) (s : State) : State :=
  startFrom4 (sampleStraps c { s with glb.waitCrystal := false, glb.startAt := if s.glb.resumeAt = 1 then s.glb.startAt else s.now })

/-- The start from step 2 (R96): it waits there while the crystal is bad (R85), and samples the straps after that wait (DESIGN CHOICE,
log 70). -/
def startFrom2 (c : StartIn) (s : State) : State :=
  let t : State := { s with glb.step := 2, glb.startAt := s.now, sup.level := 0 }
  if t.clk.crystal then endStep2 c t else { t with glb.waitCrystal := true }

/-! ### Rows -/

/-- POWER_ON (R54, R88, R91): VBUS rises through 9.0 V. A low RESET_N holds the reset. -/
def execPowerOn (s : State) : Host.Outcome State Fault Refusal :=
  let t := powerOnReset s
  done { t with glb.held := if s.land.resetN then 0 else 1 }

/-- COLD_START (R96): nothing holds the reset and no start has begun. -/
def execColdStart (c : StartIn) (s : State) : Host.Outcome State Fault Refusal :=
  doneIf (s.glb.held = 0#3 && s.glb.step.val = 0) (startFrom2 c) s

/-- RESET_N_FALL (R90): `tenths` is the length of the low pulse in 0.1 µs. From 1 µs to 10 µs it may or may not act: a free
value. -/
def execResetNFall (tenths : Nat) (s : State) : Host.Outcome State Fault Refusal :=
  doneIf (s.land.resetN) (fun s =>
    let acts : Bool := 100 ≤ tenths || (10 ≤ tenths && s.freeBit)
    let s := s.tick
    if !acts then s else
    let t := fullReset 2 2 false { s with land.resetN := false }
    { t with glb.held := setB t.glb.held 0 true }) s

/-- RESET_N_RISE (R90): the start resumes at step 2, or waits for VBUS good where a reset before it asks for step 1 (Table 4-2). -/
def execResetNRise (c : StartIn) (s : State) : Host.Outcome State Fault Refusal :=
  doneIf (!s.land.resetN || s.glb.held.getLsbD 0) (fun s =>
    let t : State := { s with land.resetN := true, glb.held := setB s.glb.held 0 false }
    if t.glb.held = 0#3 && t.glb.resumeAt != 1 && t.glb.step.val = 0 then startFrom2 c t else t) s

/-- CRYSTAL_LOCK (R85): the start that waits at step 2 goes on. -/
def execCrystalLock (c : StartIn) (s : State) : Host.Outcome State Fault Refusal :=
  doneIf (!s.clk.crystal) (fun s =>
    let t : State := { s with clk.crystal := true }
    if t.glb.waitCrystal then endStep2 c t else t) s

/-- The Grain die cooled (R69): TEMP_RESTART is written when LOG runs. The start goes on at step 4 with the straps kept; where a reset
beside the shutdown asks for an earlier step, COLD_START follows (Table 4-2). -/
def grainRestart (t : W24) (s : State) : State :=
  let u := raise 0x0232 3 0 t (noteTemp .grain t { s with glb.held := setB s.glb.held 2 false })
  if u.glb.held = 0#3 && u.glb.resumeAt = 4 then startFrom4 { u with glb.startAt := s.now } else u

/-- TEMP_RESTART (R69): below 130 °C. -/
def execTempRestart (die : Die) (t : W24) (s : State) : Host.Outcome State Fault Refusal :=
  match die with
  | .grain => doneIf (t.int < 2080 && s.glb.held.getLsbD 2) (grainRestart t) s
  | .spindle => doneIf (t.int < 2080 && s.sup.shutdown.getLsbD 1) (fun s =>
      raise 0x0232 3 1 t (noteTemp .spindle t { s with sup.shutdown := setB s.sup.shutdown 1 false })) s
  | .husk => doneIf (t.int < 2080 && s.husk.hot) (fun s => { s with husk.hot := false, husk.temp := t }) s

/-- Step 7 complete (R98, R110, R112): LOCKOUT, but a held trip cause keeps TRIP (R328). -/
def endStart (s : State) : State :=
  let us := sat24 (s.now - s.glb.startAt)
  let t : State := { s with glb.step := 7, glb.bootTime := us }
  let t := raise 0x0101 3 t.glb.cause us t
  if t.grd.st = .trip && t.tripHeld then setLines t else enterGuard .lockout 0 t

/-- HST_STATUS_READY (R97, R107): HOST has booted; the first time after a reset the start is complete. A HOST without a sound
slot ends the start without READY (R100). -/
def execHstStatusReady (s : State) : Host.Outcome State Fault Refusal :=
  doneIf (s.hostAllowed && s.isl 0 != .off && s.isl 0 != .restarting && !s.host.ready && (s.isl 0 != .fault || s.glb.step.val = 6)) (fun s =>
    let t := if s.isl 0 = .starting then enterFw 0 s else s
    let t : State := if t.isl 0 = .fault then t else { t with host.ready := true }
    if t.glb.step.val = 6 then endStart t else t) s

/-! ### The idle tick (log 40) -/

/-- A free value that does not contradict the rows: at least `lo`, at most `hi`. -/
def between (lo hi : Int) (w : W24) : W24 := w24i (max lo (min hi w.int))

/-- VBUS as the millisecond measurement finds it (R75): after step 7 no level and no over-voltage that has its own row is crossed. -/
def State.vbusNow (s : State) : W24 :=
  if !s.started then s.freeWord
  else between (if s.sup.level = 5 then 0 else s.levelMv (s.sup.level.val + 1)) (if s.sup.overV then 100000 else s.pn 0x0205) s.freeWord

/-- The junction of the Grain or Spindle die as measured (R68, R75): no threshold that has its own row is crossed. -/
def State.junctionNow (s : State) (k : Nat) : W24 :=
  between (if s.sup.prewarn.getLsbD k || s.sup.shutdown.getLsbD k then 2080 else -8388608)
    (if s.sup.shutdown.getLsbD k then 8388607 else if s.sup.prewarn.getLsbD k then 2479 else 2159) (Config.freeWord (s.free + 1 + k))

/-- Whether the auxiliary outputs limit their current, as a millisecond finds those that are on; an episode ends where one that is on
limits no longer (R55; when it limits is a free value, DESIGN CHOICE, log 68). -/
def auxNow (u : SupSt) (l5 l3 : Bool) : SupSt :=
  let b5 := if u.aux5On then l5 else u.aux5Bad
  let b3 := if u.aux3On then l3 else u.aux3Bad
  { u with aux5Bad := b5, aux5Logged := u.aux5Logged && (b5 || !u.aux5On), aux3Bad := b3, aux3Logged := u.aux3Logged && (b3 || !u.aux3On) }

/-- What KEEP and GUARD measure every millisecond (R55, R75, R111). -/
def measure (s : State) : State :=
  let s : State := if s.isl 7 != .run then s else
    let t := noteVbus s.vbusNow s
    let u := { t.sup with temp := (t.sup.temp.setIfInBounds 0 (s.junctionNow 0)).setIfInBounds 1 (s.junctionNow 1) }
    { t with sup := auxNow u (Config.freeBit (s.free + 3)) (Config.freeBit (s.free + 4)), free := s.free + 5 }
  if s.guardUp then measureClocks s else s

/-- The link may enter L1 by itself where ASPM allows it (R144): when it does is a free value. -/
def aspm (s : State) : State :=
  if s.host.cfg.aspmL1 && !s.host.d3hot && s.host.link = .l0 then (if s.freeBit then { s.tick with host.link := .l1 } else s.tick) else s

/-- A microsecond that passes while no command waits: measurements, the end of step 5, ASPM, and what follows from the state (DESIGN
CHOICE, log 40). -/
def execIdle (s : State) : Host.Outcome State Fault Refusal :=
  let t : State := { s with now := s.now + 1 }
  done (aspm (linkStep (if t.now % 1000 = 0 then measure t else t)))

end Sys2Proof.Machine
end

