-- ==== Sys2Proof/Machine/LinkRows.lean ====
section
/-! DEFINITION. The rows of LINK and GUARD after which the decoder may go on: G_FRAME, H_FRAME, FIELD_WRITE_JOURNAL (08) and
GUARD_PASS (10). -/

namespace Sys2Proof.Machine

/-- The FIELD_WRITE that the decoder waits for: its descriptor and record. -/
def State.blockedWrite (s : State) : Option (Desc × FieldCmd) := match s.ring.block with
  | some (.fieldWrite d id) => (s.awn.writes.find? (fun w => w.id = id)).map (fun w => (d, w))
  | _ => none

/-- LINK sends SLEEP in its last DATA frame; from then on it sends keepalives, its sleep oscillator trimmed, and the next H-frame comes
after a gap (R249, R264). -/
def linkSleep (s : State) : State :=
  if s.glb.sleep && s.awn.mode = .data then powerDone { s with awn.mode := .sleep, awn.period := 1000, awn.hunt := false, awn.exempt := true } else s

/-- G_FRAME (R246): LINK starts a frame, bits of which the wire may invert. -/
def execGFrame (f : Flight) (s : State) : Host.Outcome State Fault Refusal :=
  doneRIf (s.isl 6 = .run && s.awn.mode != .sleep) (fun s => linkSleep (sendG f.noise f.period s)) s

/-- The journaling of the blocked FIELD_WRITE once an H-frame has acknowledged every change of it (R271). -/
def ackJournal (s : State) : State := match s.blockedWrite with
  | some (d, w) => if w.acked then settleWrites (journalWrite d w.id s) else s
  | none => s

/-- What follows a frame that LINK has received: the Husk's heat, the journaling that waited, the end of step 5 (R68, R97, R271). -/
def afterH (s : State) : State := linkStep (ackJournal (followHusk s))

/-- H_FRAME (R249): LINK takes what is on the wire; `period` is the time since the frame before, in ns. -/
def execHFrame (noise : List W24) (period : Nat) (s : State) : Host.Outcome State Fault Refusal :=
  doneRIf (s.isl 6 = .run && s.awn.mode != .sleep) (fun s => afterH (receiveH noise period s)) s

/-- KEEPALIVE_RECEIVED (R264 to R266): a side in SLEEP receives a valid keepalive, `interval` µs of its clock after the one before. -/
def execKeepaliveReceived (side : Side) (interval : Nat) (s : State) : Host.Outcome State Fault Refusal := match side with
  | .grain => (match s.hKeepalive with
    | some h => doneRIf (s.isl 6 = .run && s.awn.mode = .sleep) (fun s => afterH (grainKeepalive h interval s)) s
    | none => .next s)
  | .husk => (match s.awn.gAir with
    | some a => doneIf (s.fieldUp && s.husk.mode = .sleep && s.gKind 0xA) (huskReceives a interval) s
    | none => .next s)

/-- FIELD_WRITE_JOURNAL (R271): 125 µs without the acknowledgement. -/
def execFieldWriteJournal (s : State) : Host.Outcome State Fault Refusal := match s.blockedWrite with
  | some (d, w) => doneRIf s.logUp (journalWrite d w.id) s
  | none => .next s

/-- GUARD_PASS (R335). -/
def execGuardPass (s : State) : Host.Outcome State Fault Refusal := doneRIf s.guardUp guardPass s

end Sys2Proof.Machine
end

