-- ==== Sys2Proof/Machine/Twp.lean ====
section
/-! DEFINITION. The supervisor's two-wire port (14): the status word, the write commands, heartbeat supervision, sleep and the
attention write. The rows carry transfers to the port's own address; it answers no other (R414). -/

namespace Sys2Proof.Machine

/-- The target address (R47). -/
def State.twpAddr (s : State) : Byte := 0x60#8 + s.glb.twAdr.zeroExtend 8

/-- The status word (Table 14-1). -/
def State.twpStatus (s : State) : W24 :=
  w24 (1048576 * s.grd.st.code + 524288 * bit s.sup.overV + 65536 * s.sup.level.val + 256 * s.grd.beat.toNat + 128 * bit (!s.estopOk) +
    64 * bit (s.grd.st = .trip) + 32 * bit s.sil.active + 16 * bit s.awn.stale + 8 * bit (s.lift.st = .fault) + 4 * bit (s.grind.st = .fault) +
    2 * bit ((List.range 2).any (fun k => s.drEn k && (s.dr k).st = .fault)) + bit (s.log.crit != 0#6))

/-- The bytes that a read can return before 0xFF: the status word, most significant byte first, and its CRC-8 (R418, R419). -/
def State.twpStream (s : State) : List Byte :=
  let w := s.twpStatus
  let l : List Byte := [w.extractLsb' 16 8, w.extractLsb' 8 8, w.extractLsb' 0 8]
  l ++ [crc8 ((s.twpAddr + s.twpAddr + 1) :: l)]

/-- The port sleeps: an attention write that is due keeps it awake (R427). -/
def State.portAsleep (s : State) : Bool := s.twp.asleep && s.twp.attPend = 0#3

/-- An address byte reaches the port (R427): awake it answers; asleep under WAKE_STRETCH it wakes and answers; under NACK_FIRST
the transfer has no effect and the port wakes. -/
def twpTransfer (f : State → State) (s : State) : Host.Outcome State Fault Refusal :=
  doneIf s.guardUp (fun s =>
    let s : State := { s with twp.sdaLow := false, twp.out := [], twp.acked := false }
    if !s.portAsleep then f s
    else if s.pn 0x4003 = 0 then f { s with twp.asleep := false }
    else { s with twp.waking := true }) s

/-- STATUS_READ (R418, R419, R421): `hang` is a controller that stops clocking after the bytes; SDA then stays low where the
next bit is 0. -/
def execStatusRead (bytes : Nat) (hang : Bool) (s : State) : Host.Outcome State Fault Refusal :=
  twpTransfer (fun s =>
    let l := s.twpStream
    { s with twp.out := (List.range bytes).map (fun k => l.getD k 0xFF), twp.sdaLow := hang && !(l.getD bytes 0xFF).getLsbD 7 }) s

/-- TWP_BAD_FRAME (Table 14-6). -/
def badFrame (kind : Nat) (cmd : Byte) (s : State) : State := raise 0x4006 3 (w24 kind) (cmd.zeroExtend 24) s

/-- The CRC byte acknowledged (R420). -/
def twpAck (s : State) : State := { s with twp.acked := true }

/-- HEARTBEAT (R425, R426). With TWP_HB_EN clear it is accepted and makes nothing OK. -/
def twpHeartbeat (n : Byte) (s : State) : State :=
  if s.twp.hbOk && n != s.twp.counter + 1 then badFrame 6 0x5A s
  else
    let t : State := twpAck { s with twp.counter := n }
    if s.twp.hbOk || !s.pb 0x4000 then t else raise 0x4005 3 (n.zeroExtend 24) 0 { t with twp.hbOk := true }

/-- STOP (R329, R423). -/
def twpStop (reason : Byte) (s : State) : State :=
  let t := raise 0x4001 6 (reason.zeroExtend 24) (w24 s.grd.st.code) (twpAck { s with grd.stopLatch := true })
  wake 1 (guardStop 16 t)

/-- RELEASE (R423, R424). -/
def twpRelease (s : State) : State :=
  if !s.estopOk then raise 0x4003 4 1 0 s
  else if !s.grd.stopLatch then raise 0x4003 4 2 0 s
  else wake 1 (raise 0x4002 4 (w24 s.grd.st.code) 0 (twpAck { s with grd.stopLatch := false }))

/-- A write judged: length, CRC, command, argument (R420, R423; the order is the model's, log 22). A byte after an accepted
command logs kind 5. -/
def twpWrite (l : List Byte) (s : State) : State := match l with
  | cmd :: arg :: crc :: extra =>
    if crc8 [s.twpAddr + s.twpAddr, cmd, arg] != crc then badFrame 1 cmd s
    else
      let t := if cmd = 0x5A#8 then twpHeartbeat arg s
        else if cmd = 0xE5#8 then twpStop arg s
        else if cmd != 0xC3#8 then badFrame 2 cmd s
        else if arg != 0x3C#8 then badFrame 3 cmd s
        else twpRelease s
      if t.twp.acked && !extra.isEmpty then badFrame 5 cmd t else t
  | l => badFrame 4 (l.getD 0 0) s

/-- HEARTBEAT (R426); `extra` counts the data bytes after the third. -/
def execHeartbeat (counter crc : Byte) (extra : Nat) (s : State) : Host.Outcome State Fault Refusal :=
  twpTransfer (twpWrite (0x5A :: counter :: crc :: List.replicate extra 0)) s
/-- STOP (R423). -/
def execStop (reason crc : Byte) (extra : Nat) (s : State) : Host.Outcome State Fault Refusal :=
  twpTransfer (twpWrite (0xE5 :: reason :: crc :: List.replicate extra 0)) s
/-- RELEASE (R423, R424). -/
def execRelease (arg crc : Byte) (extra : Nat) (s : State) : Host.Outcome State Fault Refusal :=
  twpTransfer (twpWrite (0xC3 :: arg :: crc :: List.replicate extra 0)) s
/-- UNACCEPTED_WRITE (R420): the data bytes of a write. -/
def execUnacceptedWrite (bytes : List Byte) (s : State) : Host.Outcome State Fault Refusal := twpTransfer (twpWrite bytes) s

/-- TWP_HB_LOST (R425, R426). -/
def execTwpHbLost (s : State) : Host.Outcome State Fault Refusal :=
  doneIf (s.guardUp && s.twp.hbOk) (fun s => raise 0x4004 5 (s.twp.counter.zeroExtend 24) 0 { s with twp.hbOk := false }) s

/-- SDA_RELEASE (R421). -/
def execSdaRelease (s : State) : Host.Outcome State Fault Refusal := doneIf s.twp.sdaLow (fun s => { s with twp.sdaLow := false }) s

/-- TWP_SLEEP (R427): not while an attention write is due. -/
def execTwpSleep (s : State) : Host.Outcome State Fault Refusal :=
  doneIf (s.guardUp && s.glb.sleep && !s.twp.asleep && s.twp.attPend = 0#3) (fun s => { s with twp.asleep := true, twp.waking := false }) s

/-- PORT_WAKE (R427). -/
def execPortWake (s : State) : Host.Outcome State Fault Refusal :=
  doneIf (s.twp.asleep && s.twp.waking) (fun s => { s with twp.asleep := false, twp.waking := false }) s

/-! ### The attention write (R428 to R430) -/

/-- An attention write is due. -/
def State.attDue (s : State) : Bool := s.guardUp && s.twp.attPend != 0#3 && s.pn 0x4004 != 0 && !s.twp.attWait

/-- A failed attempt: 1 ms of waiting, or the end after 8 retries. -/
def attFail (why : Nat) (s : State) : State :=
  if s.twp.attTries < 8 then { s with twp.attTries := s.twp.attTries + 1, twp.attWait := true }
  else raise 0x4008 5 (s.twp.attPend.zeroExtend 24) (w24 why) { s with twp.attPend := 0, twp.attTries := 0, twp.attWait := false }

/-- The port awake for an attention write (R427). -/
def portUp (s : State) : State := { s with twp.asleep := false, twp.waking := false }

/-- ATTENTION_WRITE (R428, R430): one attempt on a free bus. The port wakes for it (R427). -/
def execAttentionWrite (r : AttEnd) (s : State) : Host.Outcome State Fault Refusal :=
  doneIf s.attDue (fun s =>
    let s := portUp s
    match r with
    | .acked =>
      let b : Byte := 0xA0#8 + s.twp.attPend.zeroExtend 8
      raise 0x4007 2 (b.zeroExtend 24) (w24 (s.twp.attTries + 1)) { s with twp.sent := b :: s.twp.sent, twp.attPend := 0, twp.attTries := 0 }
    | .noAck => attFail 1 s
    | .lostArb => attFail 2 s) s

/-- ATT_RETRY (R430). -/
def execAttRetry (s : State) : Host.Outcome State Fault Refusal := doneIf s.twp.attWait (fun s => { s with twp.attWait := false }) s

/-- ATT_BUS_TIMEOUT (R430). -/
def execAttBusTimeout (s : State) : Host.Outcome State Fault Refusal := doneIf s.attDue (fun s => attFail 3 (portUp s)) s

end Sys2Proof.Machine
end

