-- ==== Sys2Proof/Machine/Debug.lean ====
section
/-! DEFINITION. JTAG, boundary scan and the debug access port (16): its lock, halts and accesses (R483 to R488, R490). -/

namespace Sys2Proof.Machine

/-! ### The test access port (R483, R484) -/

/-- An instruction in force. -/
def tapIr (i : Fin 7) (s : State) : State := { s with dbg.ir := i }

/-- EXTEST or CLAMP drives the boundary outputs from the preloaded register, only while RESET_N is held low (R484). -/
def State.tapDrives (s : State) : Bool := !s.land.resetN && (s.dbg.ir = 3 || s.dbg.ir = 4)
/-- HIGHZ floats the boundary outputs, only while RESET_N is held low (R484). -/
def State.tapFloats (s : State) : Bool := !s.land.resetN && s.dbg.ir = 5
/-- The one-bit bypass register is selected: BYPASS, CLAMP and HIGHZ, and EXTEST while RESET_N is high (R484). -/
def State.tapBypass (s : State) : Bool := s.dbg.ir = 0 || s.dbg.ir = 4 || s.dbg.ir = 5 || (s.dbg.ir = 3 && s.land.resetN)

/-- The port locked: after JT_TRST_N low and a relock (R485). -/
def dbgLock (s : State) : State := { s with dbg.unlocked := false, dbg.scope := 0 }

/-- JT_TRST (R483, R485): IDCODE is in force after the reset of the TAP (PRESUMED IEEE 1149.1, log 20). -/
def execJtTrst (s : State) : Host.Outcome State Fault Refusal := done (dbgLock (tapIr 1 { s with dbg.nonce := none }))
/-- BYPASS (R483). -/
def execBypass (s : State) : Host.Outcome State Fault Refusal := done (tapIr 0 s)
/-- IDCODE (R483). -/
def execIdcode (s : State) : Host.Outcome State Fault Refusal := done (tapIr 1 { s with resp := .sc 0x14860AAB })
/-- SAMPLE_PRELOAD (R483, R484): the boundary bits as the lands give them are free values (log 6); no side effect. -/
def execSamplePreload (preload : List Bool) (s : State) : Host.Outcome State Fault Refusal :=
  done (tapIr 2 { s.tick with dbg.sampled := (List.range preload.length).map (Config.boundaryIn s.free), dbg.preload := preload })

/-- EXTEST (R484). -/
def execExtest (s : State) : Host.Outcome State Fault Refusal := done (tapIr 3 s)
/-- CLAMP (R484). -/
def execClamp (s : State) : Host.Outcome State Fault Refusal := done (tapIr 4 s)
/-- HIGHZ (R484). -/
def execHighz (s : State) : Host.Outcome State Fault Refusal := done (tapIr 5 s)

/-! ### The lock (R485) -/

/-- The debug access port answers while its island runs. -/
def State.dbgUp (s : State) : Bool := s.guardUp
/-- Scope bit 0 grants reads. -/
def State.mayRead (s : State) : Bool := s.dbgUp && s.dbg.unlocked && s.dbg.scope.getLsbD 0
/-- Scope bit 1 grants writes and halts. -/
def State.mayWrite (s : State) : Bool := s.dbgUp && s.dbg.unlocked && s.dbg.scope.getLsbD 1

/-- DBG_CHALLENGE (R485): a nonce, refused for 1 s after a wrong token. -/
def execDbgChallenge (s : State) : Host.Outcome State Fault Refusal :=
  doneIf (s.dbgUp && !s.dbg.refusing) (fun s =>
    let n := (List.range 16).map (Config.freeNonce s.free)
    tapIr 6 { s.tick with dbg.nonce := some n, dbg.answer := n }) s

/-- The 25 bytes that a token signs (R485). -/
def tokenMessage (nonce : List Byte) (scope : Byte) : List Byte := nonce ++ [scope] ++ leBytes 8 Config.serial.toNat

/-- A token is right: a debug key is provisioned, a challenge is open, and the HMAC agrees. -/
def State.tokenOk (s : State) (scope : Byte) (token : List Byte) : Bool := match s.prm.ident.debugKey, s.dbg.nonce with
  | some k, some n => token = Config.hmacSha256 k (tokenMessage n scope)
  | _, _ => false

/-- DBG_TOKEN (R485, R490). -/
def execDbgToken (scope : Byte) (token : List Byte) (s : State) : Host.Outcome State Fault Refusal :=
  doneIf s.dbgUp (fun s =>
    let t := tapIr 6 { s with dbg.nonce := none }
    if s.tokenOk scope token then raise 0x7801 4 (scope.zeroExtend 24) 0 { t with dbg.unlocked := true, dbg.scope := scope.extractLsb' 0 2 }
    else
      let n := satInc s.dbg.fails
      raise 0x7802 5 n 0 { t with dbg.fails := n, dbg.refusing := true }) s

/-- DBG_RELOCK (R485). -/
def execDbgRelock (s : State) : Host.Outcome State Fault Refusal := done (dbgLock s)
/-- DBG_REFUSE_END (R485). -/
def execDbgRefuseEnd (s : State) : Host.Outcome State Fault Refusal := doneIf s.dbg.refusing (fun s => { s with dbg.refusing := false }) s

/-! ### Halts (R487, R488) -/

/-- DBG_HALT (R487): an activation of the island ends first. -/
def execDbgHalt (i : FwIsland) (s : State) : Host.Outcome State Fault Refusal :=
  let k := fwIdx i
  doneIf (s.mayWrite && !s.haltedIsl (fwNum i)) (fun s =>
    if s.activating i then { s with dbg.haltWait := setB s.dbg.haltWait k true } else beginHalt k s) s

/-- Each window of a two-step sequence that is open is voided (R488). -/
def voidWindows (s : State) : State :=
  let t := match s.log.nonce with
    | none => s
    | some (p, _) => raise 0x7805 4 (if p = 2 then 2 else 1) 0 { s with log.nonce := none }
  if t.dbg.nonce.isNone then t else raise 0x7805 4 3 0 { t with dbg.nonce := none }

/-- DBG_CORE_HALTED (R487): once every axis stands still and the grinder is at standstill, or once the guard is in TRIP. -/
def execDbgCoreHalted (i : FwIsland) (s : State) : Host.Outcome State Fault Refusal :=
  let k := fwIdx i
  let still : Bool := (List.range 5).all (fun a => (s.axis a).stands) && s.grind.still
  doneIf (s.dbg.haltReq.getLsbD k && (still || s.grd.st = .trip)) (fun s =>
    brakeAtRest (voidWindows { s with dbg.haltReq := setB s.dbg.haltReq k false, dbg.halted := setB s.dbg.halted k true, dbg.haltAt := vset s.dbg.haltAt k s.now })) s

/-- DBG_RESUME (R487, R492). -/
def execDbgResume (i : FwIsland) (s : State) : Host.Outcome State Fault Refusal :=
  let k := fwIdx i
  doneRIf (s.mayWrite && s.dbg.halted.getLsbD k) (fun s =>
    raise 0x7804 4 (w24 (fwNum i)) (sat24 (msOf (s.now - vget s.dbg.haltAt k 0))) { s with dbg.halted := setB s.dbg.halted k false }) s

/-! ### Accesses (R486) -/

/-- HST_CTL written by a debugger (R122, R124, R486): the doorbell line that the set-up then reads is host memory, so what it
holds, and whether the read succeeds, are free values. -/
def dbgCtl (run : Bool) (s : State) : State :=
  if !run then (if s.host.run then stopRun s else s)
  else if !s.mayRun then s
  else
    let f (k : Nat) : W24 := Config.freeWord (s.free + k)
    setUp { gen := f 0, beat := f 1 } (Config.freeBit (s.free + 2)) { s with free := s.free + 3 }

/-- A BAR0 write as a host's (R486): the registers with rows of their own, then the others (R123, R496). -/
def dbgWrite (off : Nat) (v : W32) (s : State) : State :=
  if off = 0x0004 then (if s.host.run then writeIgnored off s else { s with glb.cause := s.glb.cause &&& ~~~ arg24 v })
  else if off = 0x0400 then dbgCtl (v.getLsbD 0) s
  else if off = 0x0468 then { s with keep.cause := s.keep.cause &&& ~~~ (v.extractLsb' 0 6 &&& ~~~ s.keep.since) }
  else if off = 0x047C then { s with host.jrnCursor := arg24 v }
  else if off = 0x601C then { s with log.cursor := arg24 v, log.winGen := s.log.winGen + 1 }
  else if off = 0x6020 then { s with log.seqMode := v.getLsbD 0, log.winGen := s.log.winGen + 1 }
  else if off = 0x8000 then { s with prm.prmId := v.extractLsb' 0 16 }
  else if 0xF000 ≤ off && off < 0xF080 then msixWrite off v s
  else if !isReg off then s
  else if s.host.run then writeIgnored off s
  else if 0x0400 ≤ off && off < 0x0800 then setupWrite ((off - 0x0400) / 4) (arg24 v) s else s

/-- The access of an unlocked port (R486). -/
def dbgDo (a : DbgAccess) (s : State) : State := match a with
  | .readBar0 off live =>
    if !s.mayRead then s else
    let t := latchPair off { s with resp := .sc (s.pairRead off) }
    if live then readEffect off t else t
  | .writeBar0 off v => if !s.mayWrite then s else dbgWrite off v s
  | .readBar2 off => if !s.mayRead then s else { s with resp := .sc (s.bar2Read off) }
  | .readRam core addr => if !s.mayRead then s else { s.tick with resp := .sc (Config.coreRam s.free (fwNum core) addr) }

/-- DBG_ACCESS (R485, R486): a locked port, or one without the scope, answers nothing. -/
def execDbgAccess (a : DbgAccess) (s : State) : Host.Outcome State Fault Refusal := doneR (dbgDo a (tapIr 6 { s with resp := .none }))

end Sys2Proof.Machine
end

