-- ==== Sys2Proof/Machine/Lands.lean ====
section
/-! DEFINITION. What the lands carry, read from the state (02, Table 2-3): the outputs that no register shows. A reset state holds
while RESET_N is low, and from VBUS good until the owning island first drives the land (R32). Inputs, straps, returns and supplies
carry what the board puts on them. -/

namespace Sys2Proof.Machine

/-- An open-drain land, or one that can float: driven low, or released. -/
inductive Drain where
  | low | released
  deriving DecidableEq, Repr

/-- The Grain side's lands are in their reset state: no island drives them yet, or RESET_N is low (R32). -/
def State.landReset (s : State) : Bool := !s.land.resetN || s.glb.step.val < 3

/-- The 12 V, 5 V, 3.3 V and 1.2 V rails are up: from step 2 on, and through a reset that leaves them up (R69, R96, Table 4-2). -/
def State.railsUp (s : State) : Bool := 2 ≤ s.glb.step.val || s.glb.resumeAt != 1

/-- FAULT_N (R32, R102); none while a board test drives or floats it (R484; the cells are not laid out, DEDUCED, log 117). -/
def State.landFault (s : State) : Option Drain :=
  if s.tapDrives || s.tapFloats then none else some (if s.glb.faultN then .low else .released)
/-- PE_WAKE_N (R32, R148). -/
def State.landWake (s : State) : Option Drain :=
  if s.tapDrives || s.tapFloats then none else some (if s.keep.wakeN then .low else .released)
/-- PE_CLKREQ_N (R32, R115). -/
def State.landClkreq (s : State) : Option Drain :=
  if s.tapDrives || s.tapFloats then none else some (if s.land.clkreqN then .low else .released)
/-- TW_SDA between transfers: held low by a read that its controller left (R32, R421). -/
def State.landSda (s : State) : Option Drain :=
  if s.tapDrives || s.tapFloats then none else some (if s.twp.sdaLow && !s.landReset then .low else .released)
/-- JT_TDO: no scan runs between two rows, so it is at high impedance (R32). -/
def State.landTdo (_ : State) : Drain := .released

/-- The bridges of an axis drive MOTn_xx; else they are at high impedance with the stage disabled (R32, R282). -/
def State.landMotor (s : State) (a : Nat) : Bool := (s.axis a).stage && s.linesOn && !s.landReset
/-- The 120 Ω termination of ENCn, 5 for ENCM: on in differential mode (R32, R48, R301). -/
def State.landTermination (s : State) (n : Nat) : Bool := !s.landReset && s.pn (if n = 5 then 0x1800 else axP n 0x18) = 1

/-- GVDD: the 12 V rail (R32, R388). -/
def State.landGvdd (s : State) : Bool := s.railsUp
/-- What GH_x and GL_x do: driven low, the low sides on, or switching (R32, R388, R391). -/
def State.landGates (s : State) : Gates := if s.landReset then .off else s.gates
/-- The charging path of BST_x: while the low sides conduct, in the precharge or in switching (R32, R391). -/
def State.landBootstrap (s : State) : Bool := s.landGates != .off
/-- The amplifiers at CS_xx: on while GRIND runs an enabled drive (R32, R392). -/
def State.landAmplifiers (s : State) : Bool := !s.landReset && s.isl 3 = .run && s.grind.st != .disabled
/-- The divider at VSNS_x is connected always (R32, R393). -/
def State.landDivider (_ : State) : Bool := true

/-- AUX5 and AUX3V3: on with their rails, but for an overload (R32, R55). -/
def State.landAux5 (s : State) : Bool := s.railsUp && s.sup.aux5On
def State.landAux3v3 (s : State) : Bool := s.railsUp && s.sup.aux3On
/-- The 100 µA bias at NTC_A and NTC_B: on while KEEP runs (R32, R73). -/
def State.landNtcBias (s : State) : Bool := s.land.resetN && s.isl 7 = .run

/-- PE_TXP and PE_TXN leave electrical idle in L0 only (R32, R148). -/
def State.landTxIdle (s : State) : Bool := s.landReset || s.host.link != .l0

/-- FX, FQ and VLV outputs by channel 8 to 31, and the bank switches VB0 and VB1: off until the Husk is configured (R32, R254). -/
def State.landField (s : State) (c : Nat) : Bool := s.husk.alive && 8 ≤ c && s.husk.out.getLsbD (c - 8)
def State.landBank (s : State) (b : Fin 2) : Bool := s.husk.alive && s.husk.bankOn.getLsbD b.val

end Sys2Proof.Machine
end

