-- ==== Sys2Proof/Machine/Layout.lean ====
section
/-! DEFINITION. What lies in host memory, dword by dword (R7): where a ring entry lies (R155), completion and event entries (Tables 6-4,
6-5), the doorbell line (Table 5-5), the status mirror (Table 5-6) and a command descriptor (Table 6-2). -/

namespace Sys2Proof.Machine

/-- The bytes of one entry of a ring: 0 command, 1 completion, 2 event (Table 6-1). -/
def entryBytes (k : Nat) : Nat := if k = 0 then 32 else 16
/-- The base of a ring (R150). -/
def State.ringBase (s : State) (k : Nat) : BitVec 64 := if k = 0 then s.host.cmdBase else if k = 1 then s.host.cplBase else s.host.evtBase
/-- Where the entry of an index lies: (index mod size) × entry size from the ring's base (R155). -/
def State.entryAt (s : State) (k : Nat) (i : W24) : Nat := (s.ringBase k).toNat + i.toNat % s.ringEntries k * entryBytes k

/-- A completion entry (Table 6-4). -/
def CplEntry.dwords (e : CplEntry) : List W32 :=
  [e.tag, BitVec.ofBool e.phase ++ (0 : BitVec 15) ++ e.op ++ e.status.code, e.jseq, e.extra ++ e.result]

/-- An event entry (Table 6-5): the class is the high byte of the code. -/
def EvtEntry.dwords (e : EvtEntry) : List W32 :=
  [BitVec.ofBool e.phase ++ (0 : BitVec 4) ++ (BitVec.ofNat 3 e.sev) ++ (e.code.extractLsb' 8 8 : Byte) ++ e.code, e.seq, e.w2, e.w3]

/-- The bytes of an entry as host memory holds them (R7, R158: one posted write). -/
def CplEntry.bytes (e : CplEntry) : List Byte := bytesOf e.dwords
/-- The bytes of an event entry (R7, R158). -/
def EvtEntry.bytes (e : EvtEntry) : List Byte := bytesOf e.dwords

/-- The status mirror's 16 dwords with its device heartbeat (Table 5-6). -/
def Mirror.dwords (m : Mirror) (beat : W24) : List W32 :=
  [beat, m.cmdCons, m.cplProd, m.evtProd, m.supGuard, m.jrnLo, m.jrnHi, m.wake, m.islands, m.txn].map (fun w => (w.zeroExtend 32 : W32)) ++
    List.replicate 6 0

/-- The mirror's 64 bytes in host memory (R131, R132). -/
def State.mirrorBytes (s : State) : List Byte := bytesOf (s.ring.mirror.dwords s.ring.mirrorBeat)

/-- The doorbell line as its 16 dwords give it (Table 5-5): each field is bits 23:0 of its dword. -/
def doorbellOf (l : List W32) : Doorbell :=
  let f (k : Nat) : W24 := (l.getD k 0).extractLsb' 0 24
  { gen := f 0, cmdProd := f 1, cplCons := f 2, evtCons := f 3, beat := f 4, sleepReq := (f 5).getLsbD 0, urgent := (f 5).getLsbD 1 }

/-- The doorbell line from the 64 bytes that a poll reads (R126, R127). -/
def doorbellBytes (b : List Byte) : Doorbell := doorbellOf (dwordsOf b)

/-- A command descriptor from its 8 dwords (Table 6-2): its opcode and the rest. What its bulk address reads as, and whether it can be
read, are the memory's. -/
def descOf (l : List W32) (buf : List W32) (dmaOk : Bool) : Byte × Desc :=
  let g (k : Nat) : W32 := l.getD k 0
  ((g 0).extractLsb' 0 8,
   { d0 := (g 0).extractLsb' 8 24, tag := g 1, d2 := g 2, d3 := g 3, d4 := g 4, d5 := g 5, d6 := g 6, d7 := g 7, buf := buf, dmaOk := dmaOk })

end Sys2Proof.Machine
end

