-- ==== Sys2Proof/Machine/LiftEvents.lean ====
section
/-! DEFINITION. The events of the lift engine (11) and of the hatch doors (12). -/

namespace Sys2Proof.Machine

/-- LIFT_DISPATCH (R351, R352). -/
def execLiftDispatch (s : State) : Host.Outcome State Fault Refusal :=
  doneIf s.mayDispatch (fun s => match s.select with
    | none => { s with lift.dir := 0 }
    | some c => takeCall c s) s

/-- LIFT_DWELL_END (R351). -/
def execLiftDwellEnd (s : State) : Host.Outcome State Fault Refusal :=
  doneIf (s.liftUp && s.lift.dwell) (fun s => { s with lift.dwell := false }) s

/-- LIFT_PARK (R354). -/
def execLiftPark (s : State) : Host.Outcome State Fault Refusal :=
  let n := (List.range 12).find? (fun n => s.ldgEn n && s.pb (ldgP n 9))
  doneIf (s.mayDispatch && s.pn 0x200C != 0 && s.lift.calls.isEmpty) (fun s => match n with
    | none => s
    | some k => if (s.ldgPos k - s.carPos).natAbs ≤ s.pn 0x2009 then s else startTrip k true s) s

/-- LIFT_MOVE_START (R355, R362): the move of a trip, or the home search. -/
def execLiftMoveStart (s : State) : Host.Outcome State Fault Refusal :=
  doneIf (s.liftUp && (s.lift.phase = .brakeRelease || s.lift.phase = .homeBrake)) (fun s =>
    if s.lift.phase = .homeBrake then startHome s
    else if !s.dispatchOk then undispatch s
    else if (s.axis 0).st = .fault then liftFault 2 s
    else startMove s) s

/-- Axis 0 stands still at the target of the trip. -/
def State.carArrived (s : State) : Bool := (s.axis 0).stands && s.carPos = s.ldgPos s.lift.target.val

/-- LIFT_ARRIVED (R357): axis 0 stands still at the target. -/
def execLiftArrived (s : State) : Host.Outcome State Fault Refusal :=
  doneIf (s.liftUp && s.lift.phase = .moving && !s.lift.abandon && s.carArrived) levelCheck s

/-- LIFT_LEVELLED (R357, Table 11-8): the position redefined to LDG_POS. -/
def execLiftLevelled (s : State) : Host.Outcome State Fault Refusal :=
  doneIf (s.liftUp && s.lift.phase = .levelling && !s.lift.abandon && (s.axis 0).stands) (fun s =>
    let t := axMod 0 (fun x => (s.shiftPos 0 (s.ldgPos s.lift.target.val - x.pos) x).takeRef) s
    endLevel (raise 0x2003 2 (w24 s.lift.target.val) (w24i s.lift.err) t)) s

/-- LIFT_STOP_COMPLETE (R358). -/
def execLiftStopComplete (s : State) : Host.Outcome State Fault Refusal :=
  doneIf (s.liftUp && s.lift.phase = .brakeSet && !s.lift.abandon) stopComplete s

/-- LIFT_TRIP_ABANDONED (R359): the event, then HOLD with cause 3, the dispatched call pending again. -/
def execLiftTripAbandoned (s : State) : Host.Outcome State Fault Refusal :=
  doneIf (s.liftUp && s.lift.abandon && (s.axis 0).stands) (fun s =>
    let t := raise 0x2009 4 (w24 s.lift.target.val) (w24i s.carPos) s
    let t := axMod 0 (fun x => { x with latchArmed := false, edge := none }) (brakeSet false t)
    let t := enterHold 3 { t with lift.calls := t.lift.calls.map (fun c => { c with dispatched := false }), lift.park := false }
    match s.lift.pendHold with
    | none => t
    | some c => { t with lift.holdCause := c }) s

/-- DOOR_DECISION (R373, R374): both doors. -/
def execDoorDecision (s : State) : Host.Outcome State Fault Refusal :=
  doneIf (s.isl 2 = .run && !s.haltedIsl 2) (fun s => drDecide 1 (drDecide 0 s)) s

/-- The doors are served by a running LIFT. -/
def State.doorUp (s : State) (d : Fin 2) : Bool := s.drEn d.val && s.isl 2 = .run && !s.haltedIsl 2

/-- HOLD_OPEN_END (R373): the close is due. A hold with no end keeps the door open (R381). -/
def execHoldOpenEnd (d : Fin 2) (s : State) : Host.Outcome State Fault Refusal :=
  let x := s.dr d.val
  doneIf (s.doorUp d && x.st = .opened && x.holdEnd.isSome && !x.holdInf) (drMod d.val (fun y => { y with closeDue := true, holdEnd := none })) s

/-- LOCK_CONFIRM_TIMEOUT (R373). -/
def execLockConfirmTimeout (d : Fin 2) (s : State) : Host.Outcome State Fault Refusal :=
  let x := s.dr d.val
  doneIf (s.doorUp d && ((x.st = .unlocking && !s.readsOff (s.drCh d.val 4)) || (x.st = .locking && !s.readsOn (s.drCh d.val 4))))
    (doorFault d.val 1 .internal 0) s

/-- DOOR_FORCED (R373, Table 12-6). -/
def execDoorForced (d : Fin 2) (s : State) : Host.Outcome State Fault Refusal :=
  let x := s.dr d.val
  let sw := s.readsOff (s.drCh d.val 5)
  doneIf (s.doorUp d && x.st = .closedLocked && (sw || s.readsOff (s.drCh d.val 4))) (fun s =>
    doorFault d.val 5 .internal 0 (raise 0x2406 5 (w24 d.val) (w24 (bit (!sw))) s)) s

/-- DOOR_OBSTRUCTED (R376 to R378). -/
def execDoorObstructed (d : Fin 2) (curtain : Bool) (s : State) : Host.Outcome State Fault Refusal :=
  doneIf (s.doorUp d && (if curtain then s.curtained d.val else s.obstructed d.val)) (drObstruct d.val curtain) s

/-- NUDGE_RETRY (R378). -/
def execNudgeRetry (d : Fin 2) (s : State) : Host.Outcome State Fault Refusal :=
  let x := s.dr d.val
  doneIf (s.doorUp d && x.st = .nudging && x.retryWait && (s.axis (d.val + 1)).stands) (fun s =>
    nudgeMove d.val (drMod d.val (fun y => { y with retryWait := false }) s)) s

end Sys2Proof.Machine
end

