-- ==== Sys2Proof/Machine/Dispatch.lean ====
section
/-! DEFINITION. One arm for each command: a direct call of its meaning. -/

namespace Sys2Proof.Machine

/-- The effect of a command on everything but the queue. -/
def exec (i : Instr) (s : State) : Host.Outcome State Fault Refusal :=
  match i with
  | .nop d => Sys2Proof.Machine.execNop d s
  | .getStatus d => Sys2Proof.Machine.execGetStatus d s
  | .eventFilter d => Sys2Proof.Machine.execEventFilter d s
  | .powerState d => Sys2Proof.Machine.execPowerState d s
  | .paramRead d => Sys2Proof.Machine.execParamRead d s
  | .paramWrite d => Sys2Proof.Machine.execParamWrite d s
  | .txnBegin d => Sys2Proof.Machine.execTxnBegin d s
  | .txnCommit d => Sys2Proof.Machine.execTxnCommit d s
  | .txnRollback d => Sys2Proof.Machine.execTxnRollback d s
  | .txnStatus d => Sys2Proof.Machine.execTxnStatus d s
  | .liftCall d => Sys2Proof.Machine.execLiftCall d s
  | .liftCancel d => Sys2Proof.Machine.execLiftCancel d s
  | .liftHome d => Sys2Proof.Machine.execLiftHome d s
  | .liftHold d => Sys2Proof.Machine.execLiftHold d s
  | .liftRelease d => Sys2Proof.Machine.execLiftRelease d s
  | .doorOpen d => Sys2Proof.Machine.execDoorOpen d s
  | .doorClose d => Sys2Proof.Machine.execDoorClose d s
  | .doorHold d => Sys2Proof.Machine.execDoorHold d s
  | .axisMoveAbs d => Sys2Proof.Machine.execAxisMoveAbs d s
  | .axisMoveVel d => Sys2Proof.Machine.execAxisMoveVel d s
  | .axisRetune d => Sys2Proof.Machine.execAxisRetune d s
  | .axisStop d => Sys2Proof.Machine.execAxisStop d s
  | .axisHome d => Sys2Proof.Machine.execAxisHome d s
  | .axisGear d => Sys2Proof.Machine.execAxisGear d s
  | .axisPower d => Sys2Proof.Machine.execAxisPower d s
  | .axisSetPos d => Sys2Proof.Machine.execAxisSetPos d s
  | .grindRun d => Sys2Proof.Machine.execGrindRun d s
  | .grindStop d => Sys2Proof.Machine.execGrindStop d s
  | .fieldWrite d => Sys2Proof.Machine.execFieldWrite d s
  | .fieldPulse d => Sys2Proof.Machine.execFieldPulse d s
  | .fieldRead d => Sys2Proof.Machine.execFieldRead d s
  | .counterRead d => Sys2Proof.Machine.execCounterRead d s
  | .counterClear d => Sys2Proof.Machine.execCounterClear d s
  | .guardAck d => Sys2Proof.Machine.execGuardAck d s
  | .guardStatus d => Sys2Proof.Machine.execGuardStatus d s
  | .logMark d => Sys2Proof.Machine.execLogMark d s
  | .logChallenge d => Sys2Proof.Machine.execLogChallenge d s
  | .logClear d => Sys2Proof.Machine.execLogClear d s
  | .logCopy d => Sys2Proof.Machine.execLogCopy d s
  | .fwStage d => Sys2Proof.Machine.execFwStage d s
  | .fwActivate d => Sys2Proof.Machine.execFwActivate d s
  | .fwStatus d => Sys2Proof.Machine.execFwStatus d s
  | .journalCopy d => Sys2Proof.Machine.execJournalCopy d s
  | .hostRun line lineOk => Sys2Proof.Machine.execHostRun line lineOk s
  | .hostStop => Sys2Proof.Machine.execHostStop s
  | .hstWakeCauseRead => Sys2Proof.Machine.execHstWakeCauseRead s
  | .hstWakeCauseWrite value => Sys2Proof.Machine.execHstWakeCauseWrite value s
  | .glbCause value => Sys2Proof.Machine.execGlbCause value s
  | .hstDmaErr => Sys2Proof.Machine.execHstDmaErr s
  | .supVbusMin => Sys2Proof.Machine.execSupVbusMin s
  | .supLatch => Sys2Proof.Machine.execSupLatch s
  | .clkLatch => Sys2Proof.Machine.execClkLatch s
  | .logCrit => Sys2Proof.Machine.execLogCrit s
  | .logFlush => Sys2Proof.Machine.execLogFlush s
  | .prmId value => Sys2Proof.Machine.execPrmId value s
  | .logCursor value => Sys2Proof.Machine.execLogCursor value s
  | .logWinCtl value => Sys2Proof.Machine.execLogWinCtl value s
  | .hstJrnCursor value => Sys2Proof.Machine.execHstJrnCursor value s
  | .registerWrite offset value => Sys2Proof.Machine.execRegisterWrite offset value s
  | .hostBadAccess write offset => Sys2Proof.Machine.execHostBadAccess write offset s
  | .bar2BadRead offset dwords => Sys2Proof.Machine.execBar2BadRead offset dwords s
  | .poll line fetch => Sys2Proof.Machine.execPoll line fetch s
  | .fenceRelease => Sys2Proof.Machine.execFenceRelease s
  | .cplRingStall => Sys2Proof.Machine.execCplRingStall s
  | .bulkCopyStart => Sys2Proof.Machine.execBulkCopyStart s
  | .bulkCopyDone ok => Sys2Proof.Machine.execBulkCopyDone ok s
  | .hostDmaFault k => Sys2Proof.Machine.execHostDmaFault k s
  | .mirrorWrite => Sys2Proof.Machine.execMirrorWrite s
  | .irqModerationEnd events => Sys2Proof.Machine.execIrqModerationEnd events s
  | .hostSilence => Sys2Proof.Machine.execHostSilence s
  | .liveParamApply isl => Sys2Proof.Machine.execLiveParamApply isl s
  | .pePerstNFall => Sys2Proof.Machine.execPePerstNFall s
  | .pePerstNRise => Sys2Proof.Machine.execPePerstNRise s
  | .flr => Sys2Proof.Machine.execFlr s
  | .busMasterEnable c => Sys2Proof.Machine.execBusMasterEnable c s
  | .d3hotEntry => Sys2Proof.Machine.execD3hotEntry s
  | .d0Return => Sys2Proof.Machine.execD0Return s
  | .pmeTurnOff => Sys2Proof.Machine.execPmeTurnOff s
  | .linkL0 => Sys2Proof.Machine.execLinkL0 s
  | .txnVote isl => Sys2Proof.Machine.execTxnVote isl s
  | .commitPoint => Sys2Proof.Machine.execCommitPoint s
  | .safePointReached isl => Sys2Proof.Machine.execSafePointReached isl s
  | .applyStrobe => Sys2Proof.Machine.execApplyStrobe s
  | .txnDeadline => Sys2Proof.Machine.execTxnDeadline s
  | .gFrame f => Sys2Proof.Machine.execGFrame f s
  | .huskBoundary => Sys2Proof.Machine.execHuskBoundary s
  | .hFrame noise period => Sys2Proof.Machine.execHFrame noise period s
  | .gFrameMissing => Sys2Proof.Machine.execGFrameMissing s
  | .safeStateTimeout => Sys2Proof.Machine.execSafeStateTimeout s
  | .fldStale => Sys2Proof.Machine.execFldStale s
  | .huskWatchdog => Sys2Proof.Machine.execHuskWatchdog s
  | .debouncedChange e => Sys2Proof.Machine.execDebouncedChange e s
  | .fldWireBreak ch broken => Sys2Proof.Machine.execFldWireBreak ch broken s
  | .fldOutFault ch kind => Sys2Proof.Machine.execFldOutFault ch kind s
  | .fldOpenLoad ch isOpen => Sys2Proof.Machine.execFldOpenLoad ch isOpen s
  | .bankRise b => Sys2Proof.Machine.execBankRise b s
  | .bankRiseTimeout b => Sys2Proof.Machine.execBankRiseTimeout b s
  | .demagEnd ch => Sys2Proof.Machine.execDemagEnd ch s
  | .fldDemagSlow b => Sys2Proof.Machine.execFldDemagSlow b s
  | .bankShort b => Sys2Proof.Machine.execBankShort b s
  | .fldBankTrip b => Sys2Proof.Machine.execFldBankTrip b s
  | .pulseEnd ch => Sys2Proof.Machine.execPulseEnd ch s
  | .fieldWriteJournal => Sys2Proof.Machine.execFieldWriteJournal s
  | .keepalive side => Sys2Proof.Machine.execKeepalive side s
  | .keepaliveReceived side interval => Sys2Proof.Machine.execKeepaliveReceived side interval s
  | .fldSleepHunt side => Sys2Proof.Machine.execFldSleepHunt side s
  | .fldSleepLost side => Sys2Proof.Machine.execFldSleepLost side s
  | .shedL1 vbus => Sys2Proof.Machine.execShedL1 vbus s
  | .shedL2 vbus => Sys2Proof.Machine.execShedL2 vbus s
  | .shedL3 vbus => Sys2Proof.Machine.execShedL3 vbus s
  | .shedL4 vbus => Sys2Proof.Machine.execShedL4 vbus s
  | .shedL5 vbus => Sys2Proof.Machine.execShedL5 vbus s
  | .shedStepUp vbus => Sys2Proof.Machine.execShedStepUp vbus s
  | .shedRecover vbus => Sys2Proof.Machine.execShedRecover vbus s
  | .vbusOver vbus => Sys2Proof.Machine.execVbusOver vbus s
  | .ovEnd vbus => Sys2Proof.Machine.execOvEnd vbus s
  | .f24Low mv => Sys2Proof.Machine.execF24Low mv s
  | .f24Good mv => Sys2Proof.Machine.execF24Good mv s
  | .f24Uvlo => Sys2Proof.Machine.execF24Uvlo s
  | .huskResume mv => Sys2Proof.Machine.execHuskResume mv s
  | .aux5Overload => Sys2Proof.Machine.execAux5Overload s
  | .aux3v3Overload => Sys2Proof.Machine.execAux3v3Overload s
  | .auxRetry is5 limited => Sys2Proof.Machine.execAuxRetry is5 limited s
  | .tempPrewarn die t => Sys2Proof.Machine.execTempPrewarn die t s
  | .tempShutdown die t => Sys2Proof.Machine.execTempShutdown die t s
  | .tempRestart die t => Sys2Proof.Machine.execTempRestart die t s
  | .ntcMeasure ohm => Sys2Proof.Machine.execNtcMeasure ohm s
  | .powerOn => Sys2Proof.Machine.execPowerOn s
  | .coldStart c => Sys2Proof.Machine.execColdStart c s
  | .resetNFall tenths => Sys2Proof.Machine.execResetNFall tenths s
  | .resetNRise c => Sys2Proof.Machine.execResetNRise c s
  | .islandWdt isl => Sys2Proof.Machine.execIslandWdt isl s
  | .islandRestarted isl => Sys2Proof.Machine.execIslandRestarted isl s
  | .restartTimeout isl => Sys2Proof.Machine.execRestartTimeout isl s
  | .handshakeTmo sender receiver => Sys2Proof.Machine.execHandshakeTmo sender receiver s
  | .clkFault bad => Sys2Proof.Machine.execClkFault bad s
  | .guardClockFault => Sys2Proof.Machine.execGuardClockFault s
  | .logOscFault => Sys2Proof.Machine.execLogOscFault s
  | .guardPass => Sys2Proof.Machine.execGuardPass s
  | .estop a b => Sys2Proof.Machine.execEstop a b s
  | .estopDiscrepancy => Sys2Proof.Machine.execEstopDiscrepancy s
  | .safeStopTimeout => Sys2Proof.Machine.execSafeStopTimeout s
  | .profileTick => Sys2Proof.Machine.execProfileTick s
  | .axStall a => Sys2Proof.Machine.execAxStall a s
  | .axLatch a us ns => Sys2Proof.Machine.execAxLatch a us ns s
  | .axOvercurrent a bridge kind => Sys2Proof.Machine.execAxOvercurrent a bridge kind s
  | .axOpenLoad a bridge isOpen => Sys2Proof.Machine.execAxOpenLoad a bridge isOpen s
  | .holdCurrent a => Sys2Proof.Machine.execHoldCurrent a s
  | .axIdleOff a => Sys2Proof.Machine.execAxIdleOff a s
  | .axVerify a => Sys2Proof.Machine.execAxVerify a s
  | .stepEdge second dirHigh => Sys2Proof.Machine.execStepEdge second dirHigh s
  | .liftDispatch => Sys2Proof.Machine.execLiftDispatch s
  | .liftDwellEnd => Sys2Proof.Machine.execLiftDwellEnd s
  | .liftPark => Sys2Proof.Machine.execLiftPark s
  | .liftMoveStart => Sys2Proof.Machine.execLiftMoveStart s
  | .liftArrived => Sys2Proof.Machine.execLiftArrived s
  | .liftLevelled => Sys2Proof.Machine.execLiftLevelled s
  | .liftStopComplete => Sys2Proof.Machine.execLiftStopComplete s
  | .liftTripAbandoned => Sys2Proof.Machine.execLiftTripAbandoned s
  | .doorDecision => Sys2Proof.Machine.execDoorDecision s
  | .holdOpenEnd d => Sys2Proof.Machine.execHoldOpenEnd d s
  | .lockConfirmTimeout d => Sys2Proof.Machine.execLockConfirmTimeout d s
  | .doorForced d => Sys2Proof.Machine.execDoorForced d s
  | .doorObstructed d curtain => Sys2Proof.Machine.execDoorObstructed d curtain s
  | .nudgeRetry d => Sys2Proof.Machine.execNudgeRetry d s
  | .prechargeDone bootOk => Sys2Proof.Machine.execPrechargeDone bootOk s
  | .alignDone => Sys2Proof.Machine.execAlignDone s
  | .grindHandover rpm => Sys2Proof.Machine.execGrindHandover rpm s
  | .grindStartFail residual => Sys2Proof.Machine.execGrindStartFail residual s
  | .grindTick rpm revs => Sys2Proof.Machine.execGrindTick rpm revs s
  | .grindDone => Sys2Proof.Machine.execGrindDone s
  | .grindRotorLoss jump rpm => Sys2Proof.Machine.execGrindRotorLoss jump rpm s
  | .catchSettle => Sys2Proof.Machine.execCatchSettle s
  | .catchMeasured rpm => Sys2Proof.Machine.execCatchMeasured rpm s
  | .grindRelocked => Sys2Proof.Machine.execGrindRelocked s
  | .catchTimeout => Sys2Proof.Machine.execCatchTimeout s
  | .relockHoldEnd => Sys2Proof.Machine.execRelockHoldEnd s
  | .grindJam rpm => Sys2Proof.Machine.execGrindJam rpm s
  | .grindUnjam => Sys2Proof.Machine.execGrindUnjam s
  | .grindStandstill => Sys2Proof.Machine.execGrindStandstill s
  | .grindOvercurrent phase ma => Sys2Proof.Machine.execGrindOvercurrent phase ma s
  | .grindGateUv which => Sys2Proof.Machine.execGrindGateUv which s
  | .flushTimer bad => Sys2Proof.Machine.execFlushTimer bad s
  | .tokenRefill c => Sys2Proof.Machine.execTokenRefill c s
  | .logCleared => Sys2Proof.Machine.execLogCleared s
  | .nonceExpiry => Sys2Proof.Machine.execNonceExpiry s
  | .fwStaged => Sys2Proof.Machine.execFwStaged s
  | .activationSafePoint => Sys2Proof.Machine.execActivationSafePoint s
  | .fwActivated => Sys2Proof.Machine.execFwActivated s
  | .fwFallback code => Sys2Proof.Machine.execFwFallback code s
  | .activationTimeout => Sys2Proof.Machine.execActivationTimeout s
  | .dbgChallenge => Sys2Proof.Machine.execDbgChallenge s
  | .dbgToken scope token => Sys2Proof.Machine.execDbgToken scope token s
  | .dbgRelock => Sys2Proof.Machine.execDbgRelock s
  | .dbgRefuseEnd => Sys2Proof.Machine.execDbgRefuseEnd s
  | .dbgHalt isl => Sys2Proof.Machine.execDbgHalt isl s
  | .dbgCoreHalted isl => Sys2Proof.Machine.execDbgCoreHalted isl s
  | .dbgResume isl => Sys2Proof.Machine.execDbgResume isl s
  | .jtTrst => Sys2Proof.Machine.execJtTrst s
  | .bypass => Sys2Proof.Machine.execBypass s
  | .idcode => Sys2Proof.Machine.execIdcode s
  | .samplePreload preload => Sys2Proof.Machine.execSamplePreload preload s
  | .extest => Sys2Proof.Machine.execExtest s
  | .clamp => Sys2Proof.Machine.execClamp s
  | .highz => Sys2Proof.Machine.execHighz s
  | .dbgAccess a => Sys2Proof.Machine.execDbgAccess a s
  | .statusRead bytes hang => Sys2Proof.Machine.execStatusRead bytes hang s
  | .heartbeat counter crc extra => Sys2Proof.Machine.execHeartbeat counter crc extra s
  | .stop reason crc extra => Sys2Proof.Machine.execStop reason crc extra s
  | .release arg crc extra => Sys2Proof.Machine.execRelease arg crc extra s
  | .twpHbLost => Sys2Proof.Machine.execTwpHbLost s
  | .sdaRelease => Sys2Proof.Machine.execSdaRelease s
  | .twpSleep => Sys2Proof.Machine.execTwpSleep s
  | .attentionWrite r => Sys2Proof.Machine.execAttentionWrite r s
  | .attRetry => Sys2Proof.Machine.execAttRetry s
  | .attBusTimeout => Sys2Proof.Machine.execAttBusTimeout s
  | .vbusBelow9v => Sys2Proof.Machine.execVbusBelow9v s
  | .vbusNotGood => Sys2Proof.Machine.execVbusNotGood s
  | .referenceClockChange present => Sys2Proof.Machine.execReferenceClockChange present s
  | .crystalLock c => Sys2Proof.Machine.execCrystalLock c s
  | .prewarnEnd die t => Sys2Proof.Machine.execPrewarnEnd die t s
  | .hstStatusReady => Sys2Proof.Machine.execHstStatusReady s
  | .linkDown => Sys2Proof.Machine.execLinkDown s
  | .encoderEdge source up => Sys2Proof.Machine.execEncoderEdge source up s
  | .unitWritten => Sys2Proof.Machine.execUnitWritten s
  | .unacceptedWrite bytes => Sys2Proof.Machine.execUnacceptedWrite bytes s
  | .portWake => Sys2Proof.Machine.execPortWake s

end Sys2Proof.Machine
end

