-- ==== Sys2Proof/Safety.lean ====
section
/-! DEFINITION. The terms in which statements are made: what a command completes with, what is left when the reports of events
are set aside, when the decoder takes the next descriptor, and the invariant of the lands. -/

namespace Sys2Proof.Machine

/-- A command answers a next state, and that state has a property. -/
def completes (c : Instr) (s : State) (P : State → Prop) : Prop := ∃ t, exec c s = .next t ∧ P t

/-- The state without what the report of an event, the mirror and the two status lands touch: the recorder's
records, counters and tokens (15), the event ring with its interrupts and moderation
(R142, R143, R160) and the entries that wait for DMA (R116), the status mirror (R131), latched wake causes (R146) and the records
that KEEP holds for LOG's next start (R76), pending attention causes (R428), PM_PME and the pending bits of MSI-X and MSI, FAULT_N
(R102) and PE_WAKE_N (R148). -/
def State.quiet (s : State) : State :=
  { s with
    log.staged := [], log.keep := [], log.roll := [], log.head := 0, log.reserve := 0, log.winGen := 0, log.crit := 0
    log.badSlots := [], log.drops := Vector.replicate 8 0, log.tokens := Vector.replicate 16 0, log.overflow := 0, log.clean := true
    ring.evts := [], ring.evtProd := 0, ring.evtMissed := 0, ring.irqs := [], ring.modCpl := false, ring.modEvt := false
    ring.heldCpl := false, ring.heldEvt := false, ring.pauseRecs := 0, ring.irqDue := [], ring.waiting := []
    ring.mirror := {}, ring.mirrorBeat := 0, ring.mirrorAt := none
    keep.cause := 0, keep.since := 0, keep.wakeN := false, keep.late := []
    host.pba := 0, host.msiPend := 0, host.pmePending := false
    twp.attPend := 0
    glb.faultN := true }

/-- Apart from its reports, a command turns `s` into `t`: every field of `t` but the reports' is as it stands there. -/
def completesAs (c : Instr) (s t : State) : Prop := completes c s (fun u => u.quiet = t.quiet)

/-- The decoder takes a descriptor that HOST fetches next at once (R124, R134, R159, R162, R165): rings running, a descriptor
announced, none waiting before it, a completion entry free, no power request waiting; with FENCE, no command without its final
outcome. -/
def State.takes (s : State) (d : Desc) : Prop :=
  s.canFetch = true ∧ s.canDecode = true ∧ 0 < s.ring.announced ∧ s.ring.backlog = [] ∧ s.host.d3Due = false ∧ s.host.pmeDue = false ∧
    (dFence d = true → s.ring.outstanding = [])

/-- No island and no level refuses an opcode (R62, R170, R471, R482, R487). -/
def State.serves (s : State) (op : Byte) : Prop := s.islandBars op = none ∧ s.sheds op = false

/-- The newest journal entry is the command entry of an accepted command (R166, R214). -/
def Journaled (op : Byte) (d : Desc) (st : Status) (s t : State) : Prop :=
  t.jrn.head = s.jrn.head + 1 ∧
    t.jrn.entries.head? = some ⟨s.jrn.head + 1, op, dFlags d, d.tag, dTxnId d, false, st, .command d.d3 d.d4 d.d5⟩

/-- A completion of the command has been written to the completion ring (R155, R157, Table 6-4), or SILENT holds it back (R164). -/
def Completed (op : Byte) (d : Desc) (st : Status) (jseq : Nat) (result : W24) (extra : Byte) (s t : State) : Prop :=
  if dSilent d = true ∧ st.accepted = true then t.ring.cpl = s.ring.cpl ∧ t.ring.cplProd = s.ring.cplProd
  else t.ring.cplProd = s.ring.cplProd + 1 ∧
    t.ring.cpl = ⟨s.ring.cplProd, d.tag, st, op, BitVec.ofNat 32 jseq, result, extra, phaseOf (s.ringLog 1) s.ring.cplProd⟩ :: s.ring.cpl

/-- An accepted command that ends OK at decode (R166, R214): its journal entry, its completion, and what else holds. -/
def acceptsOk (c : Instr) (op : Byte) (d : Desc) (result : W24) (extra : Byte) (s : State) (E : State → Prop) : Prop :=
  completes c s (fun t => Journaled op d .ok s t ∧ Completed op d .ok (s.jrn.head + 1) result extra s t ∧ E t)

/-- An accepted command whose final outcome comes later (R166, R167): QUEUED or DEFERRED, and it stands among the commands
without a final outcome. -/
def acceptsLater (c : Instr) (op : Byte) (d : Desc) (st : Status) (s : State) (E : State → Prop) : Prop :=
  completes c s (fun t => Journaled op d st s t ∧ Completed op d st (s.jrn.head + 1) 0 0 s t ∧
    t.ring.outstanding = s.ring.outstanding ++ [s.nextRef op d] ∧ E t)

/-- No descriptor and no power request waits for the decoder: an event is followed by no decoding. -/
def State.calm (s : State) : Prop := s.ring.backlog = [] ∧ s.host.d3Due = false ∧ s.host.pmeDue = false ∧ s.host.stopping = false

/-- The channels 8 to 31 that a FIELD_WRITE names, bit k for channel k + 8 (Table 6-14). -/
def fieldMask (d : Desc) : BitVec 24 := (d.d5.extractLsb' 0 8 : BitVec 8) ++ ((arg24 d.d3).extractLsb' 8 16 : BitVec 16)
/-- The values that a FIELD_WRITE gives them (Table 6-14). -/
def fieldVals (d : Desc) : BitVec 24 := (d.d5.extractLsb' 8 8 : BitVec 8) ++ ((arg24 d.d4).extractLsb' 8 16 : BitVec 16)

/-- The state without reports, journal and HOST's rings. -/
def State.rest (s : State) : State := { s.quiet with jrn := {}, ring := {} }

/-- Apart from reports, only the journal and HOST's rings differ. -/
def OnlyRings (s t : State) : Prop := t.rest = s.rest

/-- A descriptor that the block does not accept (R166): its completion carries the status and journal sequence 0, nothing is
journaled, and apart from reports only the rings differ. -/
def refusedAs (c : Instr) (op : Byte) (d : Desc) (st : Status) (s : State) : Prop :=
  completes c s (fun t => t.ring.cplProd = s.ring.cplProd + 1 ∧
    t.ring.cpl = ⟨s.ring.cplProd, d.tag, st, op, 0, 0, 0, phaseOf (s.ringLog 1) s.ring.cplProd⟩ :: s.ring.cpl ∧
    t.jrn = s.jrn ∧ t.ring.outstanding = s.ring.outstanding ∧ OnlyRings s t)

/-- The recorder takes a record of a code and severity at once, and no flush follows (R443, R445, R448): LOG runs, the staging buffer
stays below 32 records, and the rate class has no limit or a token. -/
def State.records (s : State) (code : W16) (sev : Nat) : Prop :=
  s.logUp = true ∧ s.log.staged.length < 31 ∧
    (s.burst (rateClass code.toNat sev) = 0 ∨ 0 < s.log.tokens.toList.getD (rateClass code.toNat sev) 0)

/-- One record has been staged, with the next sequence and the island that its code names (R437, Table 15-1). -/
def Recorded (code : W16) (sev : Nat) (w0 w1 : W24) (s t : State) : Prop :=
  t.log.head = s.log.head + 1 ∧
    t.log.staged = s.log.staged ++ [⟨s.log.head + 1, code, sev, raiser code.toNat, 0, 0, w0, w1, 0, 0⟩]

/-- The two status lands stand as the spec says: FAULT_N (R102), PE_WAKE_N while a latched enabled cause calls for it with the
link out of L0 and L1 (R148), and released while RESET_N is low (R32). -/
def State.landsOk (s : State) : Prop :=
  s.glb.faultN = s.faultNow ∧
    (s.land.resetN = true → s.wakeDue = true → (s.host.link = .down ∨ s.host.link = .l23) → s.keep.wakeN = true) ∧
    (s.land.resetN = false → s.keep.wakeN = false)

end Sys2Proof.Machine
end

