-- ==== Sys2Proof/WellFormed.lean ====
section
/-! DEFINITION. Well-formed commands: what an operand may be on this hardware. -/

namespace Sys2Proof

/-- A descriptor's bulk buffer is at most the 4,194,304 bytes of R178. -/
def Desc.fits (d : Desc) : Bool := d.buf.length ≤ 1048576

/-- A debug access names an aligned offset of its BAR (R115, R486). -/
def DbgAccess.fits : DbgAccess → Bool
  | .readBar0 off _ => off % 4 = 0 && off < 0x10000
  | .writeBar0 off _ => off % 4 = 0 && off < 0x10000
  | .readBar2 off => off % 4 = 0 && off < 0x10000
  | .readRam _ _ => true

/-- Well-formed commands. A channel that a row names is an output (R236) or a valve (R239); a register access lies in its
BAR (R115); a frame has 15 words (R245); a token is an HMAC-SHA-256 (R485). -/
def Instr.wellFormed : Instr → Bool
  | .nop d | .getStatus d | .eventFilter d | .powerState d | .paramRead d | .paramWrite d | .txnBegin d
  | .txnCommit d | .txnRollback d | .txnStatus d | .liftCall d | .liftCancel d | .liftHome d | .liftHold d
  | .liftRelease d | .doorOpen d | .doorClose d | .doorHold d | .axisMoveAbs d | .axisMoveVel d | .axisRetune d
  | .axisStop d | .axisHome d | .axisGear d | .axisPower d | .axisSetPos d | .grindRun d | .grindStop d
  | .fieldWrite d | .fieldPulse d | .fieldRead d | .counterRead d | .counterClear d | .guardAck d | .guardStatus d
  | .logMark d | .logChallenge d | .logClear d | .logCopy d | .fwStage d | .fwActivate d | .fwStatus d
  | .journalCopy d => d.fits
  | .registerWrite offset _ => decide (offset % 4 = 0 ∧ offset < 0x10000)
  | .hostBadAccess _ offset => decide (offset < 0x10000)
  | .bar2BadRead offset dwords => decide (offset % 4 = 0 ∧ 1 ≤ dwords ∧ dwords ≤ 1024)
  | .poll _ fetch => fetch.all (fun p => p.2.fits)
  | .gFrame f => decide (f.noise.length ≤ 15)
  | .hFrame noise _ => decide (noise.length ≤ 15)
  | .fldOutFault ch kind => decide (8 ≤ ch.val ∧ 1 ≤ kind ∧ kind ≤ 3)
  | .fldOpenLoad ch _ => decide (8 ≤ ch.val)
  | .demagEnd ch => decide (24 ≤ ch.val)
  | .pulseEnd ch => decide (8 ≤ ch.val)
  | .islandWdt isl => decide (isl ≠ .guard ∧ isl ≠ .field)
  | .islandRestarted isl => decide (isl ≠ .guard ∧ isl ≠ .field)
  | .restartTimeout isl => decide (isl ≠ .guard ∧ isl ≠ .field)
  | .handshakeTmo sender receiver => decide (sender ≠ receiver)
  | .axOvercurrent _ _ kind => decide (1 ≤ kind ∧ kind ≤ 3)
  | .flushTimer bad => bad.all (fun i => decide (i < 8192))
  | .dbgToken _ token => decide (token.length = 32)
  | .dbgAccess a => a.fits
  | .hostRun _ _ | .hostStop | .hstWakeCauseRead | .hstWakeCauseWrite _ | .glbCause _ | .hstDmaErr | .supVbusMin
  | .supLatch | .clkLatch | .logCrit | .logFlush | .prmId _ | .logCursor _ | .logWinCtl _ | .hstJrnCursor _
  | .fenceRelease | .cplRingStall | .bulkCopyStart | .bulkCopyDone _ | .hostDmaFault _ | .mirrorWrite
  | .irqModerationEnd _ | .hostSilence | .liveParamApply _ | .pePerstNFall | .pePerstNRise | .flr
  | .busMasterEnable _ | .d3hotEntry | .d0Return | .pmeTurnOff | .linkL0 | .txnVote _ | .commitPoint
  | .safePointReached _ | .applyStrobe | .txnDeadline | .huskBoundary | .gFrameMissing | .safeStateTimeout
  | .fldStale | .huskWatchdog | .debouncedChange _ | .fldWireBreak _ _ | .bankRise _ | .bankRiseTimeout _
  | .fldDemagSlow _ | .bankShort _ | .fldBankTrip _ | .fieldWriteJournal | .keepalive _ | .keepaliveReceived _ _
  | .fldSleepHunt _ | .fldSleepLost _ | .shedL1 _ | .shedL2 _ | .shedL3 _ | .shedL4 _ | .shedL5 _ | .shedStepUp _
  | .shedRecover _ | .vbusOver _ | .ovEnd _ | .f24Low _ | .f24Good _ | .f24Uvlo | .huskResume _ | .aux5Overload
  | .aux3v3Overload | .auxRetry _ _ | .tempPrewarn _ _ | .tempShutdown _ _ | .tempRestart _ _ | .ntcMeasure _
  | .powerOn | .coldStart _ | .resetNFall _ | .resetNRise _ | .clkFault _ | .guardClockFault | .logOscFault
  | .guardPass | .estop _ _ | .estopDiscrepancy | .safeStopTimeout | .profileTick | .axStall _ | .axLatch _ _ _
  | .axOpenLoad _ _ _ | .holdCurrent _ | .axIdleOff _ | .axVerify _ | .stepEdge _ _ | .liftDispatch | .liftDwellEnd
  | .liftPark | .liftMoveStart | .liftArrived | .liftLevelled | .liftStopComplete | .liftTripAbandoned
  | .doorDecision | .holdOpenEnd _ | .lockConfirmTimeout _ | .doorForced _ | .doorObstructed _ _ | .nudgeRetry _
  | .prechargeDone _ | .alignDone | .grindHandover _ | .grindStartFail _ | .grindTick _ _ | .grindDone
  | .grindRotorLoss _ _ | .catchSettle | .catchMeasured _ | .grindRelocked | .catchTimeout | .relockHoldEnd
  | .grindJam _ | .grindUnjam | .grindStandstill | .grindOvercurrent _ _ | .grindGateUv _ | .tokenRefill _
  | .logCleared | .nonceExpiry | .fwStaged | .activationSafePoint | .fwActivated | .fwFallback _ | .activationTimeout
  | .dbgChallenge | .dbgRelock | .dbgRefuseEnd | .dbgHalt _ | .dbgCoreHalted _ | .dbgResume _ | .jtTrst | .bypass
  | .idcode | .samplePreload _ | .extest | .clamp | .highz | .statusRead _ _ | .heartbeat _ _ _ | .stop _ _ _
  | .release _ _ _ | .twpHbLost | .sdaRelease | .twpSleep | .attentionWrite _ | .attRetry | .attBusTimeout
  | .vbusBelow9v | .vbusNotGood | .referenceClockChange _ | .crystalLock _ | .prewarnEnd _ _ | .hstStatusReady
  | .linkDown | .encoderEdge _ _ | .unitWritten | .unacceptedWrite _ | .portWake => true

end Sys2Proof
end

