-- ==== Sys2Proof/Certificates/Slice0/Obligations.lean ====
section
/-! DEFINITION. The statements for the provers. -/

open Sys2Proof Sys2Proof.Machine

/-- O1. The queries are accepted with OK, answer what the tables say, and change nothing but journal and rings. When the
decoder takes the descriptor, no island or level refuses it and its form is right, NOP, TXN_STATUS, FIELD_READ,
COUNTER_READ, GUARD_STATUS and FW_STATUS each answer a next state in which the command is journaled, its completion
carries OK with the result and extra byte of its table, and apart from reports only the journal and the rings have
changed. [R171, R172, R175, R331, Table 6-9, Table 6-11, Table 6-14, Table 6-15] -/
def Obligations.QueriesAnswer : Prop :=
  (∀ (s : State) (d : Desc), s.takes d → s.serves 0x01 → formOk d false false m0 m0 m0 m0 m0 = true →
    acceptsOk (.nop d) 0x01 d 0 0 s (OnlyRings s)) ∧
  (∀ (s : State) (d : Desc), s.takes d → s.serves 0x13 → formOk d false false m0 m0 m0 m0 m0 = true →
    acceptsOk (.txnStatus d) 0x13 d (w24 (s.txn.st.code + 8 * s.stagedCount + 8192 * s.txn.failIsl.toNat)) 0 s (OnlyRings s)) ∧
  (∀ (s : State) (d : Desc), s.takes d → s.serves 0x4A → formOk d false false 3 m0 m0 m0 m0 = true →
    acceptsOk (.fieldRead d) 0x4A d
      (match fld d.d3 0 2 with
        | 0 => s.awn.inputs.zeroExtend 24 | 1 => s.awn.drivers | 2 => s.awn.wb.zeroExtend 24 | _ => s.awn.faults)
      (if s.awn.stale = true then 1 else 0) s (OnlyRings s)) ∧
  (∀ (s : State) (d : Desc) (i : Fin 8), s.takes d → s.serves 0x4B → formOk d false false 0x1F m0 m0 m0 m0 = true →
    ctrIdx (fld d.d3 0 5) = some i →
    acceptsOk (.counterRead d) 0x4B d s.awn.counters[i]
      (if s.awn.stale = true then 0xFF else BitVec.ofNat 8 (min 0xFE s.awn.age[i])) s (OnlyRings s)) ∧
  (∀ (s : State) (d : Desc), s.takes d → s.serves 0x51 → formOk d false false 3 m0 m0 m0 m0 = true →
    acceptsOk (.guardStatus d) 0x51 d
      (match fld d.d3 0 2 with
        | 0 => s.guardPage0 | 1 => s.grd.permits.zeroExtend 24 | 2 => s.grd.failing.extractLsb' 0 24
        | _ => (s.grd.failing.extractLsb' 24 8).zeroExtend 24) 0 s (OnlyRings s)) ∧
  (∀ (s : State) (d : Desc) (i : FwIsland), s.takes d → s.serves 0x62 → formOk d false false 0xF m0 m0 m0 m0 = true →
    fwOfNum (fld d.d3 0 4) = some i →
    acceptsOk (.fwStatus d) 0x62 d
      (w24 ((s.slots (fwIdx i)).running.val + 4 * bit (s.slots (fwIdx i)).spare.verified + 8 * bit (s.isl (fwNum i) = .held) +
        16 * ((s.slots (fwIdx i)).image.epoch % 256) + 4096 * ((s.slots (fwIdx i)).image.version.toNat % 4096))) 0 s (OnlyRings s))

/-- O2. PARAM_READ answers the staged or the committed word and changes nothing else. When the decoder takes the
descriptor, nothing refuses it and the PID exists, PARAM_READ answers OK with the staged word of the PID where bit 16
of dword 3 asks for it (with TXN, and not for a table PID), else with the committed word; apart from reports only
journal and rings change. [R163, R295, R501, Table 6-11] -/
def Obligations.ParamReadAnswersImage : Prop :=
  ∀ (s : State) (d : Desc), s.takes d → s.serves 0x08 → formOk d true false 0x1FFFF m0 m0 m0 m0 = true → s.txnBars d = none →
    pidExists (fld d.d3 0 16) = true →
    (d.d3.getLsbD 16 = true → dTxn d = true ∧ isTablePid (fld d.d3 0 16) = false) →
    acceptsOk (.paramRead d) 0x08 d
      (if d.d3.getLsbD 16 = true then s.stagedWord (fld d.d3 0 16) else s.committedWord (fld d.d3 0 16)) 0 s (OnlyRings s)

/-- O3. GET_STATUS, LOG_COPY and JOURNAL_COPY are accepted with QUEUED and wait for the bulk engine. When the decoder
takes the descriptor, nothing refuses it, its form and its bulk buffer are right and fewer than two copies stand in
the engine, each of the three commands is accepted with QUEUED and stands last among the waiting copies with its
address, length and first sequence or record. [R180, R455, Table 6-9, Table 6-15] -/
def Obligations.BulkCopiesQueue : Prop :=
  (∀ (s : State) (d : Desc), s.takes d → s.serves 0x02 → formOk d false false m0 m0 mB mB mB = true → bulkOk d 128 4 = true →
    bit s.ring.bulkRun.isSome + s.ring.bulkWait.length < 2 →
    acceptsLater (.getStatus d) 0x02 d .queued s (fun t => OnlyRings s t ∧
      t.ring.bulkWait = s.ring.bulkWait ++ [⟨s.nextRef 0x02 d, bulkAddr d, bulkLen d, 0⟩])) ∧
  (∀ (s : State) (d : Desc), s.takes d → s.serves 0x5B → formOk d false false 0x1FFF m0 mB mB mB = true → bulkOk d 32 32 = true →
    bulkLen d ≤ 262144 → bit s.ring.bulkRun.isSome + s.ring.bulkWait.length < 2 →
    acceptsLater (.logCopy d) 0x5B d .queued s (fun t => OnlyRings s t ∧
      t.ring.bulkWait = s.ring.bulkWait ++ [⟨s.nextRef 0x5B d, bulkAddr d, bulkLen d, fld d.d3 0 13⟩])) ∧
  (∀ (s : State) (d : Desc), s.takes d → s.serves 0x68 → formOk d false false mA mA mB mB mB = true → bulkOk d 32 32 = true →
    bit s.ring.bulkRun.isSome + s.ring.bulkWait.length < 2 →
    acceptsLater (.journalCopy d) 0x68 d .queued s (fun t => OnlyRings s t ∧
      t.ring.bulkWait = s.ring.bulkWait ++ [⟨s.nextRef 0x68 d, bulkAddr d, bulkLen d, (arg24 d.d3).toNat + 16777216 * (arg24 d.d4).toNat⟩]))

/-- O4. LOG_MARK, LOG_CHALLENGE and LOG_CLEAR do what the tables say. When the decoder takes the descriptor and nothing
refuses it: LOG_MARK with a token and room in the staging buffer completes OK with the low 24 bits of the next record
sequence; LOG_CHALLENGE completes OK, holds a nonce of 16 bytes (each a free value) for its purpose and writes it to
the bulk buffer; a LOG_CLEAR with the right response and no clear running uses the nonce, reserves the next sequence,
begins the clear of its regions, and is journaled with OK while the decoder waits. [R177, R436, R456, R457, R458,
Table 6-15] -/
def Obligations.RecorderCommandsComplete : Prop :=
  (∀ (s : State) (d : Desc), s.takes d → s.serves 0x58 → formOk d false false mA mA mA m0 m0 = true → s.log.staged.length < 64 →
    s.burst 15 = 0 ∨ 0 < s.log.tokens[15] →
    acceptsOk (.logMark d) 0x58 d (lo24 (s.log.head + 1)) 0 s (OnlyRings s)) ∧
  (∀ (s : State) (d : Desc), s.takes d → s.serves 0x59 → formOk d false false 3 m0 mB mB mB = true → bulkOk d 16 4 = true →
    fld d.d3 0 2 ≠ 3 → d.dmaOk = true →
    acceptsOk (.logChallenge d) 0x59 d 0 0 s (fun t =>
      ∃ n, t.log.nonce = some (fld d.d3 0 2, n) ∧ n.length = 16 ∧ t.ring.bulkOut = some (bulkAddr d, dwordsOf n))) ∧
  (∀ (s : State) (d : Desc), s.takes d → s.serves 0x5A → formOk d false false 3 m0 mB mB mB = true → bulkOk d 16 4 = true →
    d.d3.getLsbD 0 = true → d.dmaOk = true → s.clearFail (d.d3.getLsbD 1) (bulkBytes d 16) = none → s.log.clear = none →
    completes (.logClear d) s (fun t => Journaled 0x5A d .ok s t ∧ t.log.nonce = none ∧
      t.log.clear = some ⟨d.d3.getLsbD 1, s.log.head, s.log.head + 1⟩ ∧ t.log.marker = t.log.clear ∧
      t.ring.block = some (.logClear d (s.jrn.head + 1)) ∧ t.ring.cpl = s.ring.cpl))

/-- O5. EVENT_FILTER sets a minimum severity and answers the old one; POWER_STATE enters and leaves SLEEP. EVENT_FILTER
for one class completes OK with the old minimum of that class and sets the new one, for 0xFF of all classes;
POWER_STATE ACTIVE is accepted with QUEUED, ends OK at once, and leaves the machine and the two-wire port awake;
POWER_STATE SLEEP where the machine may sleep leaves it asleep. [R171, R183, Table 6-9] -/
def Obligations.FilterAndPowerComplete : Prop :=
  (∀ (s : State) (d : Desc) (k : Fin 14), s.takes d → s.serves 0x70 → formOk d false false 0xFF 0xF m0 m0 m0 = true →
    classPos (256 * fld d.d3 0 8) = k.val → fld d.d3 0 8 ≠ 0xFF → fld d.d4 0 4 ≤ 8 →
    acceptsOk (.eventFilter d) 0x70 d (w24 s.ring.minSev[k]) 0 s (fun t => t.ring.minSev = s.ring.minSev.set k (fld d.d4 0 4) ∧ OnlyRings s t)) ∧
  (∀ (s : State) (d : Desc), s.takes d → s.serves 0x70 → formOk d false false 0xFF 0xF m0 m0 m0 = true →
    fld d.d3 0 8 = 0xFF → fld d.d4 0 4 ≤ 8 →
    acceptsOk (.eventFilter d) 0x70 d (w24 s.ring.minSev[0]) 0 s (fun t => t.ring.minSev = Vector.replicate 14 (fld d.d4 0 4) ∧ OnlyRings s t)) ∧
  (∀ (s : State) (d : Desc), s.takes d → s.serves 0x78 → formOk d false false 3 m0 m0 m0 m0 = true → fld d.d3 0 2 = 0 →
    s.glb.powerRef = none →
    completes (.powerState d) s (fun t => t.jrn.head = s.jrn.head + 2 ∧ Completed 0x78 d .queued (s.jrn.head + 1) 0 0 s t ∧
      t.glb.sleep = false ∧ t.glb.powerRef = none ∧ t.twp.asleep = false ∧ t.awn.mode ≠ .sleep)) ∧
  (∀ (s : State) (d : Desc), s.takes d → s.serves 0x78 → formOk d false false 3 m0 m0 m0 m0 = true → fld d.d3 0 2 = 1 →
    s.glb.powerRef = none → s.glb.sleep = false → s.maySleep = true →
    completes (.powerState d) s (fun t => t.glb.sleep = true ∧ Completed 0x78 d .queued (s.jrn.head + 1) 0 0 s t))

/-- O6. TXN_BEGIN opens, an empty TXN_COMMIT closes and TXN_ROLLBACK rolls back a transaction. TXN_BEGIN in IDLE or
ROLLED_BACK with a new nonzero id and a deadline of 1 to 10,000 ms answers the id and leaves OPEN with that id,
deadline and FORCE_QUIESCE flag, authorised exactly where a right unseal response came with it, whose nonce is used;
TXN_COMMIT of an OPEN transaction that stages nothing, outside DEFAULTS, answers the epoch and leaves IDLE with the id
as the last committed one; TXN_ROLLBACK of an OPEN transaction answers the staged count, discards everything staged
and leaves ROLLED_BACK with cause 1 and island 15. Apart from reports, only the transaction state, the journal and the
rings change at begin and empty commit. [R191, R193, R202, R205, R338, Table 6-11, Table 7-4] -/
def Obligations.TransactionsOpenAndClose : Prop :=
  (∀ (s : State) (d : Desc), s.takes d → s.serves 0x10 → formOk d false true mA 3 m0 m0 m0 = true → d.d4.getLsbD 1 = false →
    s.txn.st = .idle ∨ s.txn.st = .rolledBack → dTxnId d ≠ 0 → dTxnId d ≠ s.txn.lastId → 1 ≤ (arg24 d.d3).toNat → (arg24 d.d3).toNat ≤ 10000 →
    acceptsOk (.txnBegin d) 0x10 d ((dTxnId d).zeroExtend 24) 0 s (fun t =>
      t.txn.st = .opened ∧ t.txn.id = dTxnId d ∧ t.txn.deadlineMs = (arg24 d.d3).toNat ∧ t.txn.force = d.d4.getLsbD 0 ∧ t.txn.authd = false ∧
      ({ t.rest with txn := {} } : State) = { s.rest with txn := {} })) ∧
  (∀ (s : State) (d : Desc), s.takes d → s.serves 0x10 → formOk d false true mA 3 mB mB mB = true → d.d4.getLsbD 1 = true → bulkOk d 32 4 = true →
    s.txn.st = .idle ∨ s.txn.st = .rolledBack → dTxnId d ≠ 0 → dTxnId d ≠ s.txn.lastId → 1 ≤ (arg24 d.d3).toNat → (arg24 d.d3).toNat ≤ 10000 →
    d.dmaOk = true → s.unsealOk (dTxnId d) (bulkBytes d 32) = true →
    acceptsOk (.txnBegin d) 0x10 d ((dTxnId d).zeroExtend 24) 0 s (fun t =>
      t.txn.st = .opened ∧ t.txn.id = dTxnId d ∧ t.txn.authd = true ∧ t.log.nonce = none)) ∧
  (∀ (s : State) (d : Desc), s.takes d → s.serves 0x11 → formOk d false true m0 m0 m0 m0 m0 = true →
    s.txn.st = .opened → dTxnId d = s.txn.id → s.stagedCount = 0 → s.glb.defaults = false →
    acceptsOk (.txnCommit d) 0x11 d (lo24 s.prm.epoch) 0 s (fun t =>
      t.txn.st = .idle ∧ t.txn.lastId = s.txn.id ∧ t.txn.lastCommit = true ∧ ({ t.rest with txn := {} } : State) = { s.rest with txn := {} })) ∧
  (∀ (s : State) (d : Desc), s.takes d → s.serves 0x12 → formOk d false true m0 m0 m0 m0 m0 = true →
    s.txn.st = .opened → dTxnId d = s.txn.id → s.txn.ref = none →
    acceptsOk (.txnRollback d) 0x12 d (w24 s.stagedCount) 0 s (fun t =>
      t.txn.st = .rolledBack ∧ t.txn.failCause = 1 ∧ t.txn.failIsl = 15 ∧ t.txn.staged = [] ∧ t.txn.tables = [] ∧ t.txn.idWords = none ∧
      t.txn.lastId = s.txn.id ∧ t.txn.lastCommit = false ∧ t.prm = s.prm))

/-- O7. TXN_COMMIT of a staged transaction begins the commit, with DEFERRED where an island must first reach its safe
point. TXN_COMMIT of an OPEN transaction that stages something, without FORCE_QUIESCE, is accepted with DEFERRED where
some touched island that needs its safe point is not there, else with QUEUED; it leaves PREPARING with the deadline
running, no votes, and the command as the one that runs. [R197, R198, R202, R208] -/
def Obligations.CommitBegins : Prop :=
  ∀ (s : State) (d : Desc), s.takes d → s.serves 0x11 → formOk d false true m0 m0 m0 m0 m0 = true →
    s.txn.st = .opened → dTxnId d = s.txn.id → s.stagedCount ≠ 0 → s.txn.force = false →
    acceptsLater (.txnCommit d) 0x11 d (if (List.range 9).any (fun i => s.needsSafe i && !s.atSafePoint i) = true then .deferred else .queued) s
      (fun t => t.txn.st = .preparing ∧ t.txn.voted = 0 ∧ t.txn.deadline = some (s.now + 1000 * s.txn.deadlineMs) ∧
        t.txn.ref = some (s.nextRef 0x11 d) ∧ t.txn.staged = s.txn.staged ∧ t.prm.committed = s.prm.committed)

/-- O8. A single PARAM_WRITE puts a live value down for its owner's next tick, or stages it under TXN. A single-value
PARAM_WRITE that nothing bars answers OK with result 1: without TXN the value waits for the owner's tick and nothing
but journal and rings changes beside it; with TXN, for a PID outside the identity block, it is staged. [R173, R186,
R195, Table 6-11] -/
def Obligations.ParamWriteStagesOrDefers : Prop :=
  (∀ (s : State) (d : Desc), s.takes d → s.serves 0x09 → formOk d true false 0x1FFFF mA m0 m0 m0 = true → d.d3.getLsbD 16 = false →
    dTxn d = false → pidExists (fld d.d3 0 16) = true → s.sealBars false (fld d.d3 0 16) [arg24 d.d4] = false →
    s.valueBars false [] (fld d.d3 0 16) (arg24 d.d4) = none →
    acceptsOk (.paramWrite d) 0x09 d 1 0 s (fun t =>
      t.prm.due = assocSet s.prm.due (fld d.d3 0 16) (arg24 d.d4) ∧ ({ t.rest with prm.due := [] } : State) = { s.rest with prm.due := [] })) ∧
  (∀ (s : State) (d : Desc), s.takes d → s.serves 0x09 → formOk d true false 0x1FFFF mA m0 m0 m0 = true → d.d3.getLsbD 16 = false →
    dTxn d = true → s.txnBars d = none → pidExists (fld d.d3 0 16) = true → isTablePid (fld d.d3 0 16) = false →
    isIdentPid (fld d.d3 0 16) = false → s.sealBars true (fld d.d3 0 16) [arg24 d.d4] = false → s.actBars (fld d.d3 0 16) = false →
    s.valueBars true [] (fld d.d3 0 16) (arg24 d.d4) = none → s.stagedCount < 512 →
    acceptsOk (.paramWrite d) 0x09 d 1 0 s (fun t =>
      t.txn.staged = assocSet s.txn.staged (fld d.d3 0 16) (arg24 d.d4) ∧ t.prm = s.prm))

/-- O9. Votes, safe points, the deadline, the commit point and live values do what file 07 says. In PREPARING a touched
island that can vote and votes yes is marked as voted, one that votes no rolls the transaction back with cause 3 and
its number; an island that reaches its safe point is marked; the deadline rolls back with cause 2 and the late island;
the commit point gives the image the next epoch, writes it to the spare banks with the transaction's id and leaves
APPLYING; at an island's tick its waiting live values, and no others, come into force. [R186, R196, R199, R203, R205,
R208, R209, Table 7-4] -/
def Obligations.TransactionEventsComplete : Prop :=
  (∀ (s : State) (i : Island), s.txn.st = .preparing → s.touches (islNum i) = true → s.txn.voted.getLsbD (islNum i) = false →
    s.canVote (islNum i) = true →
    completes (.txnVote i) s (fun t =>
      if s.votesYes (islNum i) = true then t.txn.voted = setB s.txn.voted (islNum i) true
      else t.txn.st = .rolledBack ∧ t.txn.failCause = 3 ∧ t.txn.failIsl = BitVec.ofNat 4 (islNum i) ∧ t.txn.staged = [])) ∧
  (∀ (s : State) (i : Island), s.txn.st = .preparing ∨ s.txn.st = .waiting → s.touches (islNum i) = true → s.needsSafe (islNum i) = true →
    s.txn.atSafe.getLsbD (islNum i) = false → s.atSafePoint (islNum i) = true →
    completes (.safePointReached i) s (fun t => t.txn.atSafe = setB s.txn.atSafe (islNum i) true ∧ t.txn.voted = s.txn.voted)) ∧
  (∀ s : State, s.txn.st = .preparing ∨ s.txn.st = .waiting →
    completes .txnDeadline s (fun t => t.txn.st = .rolledBack ∧ t.txn.failCause = 2 ∧ t.txn.failIsl = BitVec.ofNat 4 s.lateIsland ∧ t.txn.staged = [])) ∧
  (∀ s : State, s.txn.st = .applying → s.txn.imageDone = false → s.txn.written = true → s.logUp = true →
    completes .commitPoint s (fun t => t.txn.st = .applying ∧ t.txn.imageDone = true ∧ t.prm.highEpoch = s.prm.highEpoch + 1 ∧
      t.glb.defaults = false ∧ t.prm.committed = s.prm.committed ∧
      (s.spare.1 = true → t.prm.bankA = ⟨true, s.prm.highEpoch + 1, s.txn.id, s.nextImage⟩) ∧
      (s.spare.2 = true → t.prm.bankB = ⟨true, s.prm.highEpoch + 1, s.txn.id, s.nextImage⟩))) ∧
  (∀ (s : State) (i : Island), (s.prm.due.filter (fun p => blockOwner (p.1 / 256) = islNum i)) ≠ [] →
    completes (.liveParamApply i) s (fun t =>
      t.prm.due = s.prm.due.filter (fun p => blockOwner (p.1 / 256) != islNum i) ∧
      t.prm.live = (s.prm.due.filter (fun p => blockOwner (p.1 / 256) = islNum i)).foldl (fun l p => assocSet l p.1 p.2) s.prm.live))

/-- O10. At the apply strobe every staged value comes into force at once. At APPLY_STROBE in APPLYING with the image
written, the committed image becomes the staged image, the epoch in force the image's, and no staged value and no live
value of a staged PID is left; the transaction is IDLE with its id as the last committed one. [R201, R209] -/
def Obligations.StrobeAppliesAll : Prop :=
  ∀ s : State, s.txn.st = .applying → s.txn.imageDone = true →
    completes .applyStrobe s (fun t => t.prm.committed = s.nextImage ∧ t.prm.epoch = s.prm.highEpoch ∧
      t.prm.live = s.prm.live.filter (fun p => !(s.txn.staged.map Prod.fst).contains p.1) ∧
      t.txn.st = .idle ∧ t.txn.staged = [] ∧ t.txn.tables = [] ∧ t.txn.idWords = none ∧ t.txn.lastId = s.txn.id ∧ t.txn.lastCommit = true)

/-- O11. The read-sensitive registers answer their value and then have their side effect. While a BAR access reaches the
function, each read-sensitive register answers its value as it stood; HST_WAKE_CAUSE then takes its snapshot and keeps
the causes, HST_DMA_ERR, SUP_LATCH and LOG_CRIT clear, CLK_LATCH clears but for clocks that are still bad,
SUP_VBUS_MIN takes the present VBUS, and LOG_FLUSH answers the number of staged records. Nothing else changes apart
from reports. [R147, R150, R75, R111, R450, R461, R497] -/
def Obligations.ReadsWithSideEffects : Prop :=
  ∀ s : State, s.barUp = true →
    (completes .hstWakeCauseRead s (fun t => t.resp = .sc (s.keep.cause.zeroExtend 32) ∧ t.keep.since = 0 ∧ t.keep.cause = s.keep.cause) ∧
      completesAs .hstWakeCauseRead s { s with resp := .sc (s.keep.cause.zeroExtend 32) }) ∧
    completesAs .hstDmaErr s { s with resp := .sc ((s.host.dmaErrWrite ++ s.host.dmaErrRead : BitVec 16).zeroExtend 32), host.dmaErrRead := 0, host.dmaErrWrite := 0 } ∧
    completesAs .supVbusMin s { s with resp := .sc (s.sup.vbusMin.zeroExtend 32), sup.vbusMin := s.sup.vbus } ∧
    completesAs .supLatch s { s with resp := .sc (s.sup.latch.zeroExtend 32), sup.latch := 0 } ∧
    completesAs .clkLatch s { s with resp := .sc (s.clk.latch.zeroExtend 32), clk.latch := s.clk.latch &&& ~~~ s.clk.good } ∧
    (completes .logCrit s (fun t => t.resp = .sc (s.log.crit.zeroExtend 32) ∧ t.log.crit = 0) ∧
      completesAs .logCrit s { s with resp := .sc (s.log.crit.zeroExtend 32) }) ∧
    completesAs .logFlush s { s with resp := .sc ((w24 s.log.staged.length).zeroExtend 32) }

/-- O12. The register writes with rows of their own have the effect their access code gives and no other. While a BAR
access reaches the function: a write to HST_WAKE_CAUSE clears exactly the written causes that have not occurred since
the snapshot; a write to GLB_CAUSE clears the written bits while RUN is clear and nothing while it is set; PRM_ID,
LOG_CURSOR, LOG_WIN_CTL and HST_JRN_CURSOR take their value, whatever RUN holds. Bits 31:24 are discarded. [R18, R91,
R123, R147, R217, R222, R454, R461] -/
def Obligations.WritesWithSideEffects : Prop :=
  ∀ (s : State) (v : W32), s.barUp = true →
    (completes (.hstWakeCauseWrite v) s (fun t => t.keep.cause = s.keep.cause &&& ~~~ (v.extractLsb' 0 6 &&& ~~~ s.keep.since)) ∧
      completesAs (.hstWakeCauseWrite v) s s) ∧
    completesAs (.glbCause v) s (if s.host.run = true then s else { s with glb.cause := s.glb.cause &&& ~~~ v.extractLsb' 0 24 }) ∧
    completesAs (.prmId v) s { s with prm.prmId := v.extractLsb' 0 16 } ∧
    completesAs (.logCursor v) s { s with log.cursor := v.extractLsb' 0 24 } ∧
    completesAs (.logWinCtl v) s { s with log.seqMode := v.getLsbD 0 } ∧
    completesAs (.hstJrnCursor v) s { s with host.jrnCursor := v.extractLsb' 0 24 }

/-- O13. REGISTER_WRITE: discarded while RUN is set, without effect on a reserved offset, else it sets up. For an aligned
BAR0 offset below 0xF000 that has no row of its own: a write while RUN is set changes nothing but reports; a write to
a reserved offset changes nothing; while RUN is clear, writes to HST_RING_SIZE, HST_POLL_FAST, HST_POLL_IDLE,
HST_POLL_HOLD, HST_VEC_MAP, HST_IRQ_MOD and HST_WAKE_EN take bits 23:0 cut to the register's width, and a write
outside the HST_ block changes nothing. [R4, R8, R123, R149, R150, R496, R498] -/
def Obligations.RegisterWriteRules : Prop :=
  ∀ (s : State) (v : W32), s.barUp = true →
    (∀ off, off < 0xF000 → off % 4 = 0 → rowOffsets.contains off = false →
      ((s.host.run = true ∨ isReg off = false ∨ off < 0x400 ∨ 0x800 ≤ off) → completesAs (.registerWrite off v) s s)) ∧
    (s.host.run = false →
      completesAs (.registerWrite 0x444 v) s { s with host.ringSize := v.extractLsb' 0 12 } ∧
      completesAs (.registerWrite 0x448 v) s { s with host.pollFast := v.extractLsb' 0 24 } ∧
      completesAs (.registerWrite 0x44C v) s { s with host.pollIdle := v.extractLsb' 0 24 } ∧
      completesAs (.registerWrite 0x450 v) s { s with host.pollHold := v.extractLsb' 0 24 } ∧
      completesAs (.registerWrite 0x45C v) s { s with host.vecMap := v.extractLsb' 0 24 } ∧
      completesAs (.registerWrite 0x460 v) s { s with host.irqMod := v.extractLsb' 0 24 } ∧
      completesAs (.registerWrite 0x464 v) s { s with keep.wakeEn := v.extractLsb' 0 6 })

/-- O14. A bad read answers Unsupported Request, a bad write is discarded, both are logged, and nothing else changes. While a BAR
access reaches the function, a BAR0 request outside the MSI-X table and PBA that is not one whole aligned dword completes: a read
answers Unsupported Request, a write changes nothing. A BAR2 read of more than 64 dwords, or one that touches a window without
lying inside it, completes with Unsupported Request. Where the recorder takes a record at once, each has staged one record
HOST_BAD_ACCESS of severity 2 with the offset and the BAR. [R118, R120, R153] -/
def Obligations.BadAccessesAnswerUr : Prop :=
  (∀ (s : State) (off : Nat), s.barUp = true → inMsix off = false →
    completes (.hostBadAccess false off) s (fun t => t.resp = .ur ∧ t.quiet = ({ s with resp := .ur } : State).quiet ∧
      (s.records 0x0309 2 → Recorded 0x0309 2 (w24 off) 0 s t)) ∧
    completes (.hostBadAccess true off) s (fun t => t.resp = s.resp ∧ t.quiet = s.quiet ∧
      (s.records 0x0309 2 → Recorded 0x0309 2 (w24 off) 0 s t))) ∧
  (∀ (s : State) (off n : Nat), s.barUp = true → off % 4 = 0 →
    64 < n ∨ (off < 0x100 ∧ 0x100 < off + 4 * n) ∨ (0x1000 ≤ off ∧ off < 0x1100 ∧ 0x1100 < off + 4 * n) ∨
      (0x2000 ≤ off ∧ off < 0x2400 ∧ 0x2400 < off + 4 * n) ∨ (0x100 ≤ off ∧ off < 0x1000 ∧ 0x1000 < off + 4 * n) ∨
      (0x1100 ≤ off ∧ off < 0x2000 ∧ 0x2000 < off + 4 * n) →
    completes (.bar2BadRead off n) s (fun t => t.resp = .ur ∧ t.quiet = ({ s with resp := .ur } : State).quiet ∧
      (s.records 0x0309 2 → Recorded 0x0309 2 (w24 off) 2 s t)))

/-- O15. RUN starts the rings or reports the failing check; a stop with the decoder idle ends at once. HOST_RUN where RUN
may start and the link is in L0 or L1 in D0: with every check of Table 5-4 passed the rings run from index 0 with the
doorbell's generation, the event minimums of the parameters and the host-silence timer armed; with a failing check RUN
stays clear and SETUP_ERR shows its code. HOST_STOP with no descriptor in decode clears RUN and RUNNING and drops the
fetched descriptors; with one in decode it waits. [R122, R124, R137, R150, R183, Table 5-4] -/
def Obligations.RunAndStop : Prop :=
  (∀ (s : State) (l : Doorbell) (ok : Bool), s.mayRun = true → s.host.link = .l0 ∨ s.host.link = .l1 → s.host.d3hot = false →
    s.setupCode ok = 0 →
    completes (.hostRun l ok) s (fun t => t.host.run = true ∧ t.host.running = true ∧ t.host.gen = l.gen ∧ t.ring.cmdCons = 0 ∧
      t.ring.cplProd = 0 ∧ t.ring.cpl = [] ∧ t.ring.backlog = [] ∧ t.ring.block = none ∧ t.sil.armed = true ∧ t.host.setupErr = false ∧
      t.ring.minSev = Vector.ofFn (fun (k : Fin 14) => s.pn (0x0810 + k.val)))) ∧
  (∀ (s : State) (l : Doorbell) (ok : Bool), s.mayRun = true → s.host.link = .l0 ∨ s.host.link = .l1 → s.host.d3hot = false →
    s.setupCode ok ≠ 0 →
    completes (.hostRun l ok) s (fun t => t.host.run = false ∧ t.host.running = false ∧ t.host.setupErr = true ∧
      t.host.errCode = BitVec.ofNat 3 (s.setupCode ok))) ∧
  (∀ s : State, s.barUp = true → s.host.run = true → s.decoderIdle = true →
    completes .hostStop s (fun t => t.host.run = false ∧ t.host.running = false ∧ t.ring.backlog = [] ∧ t.ring.block = none ∧
      t.ring.announced = 0 ∧ (s.txn.st = .opened → t.txn.st = .rolledBack))) ∧
  (∀ s : State, s.barUp = true → s.host.run = true → s.decoderIdle = false →
    completesAs .hostStop s { s with host.run := false, host.stopping := true })

/-- O16. A poll takes the indices, announces the new descriptors, stops on a new generation, and counts a failed read.
While HOST may poll: a line with the generation of HST_GEN and a command producer index no more than a ring ahead, no
sleep request, the same heartbeat and no overflow to report leaves the three indices taken and, with no descriptor
fetched or waiting, the difference of producer and consumer announced; a line with another generation, with the
decoder idle, stops the rings and sets GEN_CHANGED; a failed read sets DMA_FAULT and is counted. [R128, R134, R135,
R151] -/
def Obligations.PollTakesTheLine : Prop :=
  (∀ (s : State) (l : Doorbell), s.mayPoll = true → l.gen = s.host.gen → (l.cmdProd - s.ring.cmdCons).toNat ≤ s.ringEntries 0 →
    l.sleepReq = false → s.ring.beat = some l.beat → s.ring.evtMissed = 0 → s.ring.backlog = [] → s.ring.block = none →
    s.host.d3Due = false → s.host.pmeDue = false →
    completes (.poll (some l) []) s (fun t => t.ring.cmdProd = l.cmdProd ∧ t.ring.cplCons = l.cplCons ∧ t.ring.evtCons = l.evtCons ∧
      t.ring.announced = (l.cmdProd - s.ring.cmdCons).toNat ∧ t.ring.cmdCons = s.ring.cmdCons ∧ t.ring.sleepReq = false)) ∧
  (∀ (s : State) (l : Doorbell), s.mayPoll = true → l.gen ≠ s.host.gen → s.decoderIdle = true →
    completes (.poll (some l) []) s (fun t => t.host.genChanged = true ∧ t.host.run = false ∧ t.host.running = false ∧ t.host.gen = s.host.gen)) ∧
  (∀ s : State, s.mayPoll = true → s.host.dmaErrRead ≠ 0xFF →
    completes (.poll none []) s (fun t => t.host.dmaFault = true ∧ t.host.dmaErrRead = s.host.dmaErrRead + 1 ∧ t.host.run = true))

/-- O17. Fences, stalls, bulk copies, DMA faults, mirror writes and moderation ends have the effect of files 05 and 06. A
fence whose earlier commands all ended lets its NOP be decoded; a full completion ring is marked as stalled; a waiting
GET_STATUS or JOURNAL_COPY starts with its snapshot; a bulk copy that ends OK puts its buffer into host memory and
gives its command one outcome entry with OK; a failed completion, event or mirror write stops the rings and is
counted, a failed descriptor read is counted only; MIRROR_WRITE writes the mirror with one more heartbeat; the end of
a moderation interval ends it, or sends what was held back. [R131, R132, R143, R151, R159, R162, R179, R180, R181] -/
def Obligations.RingEventsComplete : Prop :=
  (∀ (s : State) (d : Desc), s.ring.block = some (.fence 0x01 d) → s.ring.outstanding = [] → s.ring.backlog = [] →
    ({ s with ring.block := none } : State).canDecode = true → s.ring.sleepReq = false → s.host.d3Due = false → s.host.pmeDue = false →
    s.serves 0x01 → formOk d false false m0 m0 m0 m0 m0 = true →
    acceptsOk .fenceRelease 0x01 d 0 0 s (fun t => t.ring.block = none ∧ t.ring.cmdCons = s.ring.cmdCons + 1)) ∧
  (∀ s : State, s.host.running = true → s.cplFree = 0 → s.ring.stalled = false →
    completesAs .cplRingStall s { s with ring.stalled := true }) ∧
  (∀ (s : State) (j : BulkJob) (rest : List BulkJob), s.ring.bulkWait = j :: rest → s.ring.bulkRun = none → s.hostUp = true → s.dmaOpen = true →
    j.ref.op ≠ 0x5B → completesAs .bulkCopyStart s { s with ring.bulkWait := rest, ring.bulkRun := some (j, s.copyOf j) }) ∧
  (∀ (s : State) (j : BulkJob) (ws : List W32) (r : W24), s.ring.bulkRun = some (j, ws, r) → s.hostUp = true → s.dmaOpen = true →
    j.ref ∈ s.ring.outstanding →
    completes (.bulkCopyDone true) s (fun t => t.ring.bulkRun = none ∧ t.ring.bulkOut = some (j.addr, ws) ∧
      t.ring.outstanding = s.ring.outstanding.erase j.ref ∧ t.jrn.head = s.jrn.head + 1 ∧
      t.jrn.entries.head? = some ⟨s.jrn.head + 1, j.ref.op, j.ref.flags, j.ref.tag, j.ref.txn, false, .ok, .outcome j.ref.jseq r 0 0⟩)) ∧
  (∀ (s : State) (k : DmaStruct), s.host.running = true → s.host.run = true → s.hostUp = true → s.dmaOpen = true → s.decoderIdle = true →
    s.host.dmaErrWrite ≠ 0xFF → k = .completion ∨ k = .event ∨ k = .mirror →
    completes (.hostDmaFault k) s (fun t => t.host.dmaFault = true ∧ t.host.dmaErrWrite = s.host.dmaErrWrite + 1 ∧ t.host.run = false ∧ t.host.running = false)) ∧
  (∀ s : State, s.host.running = true → s.hostUp = true → s.dmaOpen = true → s.host.dmaErrRead ≠ 0xFF →
    completesAs (.hostDmaFault .command) s { s with host.dmaErrRead := s.host.dmaErrRead + 1 }) ∧
  (∀ s : State, s.host.run = true → s.mirrorOpen = true → s.mirrorTime = s.now →
    completes .mirrorWrite s (fun t => t.ring.mirror = s.mirrorNow ∧ t.ring.mirrorBeat = s.ring.mirrorBeat + 1 ∧ t.ring.mirrorAt = some s.now)) ∧
  (∀ s : State, s.ring.modEvt = true → s.ring.heldEvt = false → s.ring.irqDue = [] →
    completes (.irqModerationEnd true) s (fun t => t.ring.modEvt = false ∧ t.ring.irqs = s.ring.irqs)) ∧
  (∀ s : State, s.ring.modCpl = true → s.ring.heldCpl = true → s.irqOpen = true → s.host.cfg.msix = false →
    s.host.cfg.msiMask.getLsbD (s.vector 0) = false → s.ring.irqDue = [] → s.mirrorTime = s.now →
    completes (.irqModerationEnd false) s (fun t => t.ring.modCpl = true ∧ t.ring.heldCpl = false ∧ t.ring.irqs = (0, s.vector 0) :: s.ring.irqs))

/-- O18. Host silence becomes active, and SAFE_STOP is entered where the action says so. At the expiry of the armed
host-silence timer, silence is active from now on; PARK is in force exactly where the action is 1; where it is 2 and
the guard is in RUN or RESTRICT, the guard is in SAFE_STOP with cause 17; an OPEN
transaction rolls back with cause 6; where the action is 0 and no transaction is OPEN, nothing but silence and reports changes.
[R140, Table 5-7, R190, Table 7-4, R328] -/
def Obligations.HostSilenceActs : Prop :=
  ∀ s : State, s.guardUp = true → s.sil.armed = true → s.sil.active = false → s.sil.suspended = false →
    completes .hostSilence s (fun t => t.sil.active = true ∧ t.sil.since = s.now ∧ (t.sil.park = true ↔ s.silActNow = 1) ∧
      (s.silActNow = 2 → s.grd.st.grants = true → t.grd.st = .safeStop ∧ t.grd.cause = 17) ∧
      (s.txn.st = .opened → t.txn.st = .rolledBack ∧ t.txn.failCause = 6 ∧ t.txn.failIsl = 15 ∧ t.txn.staged = []) ∧
      (s.silActNow = 0 → s.txn.st ≠ .opened → t.quiet = ({ s with sil.active := true, sil.since := s.now, sil.park := false } : State).quiet))

/-- O19. Resets, power states and link changes of the host link leave what files 04 and 05 say. PE_PERST_N falling, an FLR
and the loss of the reference put HOST into reset with its set-up registers at their reset values and HST_GEN kept;
PE_PERST_N rising and the reference returning are recorded; with no descriptor waiting a write of the configuration
enables takes effect, D3hot and D0 are entered with the link in L1 and L0, PME_Turn_Off ends in L2/L3 Ready, link
training leaves L0 and releases PE_WAKE_N, and a link down is down. Until READY is set a configuration request is answered with
Configuration Request Retry Status and has no other effect. [R19, R80, R107, R114, R116, R144, R145, R148] -/
def Obligations.LinkEventsComplete : Prop :=
  (∀ s : State, s.land.perstN = true → completes .pePerstNFall s (fun t => t.land.perstN = false ∧ t.isl 0 = .off ∧ t.host.run = false ∧
    t.host.ready = false ∧ t.host.gen = s.host.gen ∧ t.host.ringSize = 0 ∧ t.host.pollFast = 0x32 ∧ t.glb.cause.getLsbD 2 = true ∧ t.grd.st = s.grd.st)) ∧
  (∀ s : State, s.land.perstN = false → completes .pePerstNRise s (fun t => t.land.perstN = true ∧ t.host.run = s.host.run ∧ t.host.gen = s.host.gen)) ∧
  (∀ s : State, s.cfgUp = true → completes .flr s (fun t => t.host.run = false ∧ t.host.ready = false ∧ t.host.gen = s.host.gen ∧
    t.host.link = (if s.host.d3hot = true then .l0 else s.host.link) ∧ t.host.ringSize = 0 ∧ t.land.perstN = s.land.perstN)) ∧
  (∀ s : State, s.clk.refclk = true → s.isl 0 ≠ .off → completes (.referenceClockChange false) s (fun t => t.clk.refclk = false ∧ t.isl 0 = .off ∧
    t.host.link = .down ∧ t.clk.good.getLsbD 5 = false ∧ t.clk.good.getLsbD 6 = false)) ∧
  (∀ s : State, s.clk.refclk = false → completes (.referenceClockChange true) s (fun t => t.clk.refclk = true)) ∧
  (∀ (s : State) (c : CfgBits), s.cfgUp = true → s.ring.backlog = [] → s.host.d3Due = false → s.host.pmeDue = false → s.host.stopping = false →
    completes (.busMasterEnable c) s (fun t => t.host.cfg = c ∧ t.host.run = s.host.run)) ∧
  (∀ s : State, s.cfgUp = true → s.host.d3hot = false → s.decoderIdle = true → s.host.pmeDue = false →
    completes .d3hotEntry s (fun t => t.host.d3hot = true ∧ t.host.d3Due = false ∧ t.host.link = .l1 ∧ t.host.run = s.host.run)) ∧
  (∀ s : State, s.cfgUp = true → s.host.d3hot = true → s.host.d3Due = false → s.ring.backlog = [] → s.host.pmeDue = false → s.host.stopping = false →
    completes .d0Return s (fun t => t.host.d3hot = false ∧ t.host.link = .l0 ∧ t.keep.wakeN = false ∧ t.sil.suspended = false)) ∧
  (∀ s : State, s.host.link = .l0 ∨ s.host.link = .l1 → s.decoderIdle = true → s.host.d3Due = false →
    completes .pmeTurnOff s (fun t => t.host.link = .l23 ∧ t.host.pmeDue = false)) ∧
  (∀ s : State, s.isl 0 ≠ .off → s.hostAllowed = true → s.host.link ≠ .l23 → s.sup.level.val < 4 → s.host.d3hot = false → s.ring.backlog = [] →
    s.host.d3Due = false → s.host.pmeDue = false → s.host.stopping = false →
    completes .linkL0 s (fun t => t.host.link = .l0 ∧ t.keep.wakeN = false)) ∧
  (∀ (s : State) (c : CfgBits), s.cfgSeen = true → s.host.ready = false →
    completesAs (.busMasterEnable c) s { s with resp := .crs } ∧ completesAs .d3hotEntry s { s with resp := .crs } ∧
    completesAs .d0Return s { s with resp := .crs } ∧ completesAs .flr s { s with resp := .crs }) ∧
  (∀ s : State, s.host.link ≠ .down → completesAs .linkDown s { s with host.link := .down, host.pmeDue := false })

/-- O20. The five lift commands take their calls, cancels, homings, holds and releases. Where the decoder takes the
descriptor, its form is right and LIFT serves: LIFT_CALL of an enabled landing the priority may call adds a call with
the next arrival order and answers QUEUED with the number of calls, or merges into the call already there with extra
1; LIFT_CANCEL where no dispatched call is named removes the calls named that are not dispatched and answers their
number; LIFT_HOME in NOT_HOMED, IDLE or HOLD with both permits drops every call and enables the stage: it commands the brake
output on at once, or first awaits the verification of a stage with an encoder; LIFT_HOLD in IDLE enters HOLD with cause 1, in a trip or door cycle it stays pending; LIFT_RELEASE in HOLD
without a persisting cause answers 1 and leaves IDLE, else answers 0 and changes nothing. Calls, cancels that end
nothing and releases change nothing else but journal, rings and reports. [R166, R174, R349, R350, R360, R362, Table
6-12] -/
def Obligations.LiftCommandsComplete : Prop :=
  (∀ (s : State) (d : Desc), s.takes d → s.serves 0x20 → s.liftEn = true → formOk d false false 0x13F mA m0 m0 m0 = true →
    fld d.d3 0 4 < 12 → (arg24 d.d4).toNat ≤ 600000 → s.ldgEn (fld d.d3 0 4) = true → (s.pv (ldgP (fld d.d3 0 4) 7)).getLsbD (fld d.d3 4 2) = true →
    (d.d3.getLsbD 8 = true → s.ldgDoor (fld d.d3 0 4) ≠ 0) → s.lift.st ≠ .notHomed → s.lift.st ≠ .fault → s.glb.sleep = false →
    (s.lift.calls.find? (fun c => c.landing.val = fld d.d3 0 4) = none → s.lift.calls.length < 16 →
      completes (.liftCall d) s (fun t => Journaled 0x20 d .queued s t ∧
        Completed 0x20 d .queued (s.jrn.head + 1) (w24 (s.lift.calls.length + 1)) 0 s t ∧
        t.ring.outstanding = s.ring.outstanding ++ [s.nextRef 0x20 d] ∧
        t.lift = { s.lift with
          calls := s.lift.calls ++ [⟨Fin.ofNat 12 (fld d.d3 0 4), Fin.ofNat 4 (fld d.d3 4 2), d.d3.getLsbD 8, (arg24 d.d4).toNat, decide ((arg24 d.d4).toNat = 0),
            s.lift.order, [s.nextRef 0x20 d], false⟩],
          order := s.lift.order + 1 } ∧
        ({ t.rest with lift := {} } : State) = { s.rest with lift := {} })) ∧
    (s.lift.calls.find? (fun c => c.landing.val = fld d.d3 0 4) ≠ none →
      completes (.liftCall d) s (fun t => Journaled 0x20 d .queued s t ∧
        Completed 0x20 d .queued (s.jrn.head + 1) (w24 s.lift.calls.length) 1 s t ∧
        t.lift = { s.lift with calls := s.lift.calls.map (fun c => if c.landing.val = fld d.d3 0 4 then
          { c with prio := max c.prio (Fin.ofNat 4 (fld d.d3 4 2)), door := c.door || d.d3.getLsbD 8,
                   dwell := max c.dwell (arg24 d.d4).toNat,
                   dwellDef := c.dwellDef || decide ((arg24 d.d4).toNat = 0), refs := c.refs ++ [s.nextRef 0x20 d] } else c) } ∧
        ({ t.rest with lift := {} } : State) = { s.rest with lift := {} }))) ∧
  (∀ (s : State) (d : Desc), s.takes d → s.serves 0x21 → s.liftEn = true → formOk d false false 0xF m0 m0 m0 m0 = true →
    fld d.d3 0 4 < 12 ∨ fld d.d3 0 4 = 15 →
    (∀ c ∈ s.lift.calls, c.dispatched = true → c.landing.val ≠ fld d.d3 0 4) →
    completes (.liftCancel d) s (fun t =>
      Completed 0x21 d .ok (s.jrn.head + 1) (w24 (s.lift.calls.filter (fun c => !c.dispatched && (fld d.d3 0 4 = 15 || c.landing.val = fld d.d3 0 4))).length) 0 s t ∧
      t.lift = { s.lift with calls := s.lift.calls.filter (fun c => c.dispatched || !(fld d.d3 0 4 = 15 || c.landing.val = fld d.d3 0 4)) } ∧
      ({ t.rest with lift := {} } : State) = { s.rest with lift := {} })) ∧
  (∀ (s : State) (d : Desc), s.takes d → s.serves 0x22 → s.liftEn = true → formOk d false false m0 m0 m0 m0 m0 = true → s.glb.sleep = false →
    s.lift.st = .idle ∨ s.lift.st = .notHomed ∨ s.lift.st = .hold → s.lift.homeRef = none → s.heldAtSafe 2 = false → s.axisHeld 0 = false →
    s.permit 0 = true → s.permit 16 = true → (s.axis 0).st ≠ .fault →
    completes (.liftHome d) s (fun t => Completed 0x22 d .queued (s.jrn.head + 1) 0 0 s t ∧ t.lift.st = .notHomed ∧
      t.lift.homeRef = some (s.nextRef 0x22 d) ∧ t.lift.calls = [] ∧ t.lift.last = 15 ∧ t.lift.target = 15 ∧ (t.axis 0).stage = true ∧
      ((s.axis 0).stage = true ∧ (s.axis 0).verifying = false ∨ (s.axis 0).stage = false ∧ s.encOn 0 = false →
        t.lift.phase = .homeBrake ∧ t.lift.brake = (match s.chan 0x2002 with
          | none => true
          | some c => s.outGranted c)) ∧
      ((s.axis 0).stage = false → s.encOn 0 = true →
        t.lift.phase = .homeVerify ∧ t.lift.brake = s.lift.brake ∧ (t.axis 0).st = .enabling ∧ (t.axis 0).verifying = true))) ∧
  (∀ (s : State) (d : Desc), s.takes d → s.serves 0x23 → s.liftEn = true → formOk d false false m0 m0 m0 m0 m0 = true →
    (s.lift.st = .idle → s.heldAtSafe 2 = false → completes (.liftHold d) s (fun t => Completed 0x23 d .queued (s.jrn.head + 1) 0 0 s t ∧ t.lift.st = .hold ∧
      t.lift.holdCause = 1 ∧ t.lift.pendHold = none ∧ t.lift.holdRefs = [] ∧ t.lift.calls = s.lift.calls)) ∧
    (s.lift.st = .run ∨ s.lift.st = .approach ∨ s.lift.st = .level ∨ s.lift.st = .dispatch ∨ s.lift.st = .doorCycle →
      acceptsLater (.liftHold d) 0x23 d .queued s (fun t =>
        t.lift = { s.lift with pendHold := some 1, holdRefs := s.lift.holdRefs ++ [s.nextRef 0x23 d] } ∧
        ({ t.rest with lift := {} } : State) = { s.rest with lift := {} }))) ∧
  (∀ (s : State) (d : Desc), s.takes d → s.serves 0x24 → s.liftEn = true → formOk d false false m0 m0 m0 m0 m0 = true →
    (s.lift.st = .hold → s.holdPersists = false → acceptsOk (.liftRelease d) 0x24 d 1 0 s (fun t =>
      t.lift = { s.lift with st := .idle, holdCause := 0, holdL3 := false, holdDoor := none, dir := 0 } ∧
      ({ t.rest with lift := {} } : State) = { s.rest with lift := {} })) ∧
    (s.lift.st ≠ .hold ∨ s.holdPersists = true → acceptsOk (.liftRelease d) 0x24 d 0 0 s (OnlyRings s)))

/-- O21. DOOR_OPEN, DOOR_CLOSE and DOOR_HOLD act on the door named. Where the decoder takes the descriptor of an enabled
door outside a lift door cycle: DOOR_OPEN of a closed and locked door with its permit leaves an open due with the
hold-open time of the argument or of the parameter; of an OPEN door it starts the hold-open time again and ends OK;
DOOR_CLOSE of an OPEN door leaves a close due, of a closed and locked door it ends OK; DOOR_HOLD of an OPEN door holds
it with no end for 0, else adds to the hold-open time, at most 600 s in all. The other door, and everything but the
doors, journal, rings and reports, is unchanged. [R166, R175, R379, R380, R381, Table 6-12] -/
def Obligations.DoorCommandsComplete : Prop :=
  (∀ (s : State) (d : Desc), s.takes d → s.serves 0x28 → formOk d false false 1 mA m0 m0 m0 = true → (arg24 d.d4).toNat ≤ 600000 →
    s.drEn (fld d.d3 0 1) = true → (s.dr (fld d.d3 0 1)).cycle = false → s.glb.sleep = false → s.heldAtSafe 2 = false →
    s.axisHeld (fld d.d3 0 1 + 1) = false → s.drPermit (fld d.d3 0 1) = true →
    ((s.dr (fld d.d3 0 1)).st = .closedLocked →
      completes (.doorOpen d) s (fun t => Completed 0x28 d .queued (s.jrn.head + 1) 0 0 s t ∧
        t.dr (fld d.d3 0 1) = { s.dr (fld d.d3 0 1) with
          holdMs := if d.d4 = 0#32 then none else some (arg24 d.d4).toNat, openRefs := (s.dr (fld d.d3 0 1)).openRefs ++ [s.nextRef 0x28 d],
          openDue := true, closeDue := false, closeRefs := [] } ∧
        (∀ k, k ≠ fld d.d3 0 1 → t.dr k = s.dr k) ∧ ({ t.rest with door := s.door } : State) = s.rest)) ∧
    ((s.dr (fld d.d3 0 1)).st = .opened →
      completes (.doorOpen d) s (fun t => Completed 0x28 d .queued (s.jrn.head + 1) 0 0 s t ∧
        t.dr (fld d.d3 0 1) = { s.dr (fld d.d3 0 1) with
          holdMs := if d.d4 = 0#32 then none else some (arg24 d.d4).toNat,
          holdEnd := some (s.now + (if d.d4 = 0#32 then s.pn (drP (fld d.d3 0 1) 0x0C) else (arg24 d.d4).toNat) * 1000), holdInf := false, closeDue := false } ∧
        t.ring.outstanding = (s.ring.outstanding ++ [s.nextRef 0x28 d]).erase (s.nextRef 0x28 d) ∧
        (∀ k, k ≠ fld d.d3 0 1 → t.dr k = s.dr k) ∧ ({ t.rest with door := s.door } : State) = s.rest))) ∧
  (∀ (s : State) (d : Desc), s.takes d → s.serves 0x29 → formOk d false false 1 m0 m0 m0 m0 = true → s.drEn (fld d.d3 0 1) = true →
    (s.dr (fld d.d3 0 1)).cycle = false → s.glb.sleep = false →
    ((s.dr (fld d.d3 0 1)).st = .opened → s.heldAtSafe 2 = false → s.axisHeld (fld d.d3 0 1 + 1) = false →
      completes (.doorClose d) s (fun t => Completed 0x29 d .queued (s.jrn.head + 1) 0 0 s t ∧
        t.dr (fld d.d3 0 1) = { s.dr (fld d.d3 0 1) with
          closeRefs := (s.dr (fld d.d3 0 1)).closeRefs ++ [s.nextRef 0x29 d], closeDue := true, openDue := false, holdInf := false, openRefs := [] } ∧
        (∀ k, k ≠ fld d.d3 0 1 → t.dr k = s.dr k) ∧ ({ t.rest with door := s.door } : State) = s.rest)) ∧
    ((s.dr (fld d.d3 0 1)).st = .closedLocked →
      completes (.doorClose d) s (fun t => Completed 0x29 d .queued (s.jrn.head + 1) 0 0 s t ∧
        t.dr (fld d.d3 0 1) = { s.dr (fld d.d3 0 1) with openDue := false, openRefs := [] } ∧
        (∀ k, k ≠ fld d.d3 0 1 → t.dr k = s.dr k) ∧ ({ t.rest with door := s.door } : State) = s.rest))) ∧
  (∀ (s : State) (d : Desc), s.takes d → s.serves 0x2A → formOk d false false 1 mA m0 m0 m0 = true → s.drEn (fld d.d3 0 1) = true →
    (s.dr (fld d.d3 0 1)).cycle = false → (s.dr (fld d.d3 0 1)).st = .opened →
    acceptsOk (.doorHold d) 0x2A d 0 0 s (fun t =>
      t.dr (fld d.d3 0 1) = (if (arg24 d.d4).toNat = 0 then { s.dr (fld d.d3 0 1) with holdInf := true, closeDue := false }
        else { s.dr (fld d.d3 0 1) with
          closeDue := false
          holdEnd := some (s.now + min 600000000 (((s.dr (fld d.d3 0 1)).holdEnd.getD s.now) - s.now + (arg24 d.d4).toNat * 1000)) }) ∧
      (∀ k, k ≠ fld d.d3 0 1 → t.dr k = s.dr k) ∧ ({ t.rest with door := s.door } : State) = s.rest))

/-- O22. Moves, retunes, homings and gearing of a free axis at standstill begin as commanded. On an enabled axis at
STANDSTILL that the host owns, not held by a commit, with its permit, outside SLEEP and with no active limit toward
the direction: AXIS_MOVE_ABS of a homed axis leaves it MOVING with the move of the descriptor; AXIS_MOVE_VEL leaves it
in VELOCITY; AXIS_HOME leaves it HOMING, not homed and with its latch armed; AXIS_GEAR of a homed axis to a homed
master that does not follow it leaves it GEARED, engaged at once with OK; AXIS_RETUNE answers 1 with the retuned move,
0 where there is nothing to retune. An axis whose stage idles with an enabled encoder has its stage enabled first and
verified. The other axes and everything else but journal, rings and reports are unchanged. [R281, R283, R284, R286,
R288, R304, R310, Table 6-8, Table 6-13] -/
def Obligations.AxisMotionCommandsComplete : Prop :=
  (∀ (s : State) (d : Desc), s.takes d → s.serves 0x30 → formOk d false false 0xF mA mA mA mA = true → axNum d < 5 →
    s.speedOk (axNum d) (arg24 d.d5).toNat = true → s.owner (axNum d) = 0 → (s.axis (axNum d)).homed = true → s.glb.sleep = false →
    s.axisHeld (axNum d) = false → s.permit (axPermit (axNum d)) = true → s.limitBars (axNum d) (absMove (axNum d) d s).dir = false →
    ((s.axis (axNum d)).st = .standstill →
      acceptsLater (.axisMoveAbs d) 0x30 d .queued s (fun t =>
        t.axis (axNum d) = (axBegin (axNum d) .moving (some (absMove (axNum d) d s)) [s.nextRef 0x30 d] s).axis (axNum d) ∧
        (t.axis (axNum d)).st = .moving ∧ (t.axis (axNum d)).x = (s.axis (axNum d)).x ∧
        (∀ b, b ≠ axNum d → t.axis b = s.axis b) ∧ ({ t.rest with mot := {} } : State) = { s.rest with mot := {} })) ∧
    ((s.axis (axNum d)).st = .idleOff → s.encOn (axNum d) = true →
      acceptsLater (.axisMoveAbs d) 0x30 d .queued s (fun t => (t.axis (axNum d)).st = .enabling ∧ (t.axis (axNum d)).stage = true ∧
        (t.axis (axNum d)).verifying = true ∧ (t.axis (axNum d)).after = some (.move .moving (absMove (axNum d) d s)) ∧ (t.axis (axNum d)).refs = [s.nextRef 0x30 d]))) ∧
  (∀ (s : State) (d : Desc), s.takes d → s.serves 0x31 → formOk d false false 0x10F mA mA m0 m0 = true → axNum d < 5 →
    s.speedOk (axNum d) (arg24 d.d4).toNat = true → s.owner (axNum d) = 0 → (s.axis (axNum d)).st = .standstill → s.glb.sleep = false →
    s.axisHeld (axNum d) = false → s.permit (axPermit (axNum d)) = true → s.limitBars (axNum d) (velMove (axNum d) d s).dir = false →
    acceptsLater (.axisMoveVel d) 0x31 d .queued s (fun t =>
      t.axis (axNum d) = (axBegin (axNum d) .velocity (some (velMove (axNum d) d s)) [s.nextRef 0x31 d] s).axis (axNum d) ∧
      (t.axis (axNum d)).st = .velocity ∧
      (∀ b, b ≠ axNum d → t.axis b = s.axis b) ∧ ({ t.rest with mot := {} } : State) = { s.rest with mot := {} })) ∧
  (∀ (s : State) (d : Desc), s.takes d → s.serves 0x32 → formOk d false false 0xF mA mA m0 m0 = true → axNum d < 5 →
    s.speedOk (axNum d) (arg24 d.d4).toNat = true → s.owner (axNum d) = 0 →
    ((s.axis (axNum d)).retune (arg24 d.d4).toNat (arg24 d.d5).toNat = none → acceptsOk (.axisRetune d) 0x32 d 0 0 s (OnlyRings s)) ∧
    (∀ y, (s.axis (axNum d)).retune (arg24 d.d4).toNat (arg24 d.d5).toNat = some y → acceptsOk (.axisRetune d) 0x32 d 1 0 s (fun t =>
      t.axis (axNum d) = y ∧ (∀ b, b ≠ axNum d → t.axis b = s.axis b) ∧ ({ t.rest with mot := {} } : State) = { s.rest with mot := {} }))) ∧
  (∀ (s : State) (d : Desc), s.takes d → s.serves 0x34 → formOk d false false 0xF mA m0 m0 m0 = true → axNum d < 5 →
    s.speedOk (axNum d) (arg24 d.d4).toNat = true → s.owner (axNum d) = 0 → (s.axis (axNum d)).st = .standstill →
    (s.axis (axNum d)).moves = false → s.glb.sleep = false → s.axisHeld (axNum d) = false → s.permit (axPermit (axNum d)) = true →
    s.limitBars (axNum d) (homeMove (axNum d) d s).dir = false →
    acceptsLater (.axisHome d) 0x34 d .queued s (fun t => (t.axis (axNum d)).st = .homing ∧ (t.axis (axNum d)).homed = false ∧
      (t.axis (axNum d)).latchArmed = true ∧ (t.axis (axNum d)).latch = none ∧ (t.axis (axNum d)).move = some (homeMove (axNum d) d s) ∧
      (t.axis (axNum d)).refs = [s.nextRef 0x34 d] ∧ (t.axis (axNum d)).x = (s.axis (axNum d)).x ∧
      (∀ b, b ≠ axNum d → t.axis b = s.axis b) ∧ ({ t.rest with mot := {} } : State) = { s.rest with mot := {} })) ∧
  (∀ (s : State) (d : Desc), s.takes d → s.serves 0x35 → formOk d false false 0x1FF mA mA mA m0 = true → axNum d < 5 → d.d3.getLsbD 8 = false →
    fld d.d3 4 4 < 6 → fld d.d3 4 4 ≠ axNum d → s.gearLoops (axNum d) 6 (fld d.d3 4 4) = false → s.owner (axNum d) = 0 →
    (s.axis (axNum d)).st = .standstill → (s.axis (axNum d)).moves = false → (s.axis (axNum d)).verifying = false → (s.axis (axNum d)).homed = true →
    (fld d.d3 4 4 < 5 → (s.axis (fld d.d3 4 4)).homed = true) → s.glb.sleep = false → s.axisHeld (axNum d) = false →
    (fld d.d3 4 4 = 5 → s.encmHeld = false) → s.permit (axPermit (axNum d)) = true →
    acceptsOk (.axisGear d) 0x35 d 0 0 s (fun t => (t.axis (axNum d)).st = .geared ∧ (t.axis (axNum d)).gear = some (gearOf d s) ∧
      (t.axis (axNum d)).x = (s.axis (axNum d)).x ∧
      (∀ b, b ≠ axNum d → t.axis b = s.axis b) ∧ ({ t.rest with mot := {} } : State) = { s.rest with mot := {} }))

/-- O23. AXIS_STOP ramps a moving axis down, AXIS_POWER enables and disables a stage. AXIS_STOP of one moving axis that
the host owns answers QUEUED and leaves it STOPPING with the stop waiting for standstill, on the emergency ramp where
the flag asks for it, its running command to end SUPERSEDED; of an EXTERNAL axis it suspends following and ends OK.
AXIS_POWER on of an axis that is OFF with its encoder disabled enables the stage, at STANDSTILL or EXTERNAL by its
source; AXIS_POWER off of an axis that stands still disables the stage, and an axis in FAULT is OFF after it. No other
axis changes. [R278, R283, R289, R298, R313, R315, Table 6-13] -/
def Obligations.AxisStopAndPowerComplete : Prop :=
  (∀ (s : State) (d : Desc), s.takes d → s.serves 0x33 → formOk d false false 0x10F m0 m0 m0 m0 = true → axNum d < 5 → s.owner (axNum d) = 0 →
    ((s.axis (axNum d)).moves = true → completes (.axisStop d) s (fun t => Completed 0x33 d .queued (s.jrn.head + 1) 0 0 s t ∧
      (t.axis (axNum d)).st = .stopping ∧ (t.axis (axNum d)).stops = (s.axis (axNum d)).stops ++ [s.nextRef 0x33 d] ∧
      (t.axis (axNum d)).emg = ((s.axis (axNum d)).emg || d.d3.getLsbD 8) ∧
      ((s.axis (axNum d)).endWith = none → (t.axis (axNum d)).endWith = some (.superseded, 0)) ∧
      (t.axis (axNum d)).v = (s.axis (axNum d)).v ∧ (t.axis (axNum d)).x = (s.axis (axNum d)).x ∧ ∀ b, b ≠ axNum d → t.axis b = s.axis b)) ∧
    ((s.axis (axNum d)).moves = false → (s.axis (axNum d)).st = .external → (s.axis (axNum d)).stage = true →
      s.standState (axNum d) = .external → (s.axis (axNum d)).after = none → completes (.axisStop d) s (fun t =>
      Completed 0x33 d .queued (s.jrn.head + 1) 0 0 s t ∧ t.axis (axNum d) = { s.axis (axNum d) with suspended := true } ∧
      ∀ b, b ≠ axNum d → t.axis b = s.axis b))) ∧
  (∀ (s : State) (d : Desc), s.takes d → s.serves 0x36 → formOk d false false 0x10F m0 m0 m0 m0 = true → axNum d < 5 → s.owner (axNum d) = 0 →
    (s.axis (axNum d)).moves = false →
    (d.d3.getLsbD 8 = true → s.effLevel < 3 → s.glb.sleep = false → s.linesOn = true → (s.axis (axNum d)).st = .off →
      (s.axis (axNum d)).stage = false → s.encOn (axNum d) = false →
      completes (.axisPower d) s (fun t => Completed 0x36 d .queued (s.jrn.head + 1) 0 0 s t ∧ (t.axis (axNum d)).stage = true ∧
        (t.axis (axNum d)).st = s.standState (axNum d) ∧ (t.axis (axNum d)).hold = true ∧ (t.axis (axNum d)).x = (s.axis (axNum d)).x ∧
        ∀ b, b ≠ axNum d → t.axis b = s.axis b)) ∧
    (d.d3.getLsbD 8 = false →
      completes (.axisPower d) s (fun t => Completed 0x36 d .queued (s.jrn.head + 1) 0 0 s t ∧ (t.axis (axNum d)).stage = false ∧
        (t.axis (axNum d)).st = .off ∧ (t.axis (axNum d)).x = (s.axis (axNum d)).x ∧ ∀ b, b ≠ axNum d → t.axis b = s.axis b)))

/-- O24. AXIS_SET_POS redefines the position, homes the axis and leaves its table index. AXIS_SET_POS of an axis that the
host owns, that stands still and waits for no verification answers OK; the axis is homed, its commanded position is
the argument, its microstep table index is what it was, the reference pair is taken anew, and no other axis and
nothing else but journal, rings and reports changes. [R281, R175, Table 6-13] -/
def Obligations.SetPosKeepsTheIndex : Prop :=
  ∀ (s : State) (d : Desc), s.takes d → s.serves 0x37 → formOk d false false 0xF mA m0 m0 m0 = true → axNum d < 5 → s.owner (axNum d) = 0 →
    (s.axis (axNum d)).moves = false → (s.axis (axNum d)).verifying = false →
    acceptsOk (.axisSetPos d) 0x37 d 0 0 s (fun t => (t.axis (axNum d)).pos = (arg24 d.d4).int ∧ (t.axis (axNum d)).homed = true ∧
      t.index (axNum d) = s.index (axNum d) ∧ (t.axis (axNum d)).refE = (s.axis (axNum d)).enc ∧ (t.axis (axNum d)).refP = arg24 d.d4 ∧
      (∀ b, b ≠ axNum d → t.axis b = s.axis b) ∧ ({ t.rest with mot := {} } : State) = { s.rest with mot := {} })

/-- O25. GRIND_RUN starts or replaces a dose, GRIND_STOP ramps down or coasts. With its form right and GRIND serving,
outside SLEEP and with permit 3: GRIND_RUN in STOPPED answers QUEUED and leaves a precharge running for the new dose
with a count of 0; while a dose runs in the same unit, it replaces speed and dose where the count has not reached the
new dose, the old command ending SUPERSEDED. GRIND_STOP in RUN leaves STOPPING, or COAST with its flag, and waits for
standstill; in STOPPED it ends OK at once. Nothing but the drive, journal, rings and reports changes. [R400, R402,
R408, Table 6-14, Table 13-3] -/
def Obligations.GrinderCommandsComplete : Prop :=
  (∀ (s : State) (d : Desc), s.takes d → s.serves 0x40 → formOk d false false mA mA 1 m0 m0 = true → (arg24 d.d4).toNat ≠ 0 →
    (arg24 d.d3).toNat = 0 ∨ (s.pn 0x2814 ≤ (arg24 d.d3).toNat ∧ (arg24 d.d3).toNat ≤ s.pn 0x2818) → s.glb.sleep = false → s.permit 3 = true →
    (s.grind.st = .stopped → s.grind.precharge = none → s.heldAtSafe 3 = false →
      acceptsLater (.grindRun d) 0x40 d .queued s (fun t => t.grind = { s.grind with
        ref := some (s.nextRef 0x40 d), arg := (arg24 d.d3).toNat, dose := (arg24 d.d4).toNat, revs := d.d5.getLsbD 0, count := 0, fails := 0,
        precharge := some false, attempt := 0, ms := 0, doseRun := true, cause := 0, measured := 0 } ∧
        ({ t.rest with grind := {} } : State) = { s.rest with grind := {} })) ∧
    (s.grind.st = .run → d.d5.getLsbD 0 = s.grind.revs → s.grind.count < (arg24 d.d4).toNat →
      completes (.grindRun d) s (fun t => Completed 0x40 d .queued (s.jrn.head + 1) 0 0 s t ∧
        t.grind = { s.grind with ref := some (s.nextRef 0x40 d), arg := (arg24 d.d3).toNat, dose := (arg24 d.d4).toNat } ∧
        ({ t.rest with grind := {} } : State) = { s.rest with grind := {} }))) ∧
  (∀ (s : State) (d : Desc), s.takes d → s.serves 0x41 → formOk d false false 1 m0 m0 m0 m0 = true → s.grind.precharge = none →
    (s.grind.st = .run → completes (.grindStop d) s (fun t => Completed 0x41 d .queued (s.jrn.head + 1) 0 0 s t ∧
      t.grind.st = (if d.d3.getLsbD 0 = true then .coast else .stopping) ∧ t.grind.stops = s.grind.stops ++ [s.nextRef 0x41 d] ∧
      t.grind.ref = none ∧ t.grind.count = s.grind.count ∧ ({ t.rest with grind := {} } : State) = { s.rest with grind := {} })) ∧
    (s.grind.st = .stopped → completes (.grindStop d) s (fun t => Completed 0x41 d .queued (s.jrn.head + 1) 0 0 s t ∧ t.rest = s.rest)))

/-- O26. FIELD_WRITE, FIELD_PULSE and COUNTER_CLEAR pass their requests to LINK. With fresh inputs, and outside SLEEP
and above L3 where a channel is switched on:
FIELD_WRITE of output channels that no engine drives, whose permits are granted and that meet no exclusive valve sets
the commanded state of the channels named and of no other, and the decoder waits for its acknowledgement with no
completion yet; FIELD_PULSE of such a channel answers QUEUED and its pulse waits to be sent, in place of one on that
channel and of a write of it that is on its way; COUNTER_CLEAR of a counting channel leaves its request due and the decoder waiting for the echo. [R176, R236,
R237, R242, R271, R272, R273, R528, Table 6-14] -/
def Obligations.FieldCommandsComplete : Prop :=
  (∀ (s : State) (d : Desc), s.takes d → s.serves 0x48 → formOk d false false mA mA 0xFFFF m0 m0 = true → (arg24 d.d3).extractLsb' 0 8 = 0#8 →
    (∀ c ∈ chansOf (fieldMask d), s.func c = 3 ∧ s.lifted c = false) → s.awn.stale = false →
    (fieldMask d &&& fieldVals d ≠ 0#24 → s.glb.sleep = false ∧ s.effLevel < 3) →
    (∀ c ∈ chansOf (fieldMask d &&& fieldVals d), s.outGranted c = true) →
    (∀ b : Fin 2, s.overlap b = 2 → s.conflicts b (fieldMask d &&& fieldVals d) = false) →
    completes (.fieldWrite d) s (fun t =>
      t.awn.cmd = (s.awn.cmd ||| (fieldMask d &&& fieldVals d)) &&& ~~~(fieldMask d &&& ~~~fieldVals d) ∧
      t.ring.block = some (.fieldWrite d s.awn.nextId) ∧ t.awn.nextId = s.awn.nextId + 1 ∧
      t.awn.pulses = s.awn.pulses.filter (fun p => !(fieldMask d).getLsbD p.ch.val) ∧
      t.ring.cplProd = s.ring.cplProd ∧ t.ring.cpl = s.ring.cpl ∧ ({ t.rest with awn := s.awn } : State) = s.rest)) ∧
  (∀ (s : State) (d : Desc), s.takes d → s.serves 0x49 → formOk d false false 0x1F mA m0 m0 m0 = true → 8 ≤ fld d.d3 0 5 →
    s.func (fld d.d3 0 5) = 3 → 1 ≤ (arg24 d.d4).toNat → (arg24 d.d4).toNat ≤ 8388607 → s.awn.stale = false → s.lifted (fld d.d3 0 5) = false →
    s.glb.sleep = false → s.effLevel < 3 → s.outGranted (fld d.d3 0 5) = true →
    (∀ b, bankOf (fld d.d3 0 5) = some b → s.overlap b = 2 → s.conflicts b (chBit (fld d.d3 0 5)) = false) →
    completes (.fieldPulse d) s (fun t => Completed 0x49 d .queued (s.jrn.head + 1) 0 0 s t ∧
      t.awn = { s.awn with
        writes := s.awn.writes.map (fun w => if w.acked then w else { w with mask := w.mask &&& ~~~ chBit (fld d.d3 0 5) })
        pulses := s.awn.pulses.filter (fun p => !(chBit (fld d.d3 0 5)).getLsbD p.ch.val) ++
        [⟨Fin.ofNat 24 (fld d.d3 0 5 - 8), arg24 d.d4, s.nextRef 0x49 d, s.serialOf (chBit (fld d.d3 0 5)) != 0#24, none⟩] } ∧ ({ t.rest with awn := s.awn } : State) = s.rest)) ∧
  (∀ (s : State) (d : Desc) (k : Fin 8), s.takes d → s.serves 0x4C → formOk d false false 0x1F m0 m0 m0 m0 = true → ctrIdx (fld d.d3 0 5) = some k →
    s.awn.stale = false →
    completes (.counterClear d) s (fun t => t.awn = { s.awn with clrDue := setB s.awn.clrDue k.val true } ∧
      t.ring.block = some (.counterClear d k) ∧ t.ring.cplProd = s.ring.cplProd ∧ t.jrn = s.jrn ∧ ({ t.rest with awn := s.awn } : State) = s.rest))

/-- O27. GUARD_ACK waits for the next guard pass, which leaves LOCKOUT for RUN or RESTRICT, clears latches, or refuses. GUARD_ACK
whose form is right leaves the decoder waiting for the pass, with no completion yet; while a commit holds the guard at its safe
point it is refused with BUSY. A pass with it waiting, the rings running and DMA open, completes and ends the wait. In LOCKOUT with
a condition of Table 10-6 failing, LOCKOUT stays, the completion is INTERLOCK with the state, and nothing is journaled. In LOCKOUT
with none failing, the latches of rules that do not fail now are cleared; without a failing rule of loss action TRIP the guard is in
RUN if no rule fails, else in RESTRICT, the command is journaled where no accepted command awaits its outcome, and its completion is
OK with the state; with one it trips with cause 3. In RUN and RESTRICT it clears the latches in the same way with OK; in SAFE_STOP
and TRIP its completion is INTERLOCK. The last clause joins the command and the pass that follows it. [R326, R330, R331, R332, R335,
Table 6-14, Table 10-2, Table 10-6] -/
def Obligations.GuardAckIsJudgedAtThePass : Prop :=
  (∀ (s : State) (d : Desc), s.takes d → s.serves 0x50 → formOk d false false m0 m0 m0 m0 m0 = true →
    (s.heldAtSafe 4 = false →
      completes (.guardAck d) s (fun t => t.ring.block = some (.guardAck d) ∧ t.ring.cplProd = s.ring.cplProd ∧ t.ring.cpl = s.ring.cpl ∧
        t.jrn = s.jrn ∧ t.rest = s.rest)) ∧
    (s.heldAtSafe 4 = true → refusedAs (.guardAck d) 0x50 d .busy s)) ∧
  (∀ (s : State) (d : Desc), s.guardUp = true → s.calm → s.dbg.haltWait = 0 → s.latticeCopy = s.grd.copyB →
    s.ring.block = some (.guardAck d) → s.host.running = true → s.dmaOpen = true →
    (s.grd.st = .lockout → s.ackFails ≠ 0 →
      completes .guardPass s (fun t => t.grd.st = .lockout ∧ t.ring.block = none ∧
        Completed 0x50 d .interlock 0 (w24 GuardState.lockout.code) 0 s t ∧ (s.ring.outstanding = [] → t.jrn = s.jrn))) ∧
    (s.grd.st = .lockout → s.ackFails = 0 → s.ruleFails &&& s.rulesWhere (fun r => s.ruleAct r = 2) = 0#32 →
      completes .guardPass s (fun t => t.grd.st = (if s.ruleFails = 0#32 then .run else .restrict) ∧ t.ring.block = none ∧
        t.grd.latched = (judgeRules s).grd.latched &&& s.ruleFails ∧ t.grd.failing = s.ruleFails ∧ t.glb.guardSeen = true ∧
        Completed 0x50 d .ok (s.jrn.head + 1) (w24 t.grd.st.code) 0 s t ∧ (s.ring.outstanding = [] → Journaled 0x50 d .ok s t))) ∧
    (s.grd.st = .lockout → s.ackFails = 0 → s.ruleFails &&& s.rulesWhere (fun r => s.ruleAct r = 2) ≠ 0#32 →
      completes .guardPass s (fun t => t.grd.st = .trip ∧ t.grd.cause = 3 ∧ t.ring.block = none ∧ t.grd.permits = 0)) ∧
    (s.grd.st = .run ∨ s.grd.st = .restrict → (judgeRules s).tripRule = false →
      completes .guardPass s (fun t => t.grd.st = (if s.ruleFails = 0#32 then .run else .restrict) ∧ t.ring.block = none ∧
        t.grd.latched = (judgeRules s).grd.latched &&& s.ruleFails ∧
        Completed 0x50 d .ok (s.jrn.head + 1) (w24 t.grd.st.code) 0 s t ∧ (s.ring.outstanding = [] → Journaled 0x50 d .ok s t))) ∧
    (s.grd.st = .safeStop ∨ s.grd.st = .trip →
      completes .guardPass s (fun t => t.ring.block = none ∧ t.grd.st.grants = false ∧
        Completed 0x50 d .interlock 0 (w24 t.grd.st.code) 0 s t))) ∧
  (∀ (s : State) (d : Desc), s.takes d → s.serves 0x50 → formOk d false false m0 m0 m0 m0 m0 = true → s.heldAtSafe 4 = false →
    s.guardUp = true → s.dbg.haltWait = 0 → s.latticeCopy = s.grd.copyB → s.grd.st = .lockout → s.ackFails = 0 →
    s.ruleFails &&& s.rulesWhere (fun r => s.ruleAct r = 2) = 0#32 →
    completes (.guardAck d) s (fun t => completes .guardPass t (fun u => u.grd.st = (if s.ruleFails = 0#32 then .run else .restrict) ∧
      u.ring.block = none ∧ Completed 0x50 d .ok (s.jrn.head + 1) (w24 u.grd.st.code) 0 s u)))

/-- O28. FW_STAGE takes its units to the inactive slot, FW_ACTIVATE begins an activation. FW_STAGE whose buffer is sound,
for units not yet written since the erase, with nothing staging, answers QUEUED and starts at once; from unit 0 the
inactive slot is erased, with its verified mark cleared and its erases counted. FW_ACTIVATE of an island whose
inactive slot is verified answers DEFERRED: outside recovery, with admitting peers, no activation running and no open
transaction touching the island, the activation waits for its safe point; in recovery, with no activation running and
no open transaction touching the island, the other slot is marked active, the activation ends OK, and FWU_LAST shows it. [R467, R472, R475, R481, Table 6-15] -/
def Obligations.FirmwareCommandsComplete : Prop :=
  (∀ (s : State) (d : Desc) (i : FwIsland), s.takes d → s.serves 0x60 → formOk d false false 0x10F mA mB mB mB = true → bulkOk d 256 256 = true →
    fwOfNum (fld d.d3 0 4) = some i → (arg24 d.d4).toNat + bulkLen d / 256 ≤ slotUnits i → s.fw.stage = none →
    (arg24 d.d4).toNat = 0 ∨ (∀ k < bulkLen d / 256, (s.unitsDue i).contains ((arg24 d.d4).toNat + k) = false) → d.dmaOk = true →
    acceptsLater (.fwStage d) 0x60 d .queued s (fun t =>
      t.fw.stage = some ⟨s.nextRef 0x60 d, i, d.d3.getLsbD 8, (arg24 d.d4).toNat, bulkWords d⟩ ∧ t.fw.stageNext = s.fw.stageNext ∧
      t.fw.slots = (if (arg24 d.d4).toNat = 0 then vmap s.fw.slots (fwIdx i) {} (fun f => f.mapSpare (fun x => { erases := x.erases + 1 })) else s.fw.slots) ∧
      ({ t.rest with fw := {} } : State) = { s.rest with fw := {} })) ∧
  (∀ (s : State) (d : Desc) (i : FwIsland), s.takes d → s.serves 0x61 → formOk d false false 0xF m0 m0 m0 m0 = true →
    fwOfNum (fld d.d3 0 4) = some i → (s.slots (fwIdx i)).spare.verified = true →
    (s.isl (fwNum i) ≠ .recovery → s.badPeer (fwIdx i) (s.slots (fwIdx i)).spare = none → s.fw.act = none →
      ¬(s.txn.st = .opened ∧ s.touches (fwNum i) = true) →
      completes (.fwActivate d) s (fun t => Completed 0x61 d .deferred (s.jrn.head + 1) 0 0 s t ∧
        t.fw = { s.fw with act := some ⟨s.nextRef 0x61 d, i, .waiting, 0⟩ })) ∧
    (s.isl (fwNum i) = .recovery → s.fw.act = none → ¬(s.txn.st = .opened ∧ s.touches (fwNum i) = true) → (∀ j < 4, s.isl j ≠ .held) →
      completes (.fwActivate d) s (fun t => Completed 0x61 d .deferred (s.jrn.head + 1) 0 0 s t ∧
        t.fw = { s.fw with last := w24 (256 * fwNum i), slots := vmap s.fw.slots (fwIdx i) {} (fun f => { f with activeB := !f.activeB }) } ∧
        ({ t.rest with fw := {} } : State) = { s.rest with fw := {} })))

/-- O29. G-frames and H-frames are sent with the next sequence and taken at LINK and at the Husk's boundary. With LINK
running outside sleep, G_FRAME puts on the wire a frame with the next sequence, LINK's type, the commanded state, the
permits and SAFE_NOW, as the noise leaves it; in SLEEP LINK's mode is then sleep. At a boundary the Husk takes a valid
DATA frame's sequence, commands and permits and counts no frame as missing, keeps its commands and permits at a bad one (its words, or its
start off the period by more than 5 % where it is not the first after a gap), and sends an H-frame with the next sequence,
its driver states and its inputs. H_FRAME takes a valid frame's channel values while the inputs stay fresh; a bad frame, the
first of its run, is counted as missed and leaves the channel values, the next one coming after a gap. [R246, R247, R249,
R250, R251, R261, R264, R271] -/
def Obligations.FramesCross : Prop :=
  (∀ (s : State) (noise : List W24) (p : Nat), s.isl 6 = .run → s.awn.mode ≠ .sleep → s.calm →
    completes (.gFrame ⟨noise, p⟩) s (fun t => t.awn.seq = s.awn.seq + 1 ∧
      (∃ (a : GAir) (g : GFrame), t.awn.gAir = some a ∧ a.words = noisy (encodeG g) noise ∧ a.period = p ∧ g.seq = s.awn.seq + 1 ∧
        g.kind = s.awn.mode.kind ∧ g.cmd = t.awn.cmd ∧ g.permits = s.permitBits ∧ g.safeNow = BitVec.ofBool s.safeNow ∧
        g.sleep = BitVec.ofBool s.glb.sleep) ∧
      (s.glb.sleep = true → s.awn.mode = .data → t.awn.mode = .sleep) ∧ t.husk = s.husk)) ∧
  (∀ s : State, s.fieldUp = true → s.husk.mode ≠ .sleep →
    completes .huskBoundary s (fun t => t.awn.gAir = none ∧ t.husk.seq = s.husk.seq + 1 ∧
      (∃ h : HFrame, t.awn.hAir = some (encodeH h) ∧ h.seq = s.husk.seq + 1 ∧ h.drivers = t.husk.out ∧ h.inputs = t.husk.inputs) ∧
      (∀ a g, s.awn.gAir = some a → decodeG a.words = some g → s.husk.exempt = true ∨ inPeriod a.period = true → g.kind = 0x5#4 →
        t.husk.gSeq = g.seq ∧ t.husk.cmd = g.cmd ∧ t.husk.permits = g.permits ∧ t.husk.missing = 0 ∧ t.husk.lastValid = s.now) ∧
      (∀ a, s.awn.gAir = some a → decodeG a.words = none ∨ (s.husk.exempt = false ∧ inPeriod a.period = false) →
        t.husk.badRun = true ∧ t.husk.exempt = true ∧ t.husk.cmd = s.husk.cmd ∧ t.husk.permits = s.husk.permits ∧ t.husk.inputs = s.husk.inputs))) ∧
  (∀ (s : State) (l : List W24) (noise : List W24) (p : Nat) (h : HFrame), s.isl 6 = .run → s.awn.mode ≠ .sleep → s.calm → s.awn.hAir = some l →
    decodeH (noisy l noise) = some h → s.awn.exempt = true ∨ inPeriod p = true → h.kind = 0x5#4 → h.configured = 1#1 → s.awn.stale = false →
    completes (.hFrame noise p) s (fun t => t.awn.inputs = h.inputs ∧ t.awn.wb = h.wb ∧ t.awn.drivers = h.drivers ∧ t.awn.faults = h.faults ∧
      t.awn.hSeq = h.seq ∧ t.awn.missed = 0 ∧ t.awn.badRun = false ∧ t.awn.stale = false ∧ t.awn.exempt = false ∧ t.awn.hAir = none ∧
      t.sup.f24 = h.f24)) ∧
  (∀ (s : State) (l : List W24) (noise : List W24) (p : Nat), s.isl 6 = .run → s.awn.mode ≠ .sleep → s.calm → s.ring.block = none →
    s.glb.step ≠ 5 → s.awn.huskHot = s.sup.shutdown.getLsbD 2 → s.sup.prewarn.getLsbD 2 = decide (2160 ≤ (vget s.sup.temp 2 0x800000).int) →
    s.awn.hAir = some l → decodeH (noisy l noise) = none ∨ (s.awn.exempt = false ∧ inPeriod p = false) → s.awn.badRun = false →
    completes (.hFrame noise p) s (fun t =>
      t.awn = { s.awn with hAir := none, badRun := true, missed := s.awn.missed + 1, fresh := 0, exempt := true }))

/-- O30. Lost frames switch outputs to their safe states on the Husk and make the inputs STALE on the Grain.
G_FRAME_MISSING counts a missing frame and, at the third, switches every FASTOFF output off; SAFE_STATE_TIMEOUT after a
missing frame gives every other output its safe state: OFF off, ON on where no fault latches it, HOLD as it was; either sets
SILENCE_APPLIED where it concerns an output. FLD_STALE marks the inputs STALE, ends every pulse and loses the F24
value. HUSK_WATCHDOG restarts the Husk with every output off and not configured; the restart is reported with the next
H-frame. [R249, R256, R257, R258, R260, R261, R262] -/
def Obligations.SilenceAndStale : Prop :=
  (∀ s : State, s.fieldUp = true → s.husk.mode ≠ .sleep → s.husk.missing ≠ 2 →
    completesAs .gFrameMissing s { s with
      husk.missing := s.husk.missing + 1, husk.exempt := true, husk.trimCount := 0, husk.trimSum := 0 }) ∧
  (∀ s : State, s.fieldUp = true → s.husk.mode ≠ .sleep → s.husk.missing = 2 → s.fastMask &&& s.outputs ≠ 0#24 →
    completes .gFrameMissing s (fun t => t.husk.missing = 3 ∧ t.husk.silenced = true ∧ t.husk.silentBy = 0 ∧
      t.husk.out = s.husk.out &&& ~~~(s.fastMask &&& s.outputs))) ∧
  (∀ s : State, s.fieldUp = true → s.husk.mode ≠ .sleep → s.husk.missing ≠ 0 → ~~~s.fastMask &&& s.outputs ≠ 0#24 →
    completes .safeStateTimeout s (fun t => t.husk.silenced = true ∧ t.husk.silentBy = 0 ∧
      ∀ k < 24, s.outputs.getLsbD k = true → s.fastOff (k + 8) = false →
        (s.safeOf (k + 8) = 0 → t.husk.out.getLsbD k = false) ∧
        (s.safeOf (k + 8) = 1 → k < 16 → s.husk.faults.getLsbD k = false → t.husk.out.getLsbD k = true) ∧
        (s.safeOf (k + 8) = 2 → t.husk.out.getLsbD k = s.husk.out.getLsbD k))) ∧
  (∀ s : State, s.awn.hears = true → s.awn.stale = false → s.awn.mode ≠ .sleep →
    completes .fldStale s (fun t => t.awn.stale = true ∧ t.awn.staleAt = s.now ∧ t.awn.fresh = 0 ∧ t.awn.pulses = [] ∧ t.awn.hears = false ∧
      t.awn.exempt = true ∧ t.sup.f24 = 0xFFFFFF ∧ t.husk = s.husk)) ∧
  (∀ s : State, s.fieldUp = true →
    completes .huskWatchdog s (fun t => t.husk.out = 0 ∧ t.husk.configured = false ∧ t.husk.mode = .hello ∧ t.husk.news = [.restart 1] ∧
      t.husk.active = [] ∧ t.husk.temp = s.husk.temp ∧ t.husk.f24 = s.husk.f24 ∧ t.husk.lastValid = s.now ∧ t.awn.hAir = none ∧ t.mot = s.mot))

/-- O31. Input, output and bank events change the flags and drivers they name, on the Husk alone: LINK learns of them with
the next H-frame. A debounced change inverts the input and counts where the mode counts both edges; a wire break and an
open load set or clear their flag only; an output fault latches and switches its channel off; a bank that has risen
switches its waiting valves on; a bank short, a rise timeout and a bank trip latch the bank as tripped with its valves off;
the end of a clamping and of a pulse are recorded; a slow demagnetisation opens the bank switch only. [R226, R227, R229,
R234, R235, R238, R239, R240, R241, R273] -/
def Obligations.FieldChannelEvents : Prop :=
  (∀ (s : State) (ch : Fin 16) (sub : Fin 48), s.fieldUp = true → s.hv (fldP ch.val 0) = 1 ∨ s.hv (fldP ch.val 0) = 2 →
    completes (.debouncedChange ⟨ch, sub⟩) s (fun t => t.husk.inputs = setB s.husk.inputs ch.val (!s.husk.inputs.getLsbD ch.val) ∧
      (∀ i : Fin 8, ctrIdx ch.val = some i → s.hv (fldP ch.val 5) = 3 → t.husk.counters = vset s.husk.counters i.val (vget s.husk.counters i.val 0 + 1)) ∧
      (ctrIdx ch.val = none → t.husk.counters = s.husk.counters) ∧
      t.husk.news = s.husk.news ++ (if s.hv (fldP ch.val 7) = 1 then [.wake] else []) ∧
      ({ t.rest with husk := {} } : State) = { s.rest with husk := {} })) ∧
  (∀ (s : State) (ch : Fin 16) (b : Bool), s.fieldUp = true → s.hv (fldP ch.val 0) = 1 ∨ s.hv (fldP ch.val 0) = 2 → s.hv (fldP ch.val 2) = 1 →
    s.husk.wb.getLsbD ch.val ≠ b → completesAs (.fldWireBreak ch b) s { s with
      husk.wb := setB s.husk.wb ch.val b
      husk.news := s.husk.news ++ [.event (if b then 0x3008 else 0x3009) (if b then 4 else 2) (w24 ch.val) 0] }) ∧
  (∀ (s : State) (ch : Fin 32) (kind : Nat), s.fieldUp = true → 8 ≤ ch.val → s.husk.out.getLsbD (ch.val - 8) = true → 1 ≤ kind → kind ≤ 3 →
    completes (.fldOutFault ch kind) s (fun t => t.husk.faults = setB s.husk.faults (ch.val - 8) true ∧ t.husk.out = s.husk.out &&& ~~~chBit ch.val ∧
      t.husk.news = s.husk.news ++ [.event 0x300A 4 (w24 ch.val) (w24 kind)] ∧ t.awn = s.awn)) ∧
  (∀ (s : State) (ch : Fin 32) (o : Bool), s.fieldUp = true → 8 ≤ ch.val → s.husk.out.getLsbD (ch.val - 8) = true → s.hv (fldP ch.val 2) = 1 →
    s.husk.openLoad.getLsbD (ch.val - 8) ≠ o →
    completesAs (.fldOpenLoad ch o) s { s with
      husk.openLoad := setB s.husk.openLoad (ch.val - 8) o
      husk.news := s.husk.news ++ (if o then [.event 0x300B 3 (w24 ch.val) 0] else []) }) ∧
  (∀ (s : State) (b : Fin 2), s.husk.rising.getLsbD b.val = true →
    completes (.bankRise b) s (fun t => t.husk.out = s.husk.out ||| (s.husk.riseFor &&& bankMask b) ∧ t.husk.rising.getLsbD b.val = false ∧
      t.husk.riseFor = s.husk.riseFor &&& ~~~(s.husk.riseFor &&& bankMask b)) ∧
    completes (.bankRiseTimeout b) s (fun t => t.husk.tripped = setB s.husk.tripped b.val true ∧ t.husk.out = s.husk.out &&& ~~~bankMask b ∧
      t.husk.bankOn.getLsbD b.val = false ∧ t.husk.rising.getLsbD b.val = false ∧
      t.husk.news = s.husk.news ++ [.event 0x300C 5 (w24 b.val) 1])) ∧
  (∀ (s : State) (b : Fin 2), s.husk.bankOn.getLsbD b.val = true →
    completes (.bankShort b) s (fun t => t.husk.tripped = setB s.husk.tripped b.val true ∧ t.husk.out = s.husk.out &&& ~~~bankMask b ∧
      t.husk.bankOn.getLsbD b.val = false ∧ t.husk.news = s.husk.news ++ [.event 0x300C 5 (w24 b.val) 1]) ∧
    (s.husk.out &&& bankMask b ≠ 0#24 → completes (.fldBankTrip b) s (fun t => t.husk.tripped = setB s.husk.tripped b.val true ∧
      t.husk.out = s.husk.out &&& ~~~bankMask b ∧ t.husk.clamping = s.husk.clamping ||| (s.husk.out &&& bankMask b &&& 0xFF0000) ∧
      t.husk.news = s.husk.news ++ [.event 0x300C 5 (w24 b.val) 2]))) ∧
  (∀ (s : State) (ch : Fin 32), 24 ≤ ch.val → s.husk.clamping.getLsbD (ch.val - 8) = true →
    completes (.demagEnd ch) s (fun t => t.husk.clamping = setB s.husk.clamping (ch.val - 8) false ∧ t.husk.out = s.husk.out)) ∧
  (∀ (s : State) (b : Fin 2), s.husk.closing.getLsbD b.val = true → s.husk.clamping &&& bankMask b ≠ 0#24 →
    completesAs (.fldDemagSlow b) s { s with
      husk.bankOn := setB s.husk.bankOn b.val false, husk.closing := setB s.husk.closing b.val false
      husk.news := s.husk.news ++ [.event 0x300D 4 (w24 b.val) (s.husk.clamping &&& bankMask b)] }) ∧
  (∀ (s : State) (ch : Fin 32), 8 ≤ ch.val → s.husk.pulsing.getLsbD (ch.val - 8) = true → s.husk.riseFor.getLsbD (ch.val - 8) = false →
    (∀ j ∈ s.husk.waiting, j.val ≠ ch.val - 8) →
    completes (.pulseEnd ch) s (fun t => t.husk.out = s.husk.out &&& ~~~chBit ch.val ∧ t.husk.pulsing = s.husk.pulsing &&& ~~~chBit ch.val ∧
      t.husk.news = s.husk.news ++ [.pulseEnd (Fin.ofNat 24 (ch.val - 8)) s.husk.gSeq] ∧ t.awn = s.awn))

/-- O32. A FIELD_WRITE is journaled at 125 µs, keepalives are timed and hunted, and a lost link in sleep is stale.
FIELD_WRITE_JOURNAL of a write with changes unacknowledged or waiting accepts it with QUEUED and frees the decoder; with every
change applied it ends OK; one that has already ended is journaled all the same. In sleep each side sends its keepalive with
the next sequence, and the Husk's boundary takes the commands and permits of the keepalive it has received; a keepalive inside
the window around the expected period changes no period, one outside starts a hunt, one that ends a hunt gives the period
its interval with the drift in 0.1 %; a hunt can start for a side, and when it is lost the Grain's inputs are STALE, the Husk's
hunt is over. [R249, R250, R264, R265, R266, R271] -/
def Obligations.FieldWriteJournalAndSleep : Prop :=
  (∀ (s : State) (d : Desc) (w : FieldCmd), s.blockedWrite = some (d, w) → s.logUp = true → s.calm → s.dmaOpen = true → s.host.running = true →
    (w.early = none → w.acked = false ∨ w.wait ≠ 0#24 → acceptsLater .fieldWriteJournal 0x48 d .queued s (fun t => t.ring.block = none ∧
      t.awn = { s.awn with writes := s.awn.writes.map (fun x => if x.id = w.id then { x with ref := some (s.nextRef 0x48 d) } else x) })) ∧
    (w.early = none → w.acked = true → w.wait = 0#24 → acceptsOk .fieldWriteJournal 0x48 d 0 0 s (fun t => t.ring.block = none ∧
      t.awn = { s.awn with writes := s.awn.writes.filter (fun x => x.id != w.id) })) ∧
    (w.early ≠ none → completes .fieldWriteJournal s (fun t => t.ring.block = none ∧ Completed 0x48 d .queued (s.jrn.head + 1) 0 0 s t ∧
      t.awn = { s.awn with writes := s.awn.writes.filter (fun x => x.id != w.id) }))) ∧
  (∀ s : State, s.awn.mode = .sleep → completes (.keepalive .grain) s (fun t => t.awn.seq = s.awn.seq + 1 ∧
    (∃ (a : GAir) (g : GFrame), t.awn.gAir = some a ∧ a.words = encodeG g ∧ g.kind = 0xA ∧ g.seq = s.awn.seq + 1 ∧ g.permits = s.permitBits) ∧
    t.husk = s.husk)) ∧
  (∀ s : State, s.fieldUp = true → s.husk.mode = .sleep →
    completes (.keepalive .husk) s (fun t => t.husk.seq = s.husk.seq + 1 ∧ t.husk.inbox = none ∧ t.awn.hAir ≠ none ∧
      (s.husk.inbox = none → s.husk.waiting = [] → t.husk.out = s.husk.out) ∧
      (∀ a g, s.husk.inbox = some a → decodeG a.words = some g → g.kind = 0xA#4 → t.husk.cmd = g.cmd ∧ t.husk.permits = g.permits))) ∧
  (∀ (s : State) (n : Nat) (a : GAir), s.fieldUp = true → s.husk.mode = .sleep → s.awn.gAir = some a → s.gKind 0xA = true →
    (s.husk.hunt = true → completesAs (.keepaliveReceived .husk n) s { s with
      awn.gAir := none, husk.inbox := some a, husk.lastValid := s.now, husk.hunt := false, husk.period := n
      husk.news := s.husk.news ++ [.event 0x3012 3 1 (w24i ((n : Int) - 1000))] }) ∧
    (s.husk.hunt = false → 95 * s.husk.period ≤ 100 * n → 100 * n ≤ 105 * s.husk.period → completesAs (.keepaliveReceived .husk n) s { s with
      awn.gAir := none, husk.inbox := some a, husk.lastValid := s.now }) ∧
    (s.husk.hunt = false → ¬(95 * s.husk.period ≤ 100 * n ∧ 100 * n ≤ 105 * s.husk.period) →
      completesAs (.keepaliveReceived .husk n) s { s with
        awn.gAir := none, husk.inbox := some a, husk.lastValid := s.now, husk.hunt := true, husk.news := s.husk.news ++ [.event 0x3011 3 1 0] })) ∧
  (∀ (s : State) (n : Nat) (h : HFrame), s.isl 6 = .run → s.awn.mode = .sleep → s.calm → s.hKeepalive = some h →
    completes (.keepaliveReceived .grain n) s (fun t => t.awn.hAir = none ∧
      (s.awn.hunt = true → t.awn.hunt = false ∧ t.awn.period = n) ∧
      (s.awn.hunt = false → t.awn.period = s.awn.period ∧
        (t.awn.hunt = true ↔ ¬(95 * s.awn.period ≤ 100 * n ∧ 100 * n ≤ 105 * s.awn.period))))) ∧
  (∀ s : State, s.awn.mode = .sleep → s.awn.hunt = false → completesAs (.fldSleepHunt .grain) s { s with awn.hunt := true }) ∧
  (∀ s : State, s.fieldUp = true → s.husk.mode = .sleep → s.husk.hunt = false →
    completesAs (.fldSleepHunt .husk) s { s with husk.hunt := true, husk.news := s.husk.news ++ [.event 0x3011 3 1 0] }) ∧
  (∀ s : State, s.awn.mode = .sleep → s.awn.hunt = true → s.awn.stale = false →
    completes (.fldSleepLost .grain) s (fun t => t.awn.hunt = false ∧ t.awn.stale = true ∧ t.awn.staleAt = s.now ∧ t.husk = s.husk)) ∧
  (∀ s : State, s.fieldUp = true → s.husk.mode = .sleep → s.husk.hunt = true →
    completes (.fldSleepLost .husk) s (fun t => t.husk.hunt = false ∧ (s.outputs ≠ 0#24 → t.husk.silenced = true ∧ t.husk.silentBy = 2)))

/-- O33. Each shedding level is entered with its actions, left one at a time, and over-voltage counts as L2. After the
start, a VBUS below a deeper level's threshold leaves that level with the measured VBUS and the latch bit of the
level; L3 leaves every stage disabled, the brake of an enabled lift off and SAFE_NOW sent; L4 closes DMA; L5 is a held
full reset with its cause bit. A VBUS 1.0 V above the threshold of a level from L2 to L5 steps one level back;
recovery leaves L0 with no deepest level; over-voltage sets its flag and latch and its end clears the flag. [R56, R57,
R58, R59, R61, R63, R72, R102, R206, Table 3-2] -/
def Obligations.SheddingActs : Prop :=
  (∀ (s : State) (v : W24), s.started = true →
    (s.sup.level.val < 1 → v.toNat < s.levelMv 1 → completes (.shedL1 v) s (fun t => t.sup.level = 1 ∧ t.sup.vbus = v ∧ t.sup.latch.getLsbD 0 = true ∧
      t.glb.cause = s.glb.cause ∧ t.glb.step = 7)) ∧
    (s.sup.level.val < 2 → v.toNat < s.levelMv 2 → completes (.shedL2 v) s (fun t => t.sup.level = 2 ∧ t.sup.vbus = v ∧ t.sup.latch.getLsbD 1 = true ∧
      t.fw.stage = none ∧ t.fw.stageNext = none ∧ ∀ a < 5, (t.axis a).stage = true → (t.axis a).hold = true)) ∧
    (s.sup.level.val < 3 → v.toNat < s.levelMv 3 → completes (.shedL3 v) s (fun t => t.sup.level = 3 ∧ t.sup.vbus = v ∧ t.sup.latch.getLsbD 2 = true ∧
      (∀ a < 5, (t.axis a).stage = false) ∧ t.safeNow = true ∧ (s.liftEn = true → t.lift.brake = false))) ∧
    (s.sup.level.val < 4 → v.toNat < s.levelMv 4 → completes (.shedL4 v) s (fun t => t.sup.level = 4 ∧ t.sup.vbus = v ∧ t.sup.latch.getLsbD 3 = true ∧
      t.dmaOpen = false)) ∧
    (s.sup.level.val < 5 → v.toNat < 18000 → completes (.shedL5 v) s (fun t => t.sup.level = 5 ∧ t.glb.held.getLsbD 1 = true ∧
      t.glb.cause.getLsbD 5 = true ∧ t.glb.step = 0 ∧ ∀ i < 8, t.isl i = .off))) ∧
  (∀ (s : State) (v : W24), 2 ≤ s.sup.level.val → s.levelMv s.sup.level.val + 1000 ≤ v.toNat → s.calm →
    completes (.shedStepUp v) s (fun t => t.sup.level.val + 1 = s.sup.level.val ∧ t.sup.vbus = v ∧
      (s.sup.level = 5 → t.glb.held.getLsbD 1 = false) ∧ t.sup.deepest = s.sup.deepest)) ∧
  (∀ (s : State) (v : W24), s.started = true → s.sup.level = 1 → s.pn 0x0204 ≤ v.toNat →
    completes (.shedRecover v) s (fun t => t.sup.level = 0 ∧ t.sup.deepest = 0 ∧ t.sup.vbus = v ∧ t.sup.recovering = false ∧ t.mot = s.mot)) ∧
  (∀ (s : State) (v : W24), s.started = true → s.sup.overV = false → s.pn 0x0205 < v.toNat →
    completes (.vbusOver v) s (fun t => t.sup.overV = true ∧ t.sup.latch.getLsbD 4 = true ∧ 2 ≤ t.effLevel ∧ t.sup.level = s.sup.level)) ∧
  (∀ (s : State) (v : W24), s.sup.overV = true → v.toNat + 1000 < s.pn 0x0205 →
    completes (.ovEnd v) s (fun t => t.sup.overV = false ∧ t.sup.level = s.sup.level ∧ t.sup.vbus = v ∧ t.mot = s.mot))

/-- O34. F24, the auxiliary outputs, the thermistor and the loss of VBUS leave the state the tables of file 03 show.
While frames arrive, F24_LOW and F24_GOOD move the F24 state and show the value; F24_UVLO stops the Husk die with its outputs
off, and where frames arrived the inputs are STALE with the latch and the state 2; HUSK_RESUME starts the die not configured;
an auxiliary output overloaded for 10 ms is off, marked and latched, with one record for an episode, and a retry switches it
on and shows whether it is still limited; a measurable thermistor shows its temperature, an open one 0x80_0000, a
disabled one 0x80_0000 with no flag; below 9 V KEEP's retention RAM and wake logic are at their power-on values, and
the level passes to L5 where the start had completed above it; VBUS no longer good during the start leaves step 0
without a counted reset. [R52, R53, R54, R55, R73, R75, R99] -/
def Obligations.SupplyEventsComplete : Prop :=
  (∀ (s : State) (mv : W24), s.husk.alive = true → s.awn.hears = true → s.awn.stale = false → s.sup.f24State = 0 → mv.toNat < s.pn 0x0210 →
    completesAs (.f24Low mv) s { s with sup.f24State := 1, sup.latch := setB s.sup.latch 5 true, husk.f24 := mv, sup.f24 := mv }) ∧
  (∀ (s : State) (mv : W24), s.husk.alive = true → s.awn.hears = true → s.awn.stale = false → s.sup.f24State = 1 → s.pn 0x0210 ≤ mv.toNat →
    completesAs (.f24Good mv) s { s with sup.f24State := 0, husk.f24 := mv, sup.f24 := mv }) ∧
  (∀ s : State, s.husk.alive = true → completes .f24Uvlo s (fun t => t.husk.alive = false ∧ t.husk.out = 0 ∧ t.husk.configured = false ∧
    t.husk.news = [.restart 0] ∧ t.awn.hAir = none ∧
    (s.awn.hears = true → t.sup.f24State = 2 ∧ t.sup.latch = setB s.sup.latch 6 true ∧ t.awn.stale = true) ∧
    (s.awn.hears = false → t.sup = s.sup ∧ t.mot = s.mot))) ∧
  (∀ (s : State) (mv : W24), s.husk.alive = false → 19200 ≤ mv.toNat → completesAs (.huskResume mv) s { s with
    husk := { alive := true, f24 := mv, temp := s.husk.temp, hot := s.husk.hot, news := s.husk.news, lastValid := s.now } }) ∧
  (∀ s : State, s.sup.aux5On = true →
    completesAs .aux5Overload s { s with sup.aux5On := false, sup.aux5Bad := true, sup.aux5Logged := true, sup.latch := setB s.sup.latch 7 true } ∧
    (s.sup.aux5Logged = false → s.records 0x0220 4 →
      completes .aux5Overload s (Recorded 0x0220 4 0 0 s))) ∧
  (∀ s : State, s.sup.aux3On = true →
    completesAs .aux3v3Overload s { s with sup.aux3On := false, sup.aux3Bad := true, sup.aux3Logged := true, sup.latch := setB s.sup.latch 8 true } ∧
    (s.sup.aux3Logged = false → s.records 0x0221 4 →
      completes .aux3v3Overload s (Recorded 0x0221 4 0 0 s))) ∧
  (∀ (s : State) (l : Bool), (s.sup.aux5On = false → completesAs (.auxRetry true l) s { s with sup.aux5On := true, sup.aux5Bad := l, sup.aux5Logged := s.sup.aux5Logged && l }) ∧
    (s.sup.aux3On = false → completesAs (.auxRetry false l) s { s with sup.aux3On := true, sup.aux3Bad := l, sup.aux3Logged := s.sup.aux3Logged && l })) ∧
  (∀ (s : State) (r : Option Nat), s.isl 7 = .run →
    (s.pb 0x0218 = false → completesAs (.ntcMeasure r) s { s with sup.tempNtc := 0x800000, sup.ntcOver := false, sup.ntcBadSent := false }) ∧
    (s.pb 0x0218 = true → r = none →
      completes (.ntcMeasure r) s (fun t => t.sup.tempNtc = 0x800000 ∧ t.sup.ntcBadSent = true ∧ t.sup.ntcOver = false)) ∧
    (∀ o, s.pb 0x0218 = true → r = some o → 20 ≤ o → o ≤ 30000 →
      completes (.ntcMeasure r) s (fun t => t.sup.tempNtc = Config.ntcSixteenths o (s.pn 0x0219) (s.pn 0x021A) ∧ t.sup.ntcBadSent = false ∧
        (s.sup.ntcOver = false → (t.sup.ntcOver = true ↔ s.pz 0x021B < Config.ntcTenths o (s.pn 0x0219) (s.pn 0x021A))) ∧
        (s.sup.ntcOver = true → (t.sup.ntcOver = false ↔ Config.ntcTenths o (s.pn 0x0219) (s.pn 0x021A) ≤ s.pz 0x021B - 50))))) ∧
  (∀ s : State, completes .vbusBelow9v s (fun t => t.keep = {} ∧ (s.started = true → s.sup.level.val < 5 → t.sup.level = 5 ∧ t.glb.step = 0) ∧
    (s.started = false → t.glb = { s.glb with faultN := t.glb.faultN }))) ∧
  (∀ s : State, 2 ≤ s.glb.step.val → s.glb.step.val < 7 → s.glb.held = 0#3 →
    completes .vbusNotGood s (fun t => t.glb.step = 0 ∧ t.glb.resetCount = s.glb.resetCount ∧ t.glb.cause = s.glb.cause ∧ t.glb.held = 0#3 ∧
      ∀ i < 8, t.isl i = .off))

/-- O35. Prewarn, shutdown and restart of the three dies. From 135 °C on the prewarn of the Grain and the Spindle die and the
latch are set with the temperature shown, and below 130 °C cleared; the Husk reports its junction and its shutdown with its
frames, and a frame that reports the shutdown stops a guard that grants permits with cause 19. A Spindle shutdown trips the guard
with cause 7; a Husk shutdown switches every output off; a Grain shutdown holds every island but KEEP in reset with the global
watchdog's and the thermal cause bits, and below 130 °C the start goes on at step 4 with the straps kept where no other reset asks
for an earlier step; the others are over below 130 °C. [R68, R69, R70, R91, R93, Table 3-5, Table 4-2] -/
def Obligations.HeatActs : Prop :=
  (∀ (s : State) (die : Die) (w : W24), die ≠ .husk → 2160 ≤ w.int → s.sup.prewarn.getLsbD (dieNum die) = false →
    completesAs (.tempPrewarn die w) s (noteTemp die w { s with sup.prewarn := setB s.sup.prewarn (dieNum die) true, sup.latch := setB s.sup.latch 9 true })) ∧
  (∀ (s : State) (die : Die) (w : W24), die ≠ .husk → w.int < 2080 → s.sup.prewarn.getLsbD (dieNum die) = true →
    completesAs (.prewarnEnd die w) s (noteTemp die w { s with sup.prewarn := setB s.sup.prewarn (dieNum die) false })) ∧
  (∀ (s : State) (w : W24), s.husk.alive = true →
    (2160 ≤ w.int → completesAs (.tempPrewarn .husk w) s { s with husk.temp := w }) ∧
    (w.int < 2080 → completesAs (.prewarnEnd .husk w) s { s with husk.temp := w })) ∧
  (∀ (s : State) (w : W24), 2480 ≤ w.int → s.sup.shutdown.getLsbD 1 = false → s.guardUp = true →
    completes (.tempShutdown .spindle w) s (fun t => t.sup.shutdown.getLsbD 1 = true ∧ t.grd.st = .trip ∧ t.grd.cause = 7 ∧
      (s.grd.st ≠ .trip → t.mot.lines = false))) ∧
  (∀ (s : State) (w : W24), s.husk.alive = true → 2480 ≤ w.int → s.husk.hot = false →
    completes (.tempShutdown .husk w) s (fun t => t.husk.hot = true ∧ t.husk.out = 0 ∧ t.husk.temp = w ∧ t.awn = s.awn ∧ t.sup = s.sup)) ∧
  (∀ (s : State) (l noise : List W24) (p : Nat) (h : HFrame), s.isl 6 = .run → s.awn.mode ≠ .sleep → s.calm → s.glb.step = 7 →
    s.awn.hAir = some l → decodeH (noisy l noise) = some h → s.awn.exempt = true ∨ inPeriod p = true → h.hot = 1#1 → s.awn.hNews = [] →
    s.sup.shutdown.getLsbD 2 = false → s.guardUp = true → s.grd.st.grants = true →
    completes (.hFrame noise p) s (fun t => t.sup.shutdown.getLsbD 2 = true ∧ vget t.sup.temp 2 0 = h.temp ∧ t.grd.st = .safeStop ∧ t.grd.cause = 19)) ∧
  (∀ (s : State) (w : W24), 2480 ≤ w.int → s.glb.held.getLsbD 2 = false →
    completes (.tempShutdown .grain w) s (fun t => t.glb.held.getLsbD 2 = true ∧ t.glb.step = 0 ∧ t.glb.cause = s.glb.cause ||| 0x50 ∧
      vget t.sup.temp 0 0 = w ∧ t.keep.lostThermal = true ∧ t.isl 7 = .run ∧ (∀ i < 7, t.isl i = .off) ∧ t.prm.bankA = s.prm.bankA ∧
      t.jrn = s.jrn ∧ t.keep.cause.getLsbD 0 = true)) ∧
  (∀ (s : State) (w : W24), w.int < 2080 → s.glb.held = 4#3 →
    completes (.tempRestart .grain w) s (fun t => t.glb.held = 0#3 ∧ t.glb.twAdr = s.glb.twAdr ∧ t.glb.bootSel = s.glb.bootSel ∧
      (s.glb.resumeAt = 4 → t.glb.step = 5 ∧ t.isl 4 = .run ∧ t.isl 5 = .run ∧ t.isl 6 = .run ∧ t.isl 7 = .run) ∧
      (s.glb.resumeAt ≠ 4 → t.glb.step = s.glb.step))) ∧
  (∀ (s : State) (w : W24), w.int < 2080 → s.sup.shutdown.getLsbD 1 = true →
    completesAs (.tempRestart .spindle w) s (noteTemp .spindle w { s with sup.shutdown := setB s.sup.shutdown 1 false })) ∧
  (∀ (s : State) (w : W24), w.int < 2080 → s.husk.hot = true →
    completesAs (.tempRestart .husk w) s { s with husk.hot := false, husk.temp := w })

/-- O36. Power-on, RESET_N, the cold start and READY pass the steps of file 04. POWER_ON leaves step 0 with cause bit 0
alone, every island OFF, KEEP and the supply state anew and the ferroelectric memory as it was, held by a low RESET_N; COLD_START with
nothing holding the reset and the crystal good reaches step 5 with GUARD, LOG, LINK and KEEP in RUN and the straps sampled, GUARD in
SAFE_STOP with cause 20, or in TRIP with cause 1 where an ESTOP channel is low, and waits at step 2 with the crystal bad; step 5 ends
35 ms after the start at the latest, with MOTION in RUN at step 6; RESET_N low for 10 µs or more is a held full reset
with cause bit 1, a pulse under 1 µs does nothing; its rise resumes the start at step 2, or waits for VBUS good where a reset before it
asks for step 1; the crystal's return goes on with a start that waits; HST_STATUS_READY sets READY and, at step 6, completes the start,
in LOCKOUT unless a held trip cause keeps TRIP. [R44, R54, R85, R88, R90, R91, R96, R97, R98, R101, R107, Table 4-2] -/
def Obligations.StartsAndResets : Prop :=
  (∀ s : State, completes .powerOn s (fun t => t.glb.step = 0 ∧ t.glb.cause = 1 ∧ t.keep = {} ∧ t.sup = {} ∧ (∀ i < 8, t.isl i = .off) ∧
    (t.glb.held = 0#3 ↔ s.land.resetN = true) ∧ t.prm.bankA = s.prm.bankA ∧ t.prm.bankB = s.prm.bankB ∧ t.prm.highEpoch = s.prm.highEpoch ∧
    t.jrn = s.jrn ∧ t.log.keep = s.log.keep ∧ t.log.roll = s.log.roll ∧ t.log.head = s.log.head ∧ t.dbg.unlocked = false)) ∧
  (∀ (s : State) (c : StartIn), s.glb.held = 0#3 → s.glb.step = 0 →
    (s.clk.crystal = true → completes (.coldStart c) s (fun t => t.glb.step = 5 ∧ t.isl 1 = s.isl 1 ∧
      t.isl 4 = .run ∧ t.isl 5 = .run ∧ t.isl 6 = .run ∧ t.isl 7 = .run ∧ t.glb.bootSel = c.bootSel ∧ t.log.mounted = true ∧
      (∀ b, c.adr0 = some b → t.glb.twAdr.getLsbD 0 = b) ∧ (∀ b, c.adr1 = some b → t.glb.twAdr.getLsbD 1 = b) ∧
      (∀ b, c.adr2 = some b → t.glb.twAdr.getLsbD 2 = b) ∧
      (s.grd.estopA = true → s.grd.estopB = true → t.grd.st = .safeStop ∧ t.grd.cause = 20) ∧
      (s.grd.estopA = false ∨ s.grd.estopB = false → t.grd.st = .trip ∧ t.grd.cause = 1))) ∧
    (s.clk.crystal = false → completes (.coldStart c) s (fun t => t.glb.step = 2 ∧ t.glb.waitCrystal = true ∧ t.glb.isl = s.glb.isl))) ∧
  (∀ s : State, s.pending = [] → s.glb.step = 5 → s.glb.startAt + 35000 ≤ s.now + 1 →
    ∃ t, step s = .next t ∧ t.glb.step = 6 ∧ t.isl 1 = .run ∧ t.now = s.now + 1) ∧
  (∀ (s : State) (n : Nat), s.land.resetN = true →
    (100 ≤ n → completes (.resetNFall n) s (fun t => t.land.resetN = false ∧ t.glb.held.getLsbD 0 = true ∧ t.glb.step = 0 ∧
      t.glb.cause = s.glb.cause ||| 2 ∧ (∀ i < 8, t.isl i = .off) ∧ t.keep.ret = s.keep.ret ∧ t.jrn = s.jrn)) ∧
    (n < 10 → completesAs (.resetNFall n) s { s with free := s.free + 1 })) ∧
  (∀ (s : State) (c : StartIn), s.land.resetN = false → s.glb.held = 1#3 → s.glb.step = 0 → s.clk.crystal = true →
    (s.glb.resumeAt ≠ 1 → completes (.resetNRise c) s (fun t => t.land.resetN = true ∧ t.glb.held = 0#3 ∧ t.glb.step = 5 ∧
      t.glb.bootSel = c.bootSel ∧ t.isl 4 = .run)) ∧
    (s.glb.resumeAt = 1 → completes (.resetNRise c) s (fun t => t.land.resetN = true ∧ t.glb.held = 0#3 ∧ t.glb.step = 0))) ∧
  (∀ (s : State) (c : StartIn), s.clk.crystal = false →
    (s.glb.waitCrystal = true → completes (.crystalLock c) s (fun t => t.clk.crystal = true ∧ t.glb.step = 5 ∧
      t.glb.waitCrystal = false ∧ t.glb.bootSel = c.bootSel ∧ t.isl 4 = .run)) ∧
    (s.glb.waitCrystal = false → completesAs (.crystalLock c) s { s with clk.crystal := true })) ∧
  (∀ s : State, s.hostAllowed = true → s.isl 0 = .run → s.host.ready = false →
    (s.glb.step ≠ 6 → completesAs .hstStatusReady s { s with host.ready := true }) ∧
    (s.glb.step = 6 → completes .hstStatusReady s (fun t => t.host.ready = true ∧ t.glb.step = 7 ∧ t.glb.bootTime = sat24 (s.now - s.glb.startAt) ∧
      (if s.grd.st = .trip ∧ s.tripHeld = true then t.grd.st = .trip else t.grd.st = .lockout))))

/-- O37. A missed watchdog restarts the island alone, a second one soon acts as the global watchdog, clock faults reset. A
missed watchdog of a watched island, with no other miss in time, leaves that island RESTARTING, counted, with its
number in GLB_WDT_LAST and its cause bits set; with another miss in time the whole block is reset with cause bit 4. An
island that is back is in RUN, or in RECOVERY on its recovery slot; a restart past its time resets the block. A
handshake timeout of an island that serves restarts a watched receiver and does nothing but report otherwise. A LOG oscillator fault restarts
LOG with its clock latch set; a crystal fault and a GUARD clock fault reset the block with their cause bits, a crystal
fault waiting at step 2. [R84, R85, R86, R87, R92, R93, R94, R102, Table 4-3] -/
def Obligations.IslandFaultsAct : Prop :=
  (∀ (s : State) (i : Island), s.watched (islNum i) = true →
    (s.globalDue (islNum i) = false → completes (.islandWdt i) s (fun t => t.isl (islNum i) = .restarting ∧ t.glb.wdtCount = satInc s.glb.wdtCount ∧
      t.glb.wdtLast = BitVec.ofNat 4 (islNum i) ∧ t.glb.cause.getLsbD 3 = true ∧ t.glb.cause.getLsbD (9 + islNum i) = true ∧ t.glb.step = s.glb.step ∧
      t.glb.faultN = true)) ∧
    (s.globalDue (islNum i) = true → completes (.islandWdt i) s (fun t => t.glb.step = 0 ∧ t.glb.cause.getLsbD 4 = true ∧ ∀ j < 8, t.isl j = .off))) ∧
  (∀ (s : State) (i : Island), islNum i < 8 → s.isl (islNum i) = .restarting → s.actRestart (islNum i) = false → s.calm →
    (fwOf (islNum i) = none → completes (.islandRestarted i) s (fun t => t.isl (islNum i) = .run ∧ vget t.glb.restartAt (islNum i) none = none)) ∧
    (∀ k, fwOf (islNum i) = some k → (s.slots k.val).running = 2 → completes (.islandRestarted i) s (fun t => t.isl (islNum i) = .recovery)) ∧
    (∀ k, fwOf (islNum i) = some k → (s.slots k.val).running ≠ 2 →
      completes (.islandRestarted i) s (fun t => t.isl (islNum i) = .run ∨ t.isl (islNum i) = .held))) ∧
  (∀ (s : State) (i : Island), islNum i < 8 → s.isl (islNum i) = .restarting → s.actRestart (islNum i) = false →
    completes (.restartTimeout i) s (fun t => t.glb.step = 0 ∧ t.glb.cause = s.glb.cause ||| 16 ∧ ∀ j < 8, t.isl j = .off)) ∧
  (∀ (s : State) (a b : Island), s.guardUp = true → s.islServes (islNum a) = true → a ≠ b →
    (s.watched (islNum b) = true → s.globalDue (islNum b) = false → completes (.handshakeTmo a b) s (fun t => t.isl (islNum b) = .restarting ∧
      t.glb.wdtLast = BitVec.ofNat 4 (islNum b))) ∧
    (s.watched (islNum b) = false → completesAs (.handshakeTmo a b) s s)) ∧
  (∀ s : State, s.watched 5 = true → s.globalDue 5 = false → completes .logOscFault s (fun t => t.isl 5 = .restarting ∧
    t.clk.good.getLsbD 9 = false ∧ t.clk.latch.getLsbD 9 = true)) ∧
  (∀ (s : State) (k : Fin 5), s.guardUp = true → completes (.clkFault k) s (fun t => t.glb.cause.getLsbD 7 = true ∧ t.glb.cause.getLsbD 4 = true ∧
    t.glb.step = 2 ∧ t.glb.waitCrystal = true ∧ t.clk.crystal = false ∧ ∀ j < 8, t.isl j = .off)) ∧
  (∀ s : State, s.guardUp = true → completes .guardClockFault s (fun t => t.glb.cause = s.glb.cause ||| 0x110 ∧ t.glb.step = 0 ∧
    t.clk.crystal = s.clk.crystal ∧ ∀ j < 8, t.isl j = .off))

/-- O38. The pass moves the guard as Tables 10-1 and 10-2 say, LOCKOUT is reached from a still machine, ESTOP trips at once. A guard
pass with no halt request and no GUARD_ACK waiting completes: with an unchanged lattice copy, after judging its rules, a failing
rule with loss action TRIP trips RUN and RESTRICT with cause 3; else RUN and RESTRICT become RESTRICT with a failing rule and RUN
without, with the permits that the rules and the fixed conditions grant; in SAFE_STOP a started machine at standstill leaves
LOCKOUT; in TRIP a started machine whose trip actions are complete with no cause held leaves LOCKOUT; LOCKOUT stays. With the two
copies different it trips with cause 9. A falling ESTOP channel trips the guard with cause 1 and disables the stage-enable lines, in
TRIP it records the cause; a channel that rises only shows. A discrepancy is latched and trips with cause 2. SAFE_STOP past its time
trips with cause 8. A trip leaves every stage disabled and no permit granted. [R320, R321, R323, R324, R325, R326, R328, R333, R335,
Table 10-1, Table 10-2] -/
def Obligations.GuardEventsAct : Prop :=
  (∀ s : State, s.guardUp = true → s.calm → s.dbg.haltWait = 0 → (∀ d, s.ring.block ≠ some (.guardAck d)) →
    (s.latticeCopy = s.grd.copyB →
      (s.grd.st = .run ∨ s.grd.st = .restrict → (judgeRules s).tripRule = false →
        completes .guardPass s (fun t => t.grd.st = (if (judgeRules s).grd.failing = 0#32 then .run else .restrict) ∧
          t.grd.failing = (judgeRules s).grd.failing ∧ t.grd.latched = (judgeRules s).grd.latched ∧ t.grd.permits = (judgeRules s).granted)) ∧
      (s.grd.st = .run ∨ s.grd.st = .restrict → (judgeRules s).tripRule = true →
        completes .guardPass s (fun t => t.grd.st = .trip ∧ t.grd.cause = 3 ∧ t.grd.permits = 0 ∧ t.mot.lines = false ∧
          ∀ x < 5, (t.axis x).stage = false)) ∧
      (s.grd.st = .safeStop → completes .guardPass s (fun t =>
        t.grd.st = (if s.started = true ∧ s.machineStill = true then .lockout else .safeStop) ∧ t.grd.permits = 0)) ∧
      (s.grd.st = .trip → completes .guardPass s (fun t =>
        t.grd.st = (if s.tripComplete = true ∧ s.tripHeld = false ∧ s.started = true then .lockout else .trip) ∧ t.grd.permits = 0)) ∧
      (s.grd.st = .lockout → completes .guardPass s (fun t => t.grd.st = .lockout ∧ t.grd.permits = 0))) ∧
    (s.latticeCopy ≠ s.grd.copyB → s.grd.st ≠ .trip →
      completes .guardPass s (fun t => t.grd.st = .trip ∧ t.grd.cause = 9 ∧ t.grd.permits = 0 ∧ ∀ x < 5, (t.axis x).stage = false))) ∧
  (∀ (s : State) (a b : Bool), s.guardUp = true → (s.grd.estopA = true ∧ a = false) ∨ (s.grd.estopB = true ∧ b = false) →
    completes (.estop a b) s (fun t => t.grd.st = .trip ∧ t.grd.cause = 1 ∧ t.grd.estopA = a ∧ t.grd.estopB = b ∧ t.mot.lines = false ∧
      (s.grd.st ≠ .trip → t.grd.permits = 0 ∧ ∀ x < 5, (t.axis x).stage = false))) ∧
  (∀ (s : State) (a b : Bool), s.guardUp = false ∨ ((s.grd.estopA = true → a = true) ∧ (s.grd.estopB = true → b = true)) →
    completes (.estop a b) s (fun t => t.grd.estopA = a ∧ t.grd.estopB = b ∧ t.grd.st = s.grd.st ∧ t.grd.cause = s.grd.cause ∧ t.mot.ax = s.mot.ax)) ∧
  (∀ s : State, s.guardUp = true → s.grd.estopA ≠ s.grd.estopB → s.grd.disc = false →
    completes .estopDiscrepancy s (fun t => t.grd.disc = true ∧ t.grd.st = .trip ∧ t.grd.cause = 2 ∧
      (s.grd.st ≠ .trip → t.grd.permits = 0 ∧ ∀ x < 5, (t.axis x).stage = false))) ∧
  (∀ s : State, s.guardUp = true → s.started = true → s.grd.st = .safeStop →
    completes .safeStopTimeout s (fun t => t.grd.st = .trip ∧ t.grd.cause = 8 ∧ t.grd.permits = 0 ∧ ∀ x < 5, (t.axis x).stage = false))

/-- O39. One profile tick of a position move never passes the target and never reverses. From a position before or at the
target and a speed of zero or toward it, one tick of a position move of any speed, acceleration, deceleration and jerk
leaves a position no further back and not past the target, and a speed of zero or toward it; once it stands at the
target it has no speed. How far it goes within that is the model's profile (log 23). [R284] -/
def Obligations.PositionMoveNeverPasses : Prop :=
  ∀ (goal : Int) (m : Move) (x : Axis), m.dir = 1 ∨ m.dir = -1 → 0 ≤ (goal - x.x) * m.dir → 0 ≤ x.v * m.dir →
    0 ≤ (goal - (posTick goal m x).x) * m.dir ∧ 0 ≤ ((posTick goal m x).x - x.x) * m.dir ∧ 0 ≤ (posTick goal m x).v * m.dir

/-- O40. The profile tick moves the axis that moves and counts standstill on the others. With MOTION running, the other
axes without motion and nothing handed over: the tick gives a position move of axis 3 or 4 the position and speed of
the generator, a stop its ramp, on AX_DEC_EMG without jerk where it is an
emergency, else on the deceleration and the jerk with which the stop began, and leaves every other axis where
it is with one more tick of standstill; with no axis in motion every axis stays where it is. [R284, R288, R289, R311] -/
def Obligations.ProfileTickMoves : Prop :=
  (∀ (s : State) (a : Nat), s.motionUp = true → a = 3 ∨ a = 4 → (s.axis a).next = none →
    (∀ b < 5, b ≠ a → (s.axis b).next = none ∧ ((s.axis b).st = .off ∨ (s.axis b).st = .standstill ∨ (s.axis b).st = .idleOff)) →
    (∀ m g, (s.axis a).st = .moving → (s.axis a).move = some m → m.target = some g → m.decDue = none →
      completes .profileTick s (fun t => (t.axis a).x = (posTick (g * xUnit) m (s.axis a)).x ∧ (t.axis a).v = (posTick (g * xUnit) m (s.axis a)).v ∧
        ∀ b < 5, b ≠ a → (t.axis b).x = (s.axis b).x ∧ (t.axis b).still = (s.axis b).still + 1)) ∧
    ((s.axis a).st = .stopping → (s.axis a).emg = true →
      completes .profileTick s (fun t => (t.axis a).x = (stopTick (s.pn (axP a 0x0C)) 0 (s.axis a)).x ∧
        (t.axis a).v = (stopTick (s.pn (axP a 0x0C)) 0 (s.axis a)).v)) ∧
    ((s.axis a).st = .stopping → (s.axis a).emg = false →
      completes .profileTick s (fun t => (t.axis a).x = (stopTick (s.axis a).stopDec (s.axis a).stopJerk (s.axis a)).x ∧
        (t.axis a).v = (stopTick (s.axis a).stopDec (s.axis a).stopJerk (s.axis a)).v))) ∧
  (∀ s : State, s.motionUp = true →
    (∀ b < 5, (s.axis b).next = none ∧ ((s.axis b).st = .off ∨ (s.axis b).st = .standstill ∨ (s.axis b).st = .idleOff)) →
    completes .profileTick s (fun t => ∀ b < 5, (t.axis b).x = (s.axis b).x ∧ (t.axis b).st = (s.axis b).st ∧ (t.axis b).still = (s.axis b).still + 1))

/-- O41. Stalls, latches, protections, idle power-down, verification and edges act on the axis they name. A stall leaves
the axis not homed with its stall latched, and disables the stage or stops it as AX_STALL_ACT says; a latch holds
position and count, and in a home search redefines the position to AX_HOME_POS and homes the axis; an overcurrent
disables the stage of a FAULT axis that is not homed; open load, hold current and an encoder edge change their field
only; the idle time disables a stage at standstill, IDLE_OFF with its state retained where homed and AX_RETAIN, else
OFF and not homed; a verified stage stands, homed only where its count agrees; a step edge moves the step target of an
EXTERNAL axis by its microsteps, or is counted as not taken where the permit or a limit bars it or a stop runs. [R296, R297, R301,
R303, R309, R310, R311, R312, R313, R314, R315, R317] -/
def Obligations.AxisEventsComplete : Prop :=
  (∀ (s : State) (a : Fin 5), s.motionUp = true → (s.axis a.val).stage = true → s.encOn a.val = true → s.pn (axP a.val 0x1B) ≠ 0 →
    s.pn (axP a.val 0x1C) ≤ (s.axis a.val).dev →
    completes (.axStall a) s (fun t => (t.axis a.val).homed = false ∧ (t.axis a.val).stall = true ∧
      (s.pn (axP a.val 0x1D) = 2 → (t.axis a.val).stage = false) ∧
      (s.pn (axP a.val 0x1D) ≠ 2 → s.owner a.val = 0 → (s.axis a.val).moves = true → (t.axis a.val).st = .stopping))) ∧
  (∀ (s : State) (a : Fin 5) (us : Fin 50) (ns : Fin 1000) (p : W24 × W24), s.motionUp = true → (s.axis a.val).latchArmed = true →
    ((s.axis a.val).st ≠ .homing → (s.axis a.val).edge = some p → s.owner a.val ≠ 2 →
      completesAs (.axLatch a us ns) s (axMod a.val (fun x => { x with latch := some p, latchArmed := false, edge := none }) s)) ∧
    ((s.axis a.val).st = .homing →
      (s.pn (axP a.val 0x28) = 1 ∧ p = (w24i (((s.axis a.val).x + 2 * (s.axis a.val).v * ((1000 * us.val + ns.val : Nat) : Int) / 50000) / xUnit), (s.axis a.val).enc)) ∨
        (s.pn (axP a.val 0x28) ≠ 1 ∧ (s.axis a.val).edge = some p) →
      completes (.axLatch a us ns) s (fun t => (t.axis a.val).homed = true ∧
      (t.axis a.val).latch = some p ∧ (t.axis a.val).latchArmed = false ∧ (t.axis a.val).st = .stopping ∧
      (t.axis a.val).x = wrapX ((s.axis a.val).x + (s.pz (axP a.val 0x2C) - p.1.int) * xUnit) ∧ t.index a.val = s.index a.val))) ∧
  (∀ (s : State) (a : Fin 5) (b : Fin 2) (k : Nat), s.motionUp = true → (s.axis a.val).stage = true → 1 ≤ k → k ≤ 3 →
    completes (.axOvercurrent a b k) s (fun t => (t.axis a.val).stage = false ∧ (t.axis a.val).homed = false ∧
      (s.owner a.val = 0 → (t.axis a.val).st = .fault))) ∧
  (∀ (s : State) (a : Fin 5) (o : Bool), s.motionUp = true → (s.axis a.val).stage = true →
    ((s.axis a.val).openA ≠ o → completesAs (.axOpenLoad a 0 o) s (axMod a.val (fun x => { x with openA := o }) s)) ∧
    ((s.axis a.val).openB ≠ o → completesAs (.axOpenLoad a 1 o) s (axMod a.val (fun x => { x with openB := o }) s)) ∧
    ((s.axis a.val).stands = true → completesAs (.holdCurrent a) s (axMod a.val (fun x => { x with hold := true }) s))) ∧
  (∀ (s : State) (a : Fin 5), s.motionUp = true → (s.axis a.val).stage = true → (s.axis a.val).stands = true → (s.axis a.val).verifying = false →
    s.pn (axP a.val 0x03) ≠ 0 → (s.axis a.val).st = .standstill →
    completes (.axIdleOff a) s (fun t => (t.axis a.val).stage = false ∧ (t.axis a.val).x = (s.axis a.val).x ∧
      (if (s.axis a.val).homed = true ∧ s.pb (axP a.val 0x04) = true
        then (t.axis a.val).st = .idleOff ∧ (t.axis a.val).homed = true ∧ vget t.keep.ret a.val none = some (s.retainNow a.val)
        else (t.axis a.val).st = .off ∧ (t.axis a.val).homed = false))) ∧
  (∀ (s : State) (a : Fin 5), s.motionUp = true → (s.axis a.val).verifying = true → (s.axis a.val).after = none ∨ (s.axis a.val).after = some .stand →
    s.owner a.val = 0 →
    completes (.axVerify a) s (fun t => (t.axis a.val).verifying = false ∧ (t.axis a.val).st = s.standState a.val ∧ (t.axis a.val).stage = (s.axis a.val).stage ∧
      vget t.keep.ret a.val none = none ∧
      ((t.axis a.val).homed = true ↔ (s.axis a.val).homed = true ∧
        ∀ r, s.retOf a.val = some r → ((s.axis a.val).enc - r.enc).int.natAbs ≤ s.pn (axP a.val 0x1E)))) ∧
  (∀ (s : State) (two high : Bool), s.motionUp = true → (s.axis (if two then 4 else 3)).stage = true → (s.axis (if two then 4 else 3)).st = .external →
    (s.axis (if two then 4 else 3)).verifying = false → (s.axis (if two then 4 else 3)).suspended = false →
    s.standState (if two then 4 else 3) = .external →
    (s.permit (axPermit (if two then 4 else 3)) = false ∨ s.limitBars (if two then 4 else 3) (if high then -1 else 1) = true →
      completesAs (.stepEdge two high) s (axMod (if two then 4 else 3) (fun x => { x with ignored := x.ignored + 1 }) s)) ∧
    (s.permit (axPermit (if two then 4 else 3)) = true → s.limitBars (if two then 4 else 3) (if high then -1 else 1) = false →
      ((s.axis (if two then 4 else 3)).stepTarget + w24i (256 / 2 ^ s.pn (axP (if two then 4 else 3) 0x31) * (if high then -1 else 1)) -
        (s.axis (if two then 4 else 3)).word).int.natAbs ≤ s.pn (axP (if two then 4 else 3) 0x32) →
      completes (.stepEdge two high) s (fun t => (t.axis (if two then 4 else 3)).stepTarget =
        (s.axis (if two then 4 else 3)).stepTarget + w24i (256 / 2 ^ s.pn (axP (if two then 4 else 3) 0x31) * (if high then -1 else 1)) ∧
        (t.axis (if two then 4 else 3)).ignored = 0 ∧ (t.axis (if two then 4 else 3)).x = (s.axis (if two then 4 else 3)).x))) ∧
  (∀ (s : State) (two high : Bool), s.motionUp = true → (s.axis (if two then 4 else 3)).stage = true → (s.axis (if two then 4 else 3)).st = .stopping →
    (s.axis (if two then 4 else 3)).verifying = false → (s.axis (if two then 4 else 3)).suspended = false →
    s.standState (if two then 4 else 3) = .external →
    completesAs (.stepEdge two high) s (axMod (if two then 4 else 3) (fun x => { x with ignored := x.ignored + 1 }) s)) ∧
  (∀ (s : State) (i : Fin 6) (up : Bool), 4 ≤ s.glb.step.val →
    (i.val < 5 → s.encOn i.val = true → completesAs (.encoderEdge i up) s (axMod i.val (fun x =>
      { x with enc := if up = s.pb (axP i.val 0x1A) then x.enc - 1 else x.enc + 1 }) s)) ∧
    (i.val = 5 → s.pb 0x1800 = true → completesAs (.encoderEdge i up) s
      { s with mot.encM := if up = s.pb 0x1801 then s.mot.encM - 1 else s.mot.encM + 1 }))

/-- O42. Dispatch, dwell, park, the steps of a trip, its stop and its abandoning complete with the effect of file 11. Where the
dispatch conditions hold: no selected call clears the direction; a call at another landing begins a trip, on a stage that is
enabled, is enabled now, or first verifies, and a faulted or lost axis faults the car; a call at the car's own landing is served, or
begins a door cycle; a park landing elsewhere is driven to with no call pending. An expired dwell ends. The move of a trip starts
axis 0 towards the target, or undoes a dispatch whose conditions fail; the home search starts homing. At the target the car sets
the brake where no flag is configured or the error is inside the level window, re-levels inside the correction window and else
faults with cause 3 or 4; levelling redefines the position to the landing. A complete stop serves its call, begins its door cycle,
ends a park trip, in HOLD where one is pending, or ends the homing. An abandoned trip is HOLD with cause 3, or the cause that was
pending. [R347, R351, R352, R354, R355, R356, R357, R358, R359, R361, R362, Table 11-3] -/
def Obligations.LiftEventsComplete : Prop :=
  (∀ s : State, s.mayDispatch = true →
    (s.select = none → completesAs .liftDispatch s { s with lift.dir := 0 }) ∧
    (∀ c, s.select = some c → s.pn 0x2009 < s.callDist c →
      ((s.axis 0).st = .fault → completes .liftDispatch s (fun t => t.lift.cause = 2 ∧ t.lift.calls = [])) ∧
      ((s.axis 0).st ≠ .fault → (s.axis 0).homed = false → completes .liftDispatch s (fun t => t.lift.cause = 1 ∧ t.lift.calls = [])) ∧
      ((s.axis 0).st ≠ .fault → (s.axis 0).homed = true →
        completes .liftDispatch s (fun t => t.lift.st = .dispatch ∧ t.lift.target = Fin.ofNat 16 c.landing.val ∧ t.lift.park = false ∧
          t.lift.calls = s.lift.calls.map (fun x => if x.landing = c.landing then { x with dispatched := true } else x) ∧
          (t.axis 0).x = (s.axis 0).x ∧
          ((s.axis 0).stage = true → (s.axis 0).verifying = false → t.lift.phase = .brakeRelease ∧ t.mot = s.mot ∧
            t.lift.brake = (match s.chan 0x2002 with
              | none => true
              | some b => s.outGranted b)) ∧
          ((s.axis 0).stage = false → s.encOn 0 = false → t.lift.phase = .brakeRelease ∧ (t.axis 0).stage = true) ∧
          ((s.axis 0).stage = false → s.encOn 0 = true → t.lift.phase = .verify ∧ (t.axis 0).stage = true ∧ (t.axis 0).verifying = true)))) ∧
    (∀ c, s.select = some c → s.callDist c ≤ s.pn 0x2009 → c.door = false → s.lift.pendHold = none →
      completes .liftDispatch s (fun t => t.lift.st = .idle ∧ t.lift.last = Fin.ofNat 16 c.landing.val ∧ t.lift.dwell = (s.dwellOf c != 0) ∧
        t.lift.calls = s.lift.calls.filter (fun x => x.landing != c.landing) ∧ t.mot = s.mot)) ∧
    (∀ c, s.select = some c → s.callDist c ≤ s.pn 0x2009 → c.door = true → s.ldgDoor c.landing.val = 1 ∨ s.ldgDoor c.landing.val = 2 →
      completes .liftDispatch s (fun t => t.lift.st = .doorCycle ∧ t.lift.last = Fin.ofNat 16 c.landing.val ∧ t.mot = s.mot ∧
        t.dr (s.ldgDoor c.landing.val - 1) = { s.dr (s.ldgDoor c.landing.val - 1) with
          cycle := true, openDue := true, holdMs := some (s.dwellOf c), holdInf := false })) ∧
    (s.pn 0x200C ≠ 0 → s.lift.calls = [] →
      (∀ k, (List.range 12).find? (fun n => s.ldgEn n && s.pb (ldgP n 9)) = some k → s.pn 0x2009 < (s.ldgPos k - s.carPos).natAbs →
        (s.axis 0).st ≠ .fault → (s.axis 0).homed = true → (s.axis 0).stage = true → (s.axis 0).verifying = false →
        completes .liftPark s (fun t => t.lift.st = .dispatch ∧ t.lift.target = Fin.ofNat 16 k ∧ t.lift.park = true ∧ t.mot = s.mot)) ∧
      (∀ k, (List.range 12).find? (fun n => s.ldgEn n && s.pb (ldgP n 9)) = some k → (s.ldgPos k - s.carPos).natAbs ≤ s.pn 0x2009 →
        completesAs .liftPark s s) ∧
      ((List.range 12).find? (fun n => s.ldgEn n && s.pb (ldgP n 9)) = none → completesAs .liftPark s s))) ∧
  (∀ s : State, s.liftUp = true → s.lift.dwell = true → completesAs .liftDwellEnd s { s with lift.dwell := false }) ∧
  (∀ s : State, s.liftUp = true →
    (s.lift.phase = .brakeRelease → s.lift.verifyTrip = false → s.dispatchOk = true → (s.axis 0).st ≠ .fault →
      completes .liftMoveStart s (fun t => t.lift.phase = .moving ∧ (t.lift.st = .run ∨ t.lift.st = .approach) ∧ (t.axis 0).st = .moving ∧
        (∃ m, (t.axis 0).move = some m ∧ m.target = some (s.ldgPos s.lift.target.val)) ∧ (t.axis 0).x = (s.axis 0).x)) ∧
    (s.lift.phase = .brakeRelease → s.dispatchOk = false → s.lift.pendHold = none →
      completes .liftMoveStart s (fun t => t.lift.st = .idle ∧ t.lift.target = 15 ∧ t.lift.brake = false ∧ t.mot = s.mot ∧
        t.lift.calls = s.lift.calls.map (fun c => { c with dispatched := false }))) ∧
    (s.lift.phase = .homeBrake → completes .liftMoveStart s (fun t => t.lift.phase = .homeSearch ∧ (t.axis 0).st = .homing ∧
      (t.axis 0).homed = false ∧ (t.axis 0).latchArmed = true))) ∧
  (∀ s : State, s.liftUp = true → s.lift.phase = .moving → s.lift.abandon = false → (s.axis 0).stands = true →
    s.carPos = s.ldgPos s.lift.target.val →
    (s.chan (ldgP s.lift.target.val 1) = none →
      completes .liftArrived s (fun t => t.lift.phase = .brakeSet ∧ t.lift.st = (if s.lift.verifyTrip = true then .notHomed else .level) ∧
        t.lift.err = 0 ∧ t.lift.brake = false)) ∧
    (s.chan (ldgP s.lift.target.val 1) ≠ none → (s.axis 0).latch = none → s.lift.verifyTrip = false →
      completes .liftArrived s (fun t => t.lift.cause = 3 ∧ t.lift.calls = [])) ∧
    (∀ p e, s.chan (ldgP s.lift.target.val 1) ≠ none → (s.axis 0).latch = some (p, e) →
      ((p.int - (s.ldgPos s.lift.target.val + s.flagOffset s.lift.target.val)).natAbs ≤ s.pn 0x2009 →
        completes .liftArrived s (fun t => t.lift.phase = .brakeSet ∧ t.lift.st = (if s.lift.verifyTrip = true then .notHomed else .level) ∧
          t.lift.brake = false ∧ t.lift.err = p.int - (s.ldgPos s.lift.target.val + s.flagOffset s.lift.target.val))) ∧
      (s.pn 0x2009 < (p.int - (s.ldgPos s.lift.target.val + s.flagOffset s.lift.target.val)).natAbs →
        (p.int - (s.ldgPos s.lift.target.val + s.flagOffset s.lift.target.val)).natAbs ≤ s.pn 0x200A →
        completes .liftArrived s (fun t => t.lift.phase = .levelling ∧ (t.axis 0).st = .moving ∧
          ∃ m, (t.axis 0).move = some m ∧
            m.target = some (s.ldgPos s.lift.target.val + (p.int - (s.ldgPos s.lift.target.val + s.flagOffset s.lift.target.val))))) ∧
      (s.pn 0x2009 < (p.int - (s.ldgPos s.lift.target.val + s.flagOffset s.lift.target.val)).natAbs →
        s.pn 0x200A < (p.int - (s.ldgPos s.lift.target.val + s.flagOffset s.lift.target.val)).natAbs → s.lift.verifyTrip = false →
        completes .liftArrived s (fun t => t.lift.cause = 4 ∧ t.lift.calls = [])))) ∧
  (∀ s : State, s.liftUp = true → s.lift.phase = .levelling → s.lift.abandon = false → (s.axis 0).stands = true →
    completes .liftLevelled s (fun t => t.lift.phase = .brakeSet ∧ (t.axis 0).pos = s.ldgPos s.lift.target.val ∧ t.index 0 = s.index 0 ∧
      t.lift.brake = false)) ∧
  (∀ s : State, s.liftUp = true → s.lift.phase = .brakeSet → s.lift.abandon = false →
    (∀ c, s.lift.verifyTrip = false → s.lift.park = false → s.lift.pendHold = none → s.lift.calls.find? (fun x => x.dispatched) = some c → c.door = false →
      completes .liftStopComplete s (fun t => t.lift.st = .idle ∧ t.lift.last = Fin.ofNat 16 c.landing.val ∧ t.lift.target = 15 ∧
        t.lift.calls = s.lift.calls.filter (fun x => x.landing != c.landing) ∧ t.lift.dwell = (s.dwellOf c != 0))) ∧
    (∀ c, s.lift.verifyTrip = false → s.lift.park = false → s.lift.calls.find? (fun x => x.dispatched) = some c → c.door = true →
      s.ldgDoor s.lift.target.val = 1 ∨ s.ldgDoor s.lift.target.val = 2 →
      completes .liftStopComplete s (fun t => t.lift.st = .doorCycle ∧ t.lift.last = Fin.ofNat 16 s.lift.target.val ∧ t.mot = s.mot ∧
        (t.dr (s.ldgDoor s.lift.target.val - 1)).openDue = true ∧ (t.dr (s.ldgDoor s.lift.target.val - 1)).cycle = true)) ∧
    (s.lift.verifyTrip = false → s.lift.park = true → completes .liftStopComplete s (fun t => t.lift.park = false ∧ t.lift.target = 15 ∧
      t.lift.last = Fin.ofNat 16 s.lift.target.val ∧ t.lift.calls = s.lift.calls ∧
      (s.lift.pendHold = none → t.lift.st = .idle) ∧ (∀ h, s.lift.pendHold = some h → t.lift.st = .hold ∧ t.lift.holdCause = h))) ∧
    (s.lift.verifyTrip = true → completes .liftStopComplete s (fun t => t.lift.st = .idle ∧ t.lift.verifyTrip = false ∧ t.lift.homeRef = none ∧
      t.lift.last = Fin.ofNat 16 s.lift.target.val ∧ t.lift.dir = 0))) ∧
  (∀ s : State, s.liftUp = true → s.lift.abandon = true → (s.axis 0).stands = true →
    completes .liftTripAbandoned s (fun t => t.lift.st = .hold ∧ t.lift.holdCause = s.lift.pendHold.getD 3 ∧ t.lift.pendHold = none ∧
      t.lift.brake = false ∧ t.lift.abandon = false ∧ t.lift.park = false ∧
      t.lift.calls = s.lift.calls.map (fun c => { c with dispatched := false })))

/-- O43. The door decision and the door events complete with the transitions of Table 12-2. For an enabled door of a running LIFT,
the other door not enabled: the first decision judges it by its two switches; then an open due unlocks a closed and locked door that
may open; an unlocked lock opens it, on a stage that is enabled or is enabled now; at the open position it is OPEN with its
hold-open time running; a close due closes it where it may close, or nudges it after the allowed reversals; at the closed position
with the switch on it locks, with it off it faults with cause 3, with it unavailable it waits; a confirmed lock is CLOSED_LOCKED; a
close due in FAULT begins the recovery. The end of the hold-open time makes a close due; a lock that confirms too late and a door
forced give FAULT 1 and FAULT 5; an obstruction of a closing door reverses it, of a nudging door stops it for a retry or gives FAULT
4; a nudge retry sets the door moving again. [R372, R373, R374, R376, R377, R378, R379, R380, R383, Table 12-1, Table 12-2] -/
def Obligations.DoorEventsComplete : Prop :=
  (∀ (s : State) (k : Fin 2), s.doorUp k = true → s.drEn (1 - k.val) = false →
    (∀ c l, (s.dr k.val).judged = false → s.drCh k.val 5 = some c → s.drCh k.val 4 = some l → s.inputOk c = true → s.inputOk l = true →
      (s.input c = true ∧ s.input l = true → completes .doorDecision s (fun t => (t.dr k.val).st = .closedLocked ∧ (t.dr k.val).judged = true ∧
        (t.axis (k.val + 1)).homed = true ∧ (t.axis (k.val + 1)).pos = s.posClosed k.val ∧ t.index (k.val + 1) = s.index (k.val + 1))) ∧
      (s.input c = false ∨ s.input l = false → completes .doorDecision s (fun t => (t.dr k.val).st = .fault ∧ (t.dr k.val).cause = 7 ∧
        (t.dr k.val).judged = true ∧ t.mot = s.mot))) ∧
    ((s.dr k.val).judged = true →
      ((s.dr k.val).st = .closedLocked → (s.dr k.val).openDue = true → s.drPermit k.val = true → s.heldAtSafe 2 = false → s.axisHeld (k.val + 1) = false →
        completes .doorDecision s (fun t => (t.dr k.val).st = .unlocking ∧ (t.dr k.val).lock = true ∧ (t.dr k.val).buzzer = false ∧
          (t.dr k.val).openDue = false ∧ t.mot = s.mot)) ∧
      ((s.dr k.val).st = .unlocking → s.readsOff (s.drCh k.val 4) = true → s.mayMove k.val = true → (s.axis (k.val + 1)).verifying = false →
        (s.axis (k.val + 1)).moves = false →
        (s.axis (k.val + 1)).stage = true ∨ (s.linesOn = true ∧ s.encOn (k.val + 1) = false) →
        completes .doorDecision s (fun t => (t.dr k.val).st = .opening ∧ (t.axis (k.val + 1)).st = .moving ∧ (t.axis (k.val + 1)).stage = true ∧
          ∃ m, (t.axis (k.val + 1)).move = some m ∧ m.target = some (s.posOpen k.val))) ∧
      ((s.dr k.val).st = .opening → (s.axis (k.val + 1)).st ≠ .fault → (s.axis (k.val + 1)).stage = true → s.standsAt (k.val + 1) (s.posOpen k.val) = true →
        completes .doorDecision s (fun t => (t.dr k.val).st = .opened ∧
          (t.dr k.val).holdEnd = some (s.now + (s.dr k.val).holdMs.getD (s.pn (drP k.val 0x0C)) * 1000) ∧
          (t.dr k.val).openRefs = [] ∧ t.mot = s.mot)) ∧
      ((s.dr k.val).st = .opened → (s.dr k.val).closeDue = true → s.drPermit k.val = true → s.doorsFree = true → s.axisHeld (k.val + 1) = false →
        ((s.dr k.val).rev < s.pn (drP k.val 0x0D) →
          completes .doorDecision s (fun t => (t.dr k.val).st = .closing ∧ (t.dr k.val).closeDue = false ∧ (t.dr k.val).refE = (s.axis (k.val + 1)).enc)) ∧
        (s.pn (drP k.val 0x0D) ≤ (s.dr k.val).rev →
          completes .doorDecision s (fun t => (t.dr k.val).st = .nudging ∧ (t.dr k.val).buzzer = true ∧ (t.dr k.val).tries = 0))) ∧
      ((s.dr k.val).st = .closing → (s.dr k.val).openDue = false → (s.axis (k.val + 1)).st ≠ .fault → (s.axis (k.val + 1)).stage = true →
        s.standsAt (k.val + 1) (s.posClosed k.val) = true →
        (s.readsOn (s.drCh k.val 5) = true → completes .doorDecision s (fun t => (t.dr k.val).st = .locking ∧ (t.dr k.val).lock = false ∧ t.mot = s.mot)) ∧
        (s.readsOff (s.drCh k.val 5) = true → completes .doorDecision s (fun t => (t.dr k.val).st = .fault ∧ (t.dr k.val).cause = 3)) ∧
        (s.readsOn (s.drCh k.val 5) = false → s.readsOff (s.drCh k.val 5) = false → completesAs .doorDecision s s)) ∧
      ((s.dr k.val).st = .locking → s.readsOn (s.drCh k.val 4) = true → (s.dr k.val).cycle = false →
        completes .doorDecision s (fun t => (t.dr k.val).st = .closedLocked ∧ (t.dr k.val).rev = 0 ∧ (t.dr k.val).closeRefs = [] ∧ t.mot = s.mot)) ∧
      ((s.dr k.val).st = .fault → (s.dr k.val).closeDue = true → s.mayMove k.val = true → s.axisHeld (k.val + 1) = false →
        (s.axis (k.val + 1)).stands = true → (s.axis (k.val + 1)).verifying = false → (s.axis (k.val + 1)).stage = true →
        completes .doorDecision s (fun t => (t.dr k.val).st = .nudging ∧ (t.dr k.val).recovered = true ∧ (t.dr k.val).lock = true ∧
          (t.axis (k.val + 1)).st = (if (s.axis (k.val + 1)).homed = true then .moving else .velocity))))) ∧
  (∀ (s : State) (k : Fin 2), s.doorUp k = true →
    ((s.dr k.val).st = .opened → (s.dr k.val).holdEnd ≠ none → (s.dr k.val).holdInf = false →
      completesAs (.holdOpenEnd k) s (drMod k.val (fun y => { y with closeDue := true, holdEnd := none }) s)) ∧
    ((s.dr k.val).st = .unlocking → s.readsOff (s.drCh k.val 4) = false →
      completes (.lockConfirmTimeout k) s (fun t => (t.dr k.val).st = .fault ∧ (t.dr k.val).cause = 1 ∧ (t.dr k.val).lock = false)) ∧
    ((s.dr k.val).st = .locking → s.readsOn (s.drCh k.val 4) = false →
      completes (.lockConfirmTimeout k) s (fun t => (t.dr k.val).st = .fault ∧ (t.dr k.val).cause = 1 ∧ (t.dr k.val).lock = false)) ∧
    ((s.dr k.val).st = .closedLocked → s.readsOff (s.drCh k.val 5) = true ∨ s.readsOff (s.drCh k.val 4) = true →
      completes (.doorForced k) s (fun t => (t.dr k.val).st = .fault ∧ (t.dr k.val).cause = 5)) ∧
    ((s.dr k.val).st = .closing → s.obstructed k.val = true → (s.axis (k.val + 1)).moves = true →
      completes (.doorObstructed k false) s (fun t => (t.dr k.val).st = .reversing ∧ (t.dr k.val).rev = (s.dr k.val).rev + 1 ∧
        (t.dr k.val).closeRefs = [] ∧ (t.axis (k.val + 1)).st = .stopping ∧ (t.axis (k.val + 1)).emg = true ∧ (t.axis (k.val + 1)).next ≠ none)) ∧
    ((s.dr k.val).st = .closing → s.curtained k.val = true →
      completes (.doorObstructed k true) s (fun t => (t.dr k.val).st = .reversing ∧ (t.dr k.val).rev = (s.dr k.val).rev + 1)) ∧
    ((s.dr k.val).st = .nudging → s.obstructed k.val = true → (s.dr k.val).retryWait = false →
      ((s.dr k.val).tries + 1 < (s.dr k.val).maxTries → completes (.doorObstructed k false) s (fun t => (t.dr k.val).st = .nudging ∧
        (t.dr k.val).retryWait = true ∧ (t.dr k.val).tries = (s.dr k.val).tries + 1)) ∧
      ((s.dr k.val).maxTries ≤ (s.dr k.val).tries + 1 → completes (.doorObstructed k false) s (fun t => (t.dr k.val).st = .fault ∧ (t.dr k.val).cause = 4))) ∧
    ((s.dr k.val).st = .nudging → (s.dr k.val).retryWait = true → (s.axis (k.val + 1)).stands = true →
      completes (.nudgeRetry k) s (fun t => (t.dr k.val).st = .nudging ∧ (t.dr k.val).retryWait = false ∧
        (t.axis (k.val + 1)).st = (if (s.dr k.val).recovery = true then .velocity else .moving))))

/-- O44. Precharge, alignment, handover, the 1 ms tick and the end of the dose have the effect of file 13. A precharge
that ends well leads to ALIGN, which waits while a commit holds the drive at its safe point, or to the reverse pulse of an un-jam; with a low bootstrap voltage to FAULT cause 5.
ALIGN ends in RAMP; the handover speed, within 10 %, leads to RUN with the q-current of the ramp; a start without handover coasts
for one retry, the second time into FAULT 1. The tick counts the dose in its unit and in RUN bounds the q-current by
its limit; the reached dose ends the command OK, in STOPPING or COAST as GR_DOSE_STOP says. Overcurrent and gate
undervoltage leave FAULT 4 and 5 with the command ended. [R391, R394, R396, R397, R400, R401, Table 13-3] -/
def Obligations.GrinderStartEvents : Prop :=
  (∀ s : State, (s.grind.precharge = some false → s.heldAtSafe 3 = true → completesAs (.prechargeDone true) s s) ∧
    (s.grind.precharge = some false → s.heldAtSafe 3 = false → completes (.prechargeDone true) s (fun t => t.grind.st = .align ∧ t.grind.precharge = none ∧
      t.grind.still = false ∧ t.grind.ref = s.grind.ref ∧ t.grind.count = s.grind.count ∧ t.grind.vec = s.pn 0x2810 ∧
      t.grind.rampMa = s.pn 0x2812 ∧ t.grind.rampAcc = s.pn 0x2813)) ∧
    (s.grind.precharge = some true → completesAs (.prechargeDone true) s
      { s with grind.precharge := none, grind.switching := true, grind.still := false, grind.vec := s.grind.unjamMa }) ∧
    (s.grind.precharge ≠ none → completes (.prechargeDone false) s (fun t => t.grind.st = .fault ∧ t.grind.cause = 5 ∧ t.grind.ref = none))) ∧
  (∀ s : State, s.grind.st = .align → completesAs .alignDone s { s with grind.st := .ramp, grind.target := 0, grind.vec := s.grind.rampMa }) ∧
  (∀ (s : State) (w : W24), s.grind.st = .ramp → s.handoverOk w = true → completesAs (.grindHandover w) s
    { s with grind.st := .run, grind.rpm := w, grind.vec := 0, grind.iq := s.grind.rampMa, grind.integ := (s.grind.rampMa : Int) * 100000 }) ∧
  (∀ (s : State) (w : W24), s.grind.st = .ramp →
    (s.grind.fails = 0 → completes (.grindStartFail w) s (fun t => t.grind.st = .coast ∧ t.grind.after = .retry ∧ t.grind.fails = 1 ∧
      t.grind.ref = s.grind.ref)) ∧
    (s.grind.fails ≠ 0 → completes (.grindStartFail w) s (fun t => t.grind.st = .coast ∧ t.grind.after = .faultStart ∧ t.grind.ref = none))) ∧
  (∀ (s : State) (w : W24) (n : Nat), s.grind.st = .run → s.grind.precharge = none →
    completes (.grindTick w n) s (fun t => t.grind.rpm = w ∧ t.grind.st = .run ∧ t.grind.ms = s.grind.ms + 1 ∧ t.grind.iq.natAbs ≤ s.pn 0x280A ∧
      (s.grind.doseRun = true → s.grind.count + n ≤ 16777215 → s.grind.count < 16777215 →
        t.grind.count = s.grind.count + (if s.grind.revs = true then n else 1)) ∧
      (s.grind.doseRun = false → s.grind.count ≤ 16777215 → t.grind.count = s.grind.count))) ∧
  (∀ s : State, s.grind.doseRun = true → s.grind.precharge = none → s.grind.dose ≤ s.grind.count → s.grind.st = .run →
    completes .grindDone s (fun t => t.grind.st = (if s.pn 0x281C = 0 then .stopping else .coast) ∧ t.grind.ref = none ∧ t.grind.doseRun = false ∧
      t.grind.count = s.grind.count)) ∧
  (∀ (s : State) (p : Fin 3) (ma : W24) (g : Fin 4), s.grind.st ≠ .disabled →
    completes (.grindOvercurrent p ma) s (fun t => t.grind.st = .fault ∧ t.grind.cause = 4 ∧ t.grind.ref = none ∧ t.grind.iq = 0) ∧
    completes (.grindGateUv g) s (fun t => t.grind.st = .fault ∧ t.grind.cause = 5 ∧ t.grind.ref = none ∧ t.grind.iq = 0))

/-- O45. Rotor loss, catch-spin, jam and standstill have the effect of file 13. A rotor loss starts the next catch
attempt, and after the second ends the episode in a coast to FAULT 2; a catch settles, measures the speed and switches
where it is at least GR_CATCH_MIN, else the episode ends; a re-lock is RUN at the measured speed; an attempt past its
time is followed by the second, then by the end of the episode; a re-lock that holds ends the episode. A jam coasts
with its command ended; a reverse pulse ends. At standstill the coast leads where its cause says: STOPPED, a retried
precharge, FAULT 1, 2 or 3, or an un-jam where it is allowed; the stop commands end. [R393, R403, R404, R405, R406,
R407, Table 13-3] -/
def Obligations.GrinderLossAndStop : Prop :=
  (∀ (s : State) (j : Bool) (w : W24), s.grind.st = .run →
    (s.grind.attempt.val < 2 → completes (.grindRotorLoss j w) s (fun t => t.grind.st = .catching ∧ t.grind.attempt.val = s.grind.attempt.val + 1 ∧
      t.grind.settled = false ∧ t.grind.switching = false ∧ t.grind.iq = 0 ∧ t.grind.ref = s.grind.ref)) ∧
    (s.grind.attempt = 2 → completes (.grindRotorLoss j w) s (fun t => t.grind.st = .coast ∧ t.grind.after = .faultLost ∧ t.grind.ref = none))) ∧
  (∀ s : State, s.grind.st = .catching → s.grind.settled = false → completesAs .catchSettle s { s with grind.settled := true }) ∧
  (∀ (s : State), s.grind.st = .catching → s.grind.settled = true → s.grind.switching = false →
    (∀ v : W24, (s.pn 0x2824 : Int) ≤ v.int → completesAs (.catchMeasured (some v)) s
      { s with grind.measured := v, grind.rpm := v, grind.switching := true }) ∧
    (∀ v : W24, v.int < (s.pn 0x2824 : Int) → completes (.catchMeasured (some v)) s (fun t => t.grind.st = .coast ∧ t.grind.after = .faultLost ∧
      t.grind.ref = none)) ∧
    (s.grind.attempt = 1 → completesAs (.catchMeasured none) s { s with grind.attempt := 2, grind.settled := false, grind.switching := false })) ∧
  (∀ s : State, s.grind.st = .catching → s.grind.switching = true →
    completesAs .grindRelocked s { s with
      grind.st := .run, grind.settled := false, grind.switching := false, grind.target := s.grind.measured.toNat * 1000, grind.integ := 0 } ∧
    (s.grind.attempt = 1 → completesAs .catchTimeout s { s with grind.attempt := 2, grind.settled := false, grind.switching := false }) ∧
    (s.grind.attempt ≠ 1 → completes .catchTimeout s (fun t => t.grind.st = .coast ∧ t.grind.after = .faultLost ∧ t.grind.ref = none))) ∧
  (∀ s : State, s.grind.st = .run → s.grind.attempt ≠ 0 → completesAs .relockHoldEnd s { s with grind.attempt := 0 }) ∧
  (∀ (s : State) (w : W24), s.grind.st = .run → completes (.grindJam w) s (fun t => t.grind.st = .coast ∧ t.grind.after = .jam ∧ t.grind.ref = none ∧
    t.grind.doseRun = false ∧ t.grind.unjamEn = s.pb 0x2829 ∧ t.grind.unjamMa = s.pn 0x282A ∧ t.grind.unjamDeg = s.pn 0x282B)) ∧
  (∀ s : State, s.grind.st = .unjam → s.grind.precharge = none → s.grind.switching = true →
    completesAs .grindUnjam s { s with grind.switching := false, grind.vec := 0 }) ∧
  (∀ s : State, s.grind.st = .unjam → s.grind.precharge = none → s.grind.switching = false →
    completes .grindStandstill s (fun t => t.grind.still = true ∧ t.grind.st = .fault ∧ t.grind.cause = 3)) ∧
  (∀ s : State, s.grind.st = .coast → s.grind.precharge = none →
    completes .grindStandstill s (fun t => t.grind.still = true ∧ t.grind.rpm = 0 ∧ t.grind.stops = [] ∧
      (s.grind.after = .stopped → s.pb 0x2800 = true → t.grind.st = .stopped) ∧
      (s.grind.after = .retry → t.grind.st = .coast ∧ t.grind.precharge = some false) ∧
      (s.grind.after = .faultStart → t.grind.st = .fault ∧ t.grind.cause = 1) ∧
      (s.grind.after = .faultLost → t.grind.st = .fault ∧ t.grind.cause = 2) ∧
      (s.grind.after = .jam → (if s.grind.unjamEn = true ∧ s.permit 3 = true ∧ s.effLevel = 0 then t.grind.st = .unjam ∧ t.grind.precharge = some true
        else t.grind.st = .fault ∧ t.grind.cause = 3)))) ∧
  (∀ s : State, s.grind.st = .fault → s.grind.precharge = none → completes .grindStandstill s (fun t => t.grind.still = true ∧ t.grind.stops = [] ∧
    t.grind.st = (if s.grind.clearDue = true then .stopped else .fault)))

/-- O46. Reads and writes of the two-wire port, its sleep and the attention write. Awake and with GUARD running: a read
returns the status word, its CRC and then 0xFF; a heartbeat with a right CRC makes the heartbeat OK where TWP_HB_EN is
set, and one that follows by 1 keeps it so; STOP sets the stop latch and stops a guard that grants permits with cause
16; RELEASE with healthy ESTOP clears the latch; a write of fewer than three bytes is not acknowledged. A lost
heartbeat is not OK; SDA is released, the port sleeps and wakes; an acknowledged attention write sends its causes and
clears them (only cause 2, which the flush of its own record may raise, can pend after it), a failed one waits for a retry, which can begin after it, and after eight retries the series is given up.
[R329, R418, R419, R420, R421, R423, R424, R425, R426, R427, R428, R430] -/
def Obligations.TwoWirePortAnswers : Prop :=
  (∀ (s : State) (n : Nat) (h : Bool), s.guardUp = true → s.twp.asleep = false → completesAs (.statusRead n h) s { s with
    twp.acked := false, twp.out := (List.range n).map (fun k => s.twpStream.getD k 0xFF), twp.sdaLow := h && !(s.twpStream.getD n 0xFF).getLsbD 7 }) ∧
  (∀ (s : State) (n : Byte), s.guardUp = true → s.twp.asleep = false →
    (s.twp.hbOk = true → n = s.twp.counter + 1 → completesAs (.heartbeat n (crc8 [s.twpAddr + s.twpAddr, 0x5A, n]) 0) s { s with
      twp.counter := n, twp.acked := true, twp.out := [], twp.sdaLow := false }) ∧
    (s.twp.hbOk = false → s.pb 0x4000 = true → completesAs (.heartbeat n (crc8 [s.twpAddr + s.twpAddr, 0x5A, n]) 0) s { s with
      twp.counter := n, twp.hbOk := true, twp.acked := true, twp.out := [], twp.sdaLow := false }) ∧
    completes (.stop n (crc8 [s.twpAddr + s.twpAddr, 0xE5, n]) 0) s (fun t => t.grd.stopLatch = true ∧ t.twp.acked = true ∧
      (s.grd.st.grants = true → t.grd.st = .safeStop ∧ t.grd.cause = 16 ∧ t.grd.permits = 0) ∧
      (s.grd.st.grants = false → t.grd.st = s.grd.st ∧ t.grd.cause = 16)) ∧
    (s.estopOk = true → s.grd.stopLatch = true →
      completesAs (.release 0x3C (crc8 [s.twpAddr + s.twpAddr, 0xC3, 0x3C]) 0) s { s with
        grd.stopLatch := false, twp.acked := true, twp.out := [], twp.sdaLow := false })) ∧
  (∀ (s : State) (l : List Byte), s.guardUp = true → s.twp.asleep = false → l.length < 3 →
    completesAs (.unacceptedWrite l) s { s with twp.acked := false, twp.out := [], twp.sdaLow := false }) ∧
  (∀ s : State, s.guardUp = true → s.twp.hbOk = true → completesAs .twpHbLost s { s with twp.hbOk := false }) ∧
  (∀ s : State, s.twp.sdaLow = true → completesAs .sdaRelease s { s with twp.sdaLow := false }) ∧
  (∀ s : State, s.guardUp = true → s.glb.sleep = true → s.twp.asleep = false → s.twp.attPend = 0 →
    completesAs .twpSleep s { s with twp.asleep := true, twp.waking := false }) ∧
  (∀ s : State, s.twp.asleep = true → s.twp.waking = true → completesAs .portWake s { s with twp.asleep := false, twp.waking := false }) ∧
  (∀ s : State, s.attDue = true →
    completes (.attentionWrite .acked) s (fun t => (t.twp.attPend = 0 ∨ t.twp.attPend = 4 ∧ (s.pv 0x4005).getLsbD 2 = true) ∧ t.twp.attTries = 0 ∧ t.twp.asleep = false ∧
      t.twp.sent = (0xA0#8 + s.twp.attPend.zeroExtend 8) :: s.twp.sent) ∧
    (s.twp.attTries < 8 →
      completesAs (.attentionWrite .noAck) s { s with twp.asleep := false, twp.waking := false, twp.attTries := s.twp.attTries + 1, twp.attWait := true } ∧
      completesAs (.attentionWrite .lostArb) s { s with twp.asleep := false, twp.waking := false, twp.attTries := s.twp.attTries + 1, twp.attWait := true } ∧
      completesAs .attBusTimeout s { s with twp.asleep := false, twp.waking := false, twp.attTries := s.twp.attTries + 1, twp.attWait := true }) ∧
    (8 ≤ s.twp.attTries → completes .attBusTimeout s (fun t => t.twp.attTries = 0 ∧ t.twp.attWait = false ∧
      ((s.pv 0x4005).getLsbD 2 = false → t.twp.attPend = 0)))) ∧
  (∀ s : State, s.twp.attWait = true → completesAs .attRetry s { s with twp.attWait := false })

/-- O47. The TAP and the debug port: instructions, lock, challenge, halts and accesses. Each instruction
comes into force; EXTEST and CLAMP drive the lands from the boundary register and HIGHZ floats them with RESET_N low alone, the bypass
register selected by CLAMP, HIGHZ, and EXTEST with RESET_N high; JT_TRST leaves IDCODE in force and the port locked. A challenge is answered with 16 bytes and stays open; a
right token unlocks its scope, a wrong one is counted and refuses challenges until that ends; a relock locks. With
scope bit 1 a halt of a core stops a guard that grants permits with cause 18, the core is halted at standstill or in
TRIP, and runs again at a resume; with scope bit 0 a read of a register or of BAR2 answers its value; a locked port
answers nothing. [R483, R484, R485, R486, R487, R490] -/
def Obligations.DebugPortActs : Prop :=
  (∀ (s : State) (l : List Bool), completesAs .bypass s { s with dbg.ir := 0 } ∧
    completesAs .idcode s { s with resp := .sc 0x14860AAB, dbg.ir := 1 } ∧
    completes (.samplePreload l) s (fun t => t.dbg.ir = 2 ∧ t.dbg.preload = l ∧ t.dbg.sampled.length = l.length ∧ ({ t.rest with dbg := {}, free := 0 } : State) = { s.rest with dbg := {}, free := 0 }) ∧
    completesAs .jtTrst s { s with dbg.ir := 1, dbg.nonce := none, dbg.unlocked := false, dbg.scope := 0 } ∧
    completesAs .dbgRelock s { s with dbg.unlocked := false, dbg.scope := 0 } ∧
    (s.dbg.refusing = true → completesAs .dbgRefuseEnd s { s with dbg.refusing := false })) ∧
  (∀ s : State, completesAs .extest s { s with dbg.ir := 3 } ∧ completesAs .clamp s { s with dbg.ir := 4 } ∧ completesAs .highz s { s with dbg.ir := 5 }) ∧
  (∀ s t : State,
    (exec .extest s = .next t → s.land.resetN = true → t.tapDrives = false ∧ t.tapFloats = false ∧ t.tapBypass = true) ∧
    (exec .extest s = .next t → s.land.resetN = false → t.tapDrives = true ∧ t.tapBypass = false ∧ t.landFault = none) ∧
    (exec .clamp s = .next t → t.tapBypass = true ∧ t.tapFloats = false ∧ (t.tapDrives = true ↔ s.land.resetN = false)) ∧
    (exec .highz s = .next t → t.tapBypass = true ∧ t.tapDrives = false ∧ (t.tapFloats = true ↔ s.land.resetN = false))) ∧
  (∀ s : State, s.dbgUp = true →
    (s.dbg.refusing = false → completes .dbgChallenge s (fun t => t.dbg.nonce = some t.dbg.answer ∧ t.dbg.answer.length = 16 ∧
      t.dbg.unlocked = s.dbg.unlocked)) ∧
    (∀ (c : Byte) (k : List Byte), s.tokenOk c k = true → completes (.dbgToken c k) s (fun t => t.dbg.unlocked = true ∧
      t.dbg.scope = c.extractLsb' 0 2 ∧ t.dbg.nonce = none ∧ t.dbg.fails = s.dbg.fails)) ∧
    (∀ (c : Byte) (k : List Byte), s.tokenOk c k = false → completes (.dbgToken c k) s (fun t => t.dbg.fails = satInc s.dbg.fails ∧
      t.dbg.refusing = true ∧ t.dbg.nonce = none ∧ t.dbg.unlocked = s.dbg.unlocked))) ∧
  (∀ (s : State) (i : FwIsland), s.mayWrite = true → s.haltedIsl (fwNum i) = false →
    (s.activating i = false → completes (.dbgHalt i) s (fun t => t.dbg.haltReq = setB s.dbg.haltReq (fwIdx i) true ∧ t.islShown (fwNum i) = 4 ∧
      (s.grd.st.grants = true → t.grd.st = .safeStop ∧ t.grd.cause = 18))) ∧
    (s.activating i = true → completesAs (.dbgHalt i) s { s with dbg.haltWait := setB s.dbg.haltWait (fwIdx i) true })) ∧
  (∀ (s : State) (i : FwIsland), s.dbg.haltReq.getLsbD (fwIdx i) = true →
    ((∀ a < 5, (s.axis a).stands = true) ∧ s.grind.still = true) ∨ s.grd.st = .trip →
    completes (.dbgCoreHalted i) s (fun t => t.dbg.haltReq = setB s.dbg.haltReq (fwIdx i) false ∧ t.dbg.halted = setB s.dbg.halted (fwIdx i) true ∧
      t.log.nonce = none ∧ t.dbg.nonce = none)) ∧
  (∀ (s : State) (i : FwIsland), s.mayWrite = true → s.dbg.halted.getLsbD (fwIdx i) = true → s.calm →
    completes (.dbgResume i) s (fun t => t.dbg.halted = setB s.dbg.halted (fwIdx i) false)) ∧
  (∀ (s : State) (off : Nat), s.calm → s.mayRead = true →
    completes (.dbgAccess (.readBar0 off false)) s (fun t => t.resp = .sc ((tapIr 6 { s with resp := .none }).pairRead off) ∧ t.dbg.ir = 6 ∧ t.host.run = s.host.run) ∧
    completes (.dbgAccess (.readBar2 off)) s (fun t => t.resp = .sc ((tapIr 6 { s with resp := .none }).bar2Read off))) ∧
  (∀ (s : State) (a : DbgAccess), s.calm → s.dbg.unlocked = false → completes (.dbgAccess a) s (fun t => t.resp = .none ∧ t.prm = s.prm ∧ t.glb = { s.glb with faultN := t.glb.faultN }))

/-- O48. The recorder's timers and a clear's end, staging and activation events. A flush of one staged record that goes to
a ROLL slot writes it there and leaves nothing staged; a token refill adds one token up to the burst; an expired nonce
is gone; the end of a clear leaves no clear and no marker and completes the LOG_CLEAR that waits. A staging command
without LAST ends OK with its units written, one with LAST marks the slot verified exactly where its image passes
every check. At its safe point an activation restarts its island; success, the other slot still verified, makes it active and runs it, a
fallback and a timeout change no slot choice; each ends the activation. [R443, R448, R458, R472, R473, R476, R477,
R478, R489] -/
def Obligations.RecorderAndFirmwareEvents : Prop :=
  (∀ (s : State) (r : Rec) (i : Nat), s.logUp = true → s.log.staged = [r] → r.sev < 7 → s.log.overflow = 0 → s.log.clear = none →
    s.slotFor r = some i → 1024 ≤ i →
    completes (.flushTimer []) s (fun t => t.log.staged = [] ∧ t.log.roll = putSlot s.log.roll i r ∧ t.log.keep = s.log.keep ∧ t.log.head = s.log.head) ∧
    (s.barUp = true → completes .logFlush s (fun t => t.log.staged = [] ∧ t.log.roll = putSlot s.log.roll i r ∧ t.log.keep = s.log.keep))) ∧
  (∀ (s : State) (c : Fin 16), s.logUp = true →
    completes (.tokenRefill c) s (fun t => t.log.tokens = vmap s.log.tokens c.val 0 (fun n => min (s.burst c.val) (n + 1)) ∧ t.log.staged = s.log.staged)) ∧
  (∀ s : State, s.log.nonce ≠ none → completesAs .nonceExpiry s { s with log.nonce := none }) ∧
  (∀ (s : State) (c : ClearRun) (d : Desc) (q : Nat), s.logUp = true → s.sup.level.val < 3 → s.log.clear = some c → s.ring.block = some (.logClear d q) →
    s.calm → s.host.running = true → s.dmaOpen = true →
    completes .logCleared s (fun t => t.log.clear = none ∧ t.log.marker = none ∧ t.ring.block = none ∧ Completed 0x5A d .ok q 0 0 s t)) ∧
  (∀ (s : State) (j : StageJob), s.fw.stage = some j → s.fw.stageNext = none → j.last = false →
    completes .unitWritten s (fun t => t.fw.stage = none ∧ t.fw.slots = (writeUnits j s).fw.slots)) ∧
  (∀ (s : State) (j : StageJob), s.fw.stage = some j → s.fw.stageNext = none → j.last = true →
    completes .fwStaged s (fun t => t.fw.stage = none ∧ ((t.slots (fwIdx j.isl)).spare.verified = true ↔
      (writeUnits j s).imageFail j.isl ((writeUnits j s).slots (fwIdx j.isl)).spare = none))) ∧
  (∀ (s : State) (a : Activation), s.fw.act = some a → a.phase = .waiting → s.actSafe a.isl = true →
    completes .activationSafePoint s (fun t => t.isl (fwNum a.isl) = .restarting ∧ t.fw.act = some { a with phase := .restarting, safeAt := s.now } ∧
      t.fw.slots = s.fw.slots)) ∧
  (∀ (s : State) (a : Activation), s.fw.act = some a → a.phase = .restarting →
    (s.calm → (s.slots (fwIdx a.isl)).spare.verified = true → completes .fwActivated s (fun t => t.fw.act = none ∧ (t.slots (fwIdx a.isl)).activeB = (s.slots (fwIdx a.isl)).spareB ∧
      (t.slots (fwIdx a.isl)).running.val = bit (s.slots (fwIdx a.isl)).spareB ∧ t.isl (fwNum a.isl) ≠ .restarting)) ∧
    (∀ c, s.calm → completes (.fwFallback c) s (fun t => t.fw.act = none ∧ t.fw.slots = s.fw.slots ∧ t.isl (fwNum a.isl) ≠ .restarting)) ∧
    (s.globalDue (fwNum a.isl) = false → completes .activationTimeout s (fun t => t.fw.act = none ∧ t.fw.slots = s.fw.slots ∧
      t.isl (fwNum a.isl) = .restarting ∧ t.glb.wdtCount = satInc s.glb.wdtCount)))

/-- O49. A step runs the command at the front of the queue; with none waiting a microsecond passes. Where the command c stands
at the front of the queue, step answers what exec of c answers on the state with the queue's rest. On an empty queue
step answers a next state one microsecond later, and (the model's choice, log 40) apart from reports nothing else has changed but at a
full millisecond, in step 5 and where ASPM may put the link in L1; at a full millisecond KEEP measures VBUS, SUP_VBUS_MIN keeps the
lowest, and an overload episode of an auxiliary output that is on ends where it no longer limits. [R55, R75, R134, R165] -/
def Obligations.StepRunsTheFront : Prop :=
  (∀ (c : Instr) (rest : List Instr) (s : State), s.pending = c :: rest → step s = exec c { s with pending := rest }) ∧
  (∀ s : State, s.pending = [] → ∃ t, step s = .next t ∧ t.now = s.now + 1 ∧ t.pending = [] ∧ t.jrn = s.jrn ∧
    ((s.now + 1) % 1000 ≠ 0 → s.glb.step ≠ 5 → s.host.cfg.aspmL1 = false → t.quiet = ({ s with now := s.now + 1 } : State).quiet) ∧
    ((s.now + 1) % 1000 = 0 → s.glb.step ≠ 5 → s.isl 7 = .run →
      t.sup.vbusMin = (if t.sup.vbus < s.sup.vbusMin then t.sup.vbus else s.sup.vbusMin) ∧
      (s.sup.aux5On = true → t.sup.aux5Logged = (s.sup.aux5Logged && t.sup.aux5Bad)) ∧
      (s.sup.aux5On = false → t.sup.aux5Bad = s.sup.aux5Bad ∧ t.sup.aux5Logged = s.sup.aux5Logged) ∧
      (s.sup.aux3On = true → t.sup.aux3Logged = (s.sup.aux3Logged && t.sup.aux3Bad)) ∧
      (s.sup.aux3On = false → t.sup.aux3Bad = s.sup.aux3Bad ∧ t.sup.aux3Logged = s.sup.aux3Logged)))

/-- O50. The values that the power-on reset leaves. After the power-on reset every island is OFF, the start has reached no
step, GLB_CAUSE names the power-on, FAULT_N is driven low, HST_WAKE_EN is 0x3F, SUP_VBUS_MIN and the four temperatures
read as the tables of file 03 say, the polling registers and HST_VEC_MAP have the values of Table 5-12, TXN_FAIL is
0x0F, no permit is granted, no stage-enable line is active, no axis, output or brake is on, and the silence timer is
not armed. [R53, R75, R98, R102, R110, R137, R149, R150, R221] -/
def Obligations.ResetLeaves : Prop :=
  (∀ i < 8, State.reset.isl i = .off) ∧ State.reset.glb.step = 0 ∧ State.reset.glb.cause = 1 ∧ State.reset.glb.faultN = true ∧
  State.reset.regRead 0x464 = 0x3F ∧ State.reset.sup.vbusMin = 0xFFFFFF ∧ (∀ k : Fin 3, State.reset.sup.temp[k] = 0x800000) ∧
  State.reset.sup.tempNtc = 0x800000 ∧ State.reset.regRead 0x448 = 0x32 ∧ State.reset.regRead 0x44C = 0xA00 ∧
  State.reset.regRead 0x450 = 0x1388 ∧ State.reset.regRead 0x45C = 0xFAC688 ∧ State.reset.regRead 0x460 = 0 ∧
  State.reset.txn.failIsl = 15 ∧ State.reset.txn.failCause = 0 ∧ State.reset.grd.permits = 0 ∧ State.reset.mot.lines = false ∧
  (∀ a < 5, (State.reset.axis a).stage = false ∧ (State.reset.axis a).st = .off) ∧ State.reset.husk.out = 0 ∧
  State.reset.lift.brake = false ∧ State.reset.sil.armed = false ∧ State.reset.pending = []

/-- O51. FAULT_N and PE_WAKE_N stand as the spec says after reset. The invariant of the two status lands holds in the
state after the power-on reset. [R102, R148] -/
def Obligations.ResetLandsStand : Prop := State.reset.landsOk

/-- O52. Every step keeps FAULT_N and PE_WAKE_N as the spec says. From every state in which FAULT_N is driven low exactly
where R102 says so, and PE_WAKE_N is low while a latched enabled cause calls for it with the link neither in L0 nor in
L1, every step to a next state leaves a state in which both still hold. [R102, R148] -/
def Obligations.StepKeepsLands : Prop := ∀ s t : State, s.landsOk → step s = .next t → t.landsOk

/-- O53. Every command answers a next state from every state. No command of this block ends in a fault or a refusal of the
model: exec of any command on any state answers a next state (a refused descriptor completes with its status code, and
an event that cannot occur changes nothing). [R165, R166, R168] -/
def Obligations.EveryCommandCompletes : Prop := ∀ (c : Instr) (s : State), ∃ t, exec c s = .next t

/-- O54. What a receiver reads from a frame is what the sender put into it, field for field. For every G-frame and every
H-frame of a known type, with every value in every field, the receiver reads from the fifteen words that the sender
sends exactly the frame sent. [R247, R248, R249, Table 8-5, Table 8-6] -/
def Obligations.FramesRoundTrip : Prop :=
  (∀ g : GFrame, knownKind g.kind = true → decodeG (encodeG g) = some g) ∧
  (∀ h : HFrame, knownKind h.kind = true → decodeH (encodeH h) = some h)

/-- O55. A frame in which one word is corrupted is bad. Whichever one of the fifteen words of a G-frame or an H-frame
arrives changed, and however its bits are changed, the receiver finds the frame bad. [R248, R249] -/
def Obligations.OneBadWordIsSeen : Prop :=
  (∀ (g : GFrame) (i : Nat) (e : W24), i < 15 → e ≠ 0#24 → decodeG (noisy (encodeG g) (List.replicate i 0#24 ++ [e])) = none) ∧
  (∀ (h : HFrame) (i : Nat) (e : W24), i < 15 → e ≠ 0#24 → decodeH (noisy (encodeH h) (List.replicate i 0#24 ++ [e])) = none)

/-- O56. The frame's CRC-24 is that of its words taken as bytes, most significant first. Word 14 of a frame is the CRC-24
of RFC 4880 (polynomial 0x864CFB, initial value 0xB704CE, most significant bit first, no final XOR) over words 0 to 13
taken as bytes, the most significant byte of each word first; the check value over the ASCII digits 1 to 9 is
0x21CF02. [R245, R248] -/
def Obligations.FrameCrcIsOverItsBytes : Prop :=
  (∀ g : GFrame, (encodeG g)[14]? = some (crc24Bytes (g.body.flatMap (fun w => [w.extractLsb' 16 8, w.extractLsb' 8 8, w.extractLsb' 0 8])))) ∧
  (∀ h : HFrame, (encodeH h)[14]? = some (crc24Bytes (h.body.flatMap (fun w => [w.extractLsb' 16 8, w.extractLsb' 8 8, w.extractLsb' 0 8])))) ∧
  crc24Bytes [] = 0xB704CE#24 ∧
  (∀ (l : List Byte) (b : Byte), crc24Bytes (l ++ [b]) =
    Nat.repeat (fun c : W24 => if c.msb = true then (c <<< 1) ^^^ 0x864CFB#24 else c <<< 1) 8 (crc24Bytes l ^^^ (b ++ 0#16))) ∧
  crc24Bytes [0x31, 0x32, 0x33, 0x34, 0x35, 0x36, 0x37, 0x38, 0x39] = 0x21CF02#24

/-- O57. The CRC-8 of the two-wire port. The CRC-8 starts at 0x00, takes each byte by an XOR and eight steps of the
polynomial 0x07 with the most significant bit first, has no final XOR, and gives 0xF4 over the ASCII digits 1 to 9.
[R422] -/
def Obligations.Crc8IsAsStated : Prop :=
  crc8 [] = 0x00#8 ∧
  (∀ (l : List Byte) (b : Byte), crc8 (l ++ [b]) =
    Nat.repeat (fun c : Byte => if c.msb = true then (c <<< 1) ^^^ 0x07#8 else c <<< 1) 8 (crc8 l ^^^ b)) ∧
  crc8 [0x31, 0x32, 0x33, 0x34, 0x35, 0x36, 0x37, 0x38, 0x39] = 0xF4#8

/-- O58. The CRC-32C of records and journal entries. The CRC-32C starts at 0xFFFFFFFF, takes each byte by an XOR and eight
steps of the reflected polynomial 0x82F63B78 with the least significant bit first, ends with a final XOR of
0xFFFFFFFF, gives 0xE3069283 over the ASCII digits 1 to 9, and a slot of 32 zero bytes does not pass it. [R435] -/
def Obligations.Crc32IsAsStated : Prop :=
  crc32c [] ^^^ 0xFFFFFFFF#32 = 0xFFFFFFFF#32 ∧
  (∀ (l : List Byte) (b : Byte), crc32c (l ++ [b]) ^^^ 0xFFFFFFFF#32 =
    Nat.repeat (fun c : W32 => if c.getLsbD 0 = true then (c >>> 1) ^^^ 0x82F63B78#32 else c >>> 1) 8
      ((crc32c l ^^^ 0xFFFFFFFF#32) ^^^ b.zeroExtend 32)) ∧
  crc32c [0x31, 0x32, 0x33, 0x34, 0x35, 0x36, 0x37, 0x38, 0x39] = 0xE3069283#32 ∧
  slotBytes none = List.replicate 32 0#8 ∧
  crc32c ((slotBytes none).take 28) ≠ BitVec.ofNat 32 (leNat ((slotBytes none).drop 28))

/-- O59. In index mode slot k of the event-log window shows the stored record at LOG_CURSOR + k. With LOG_WIN_CTL bit 0
clear, the eight dwords of slot k of the event-log window are those of the record stored at index (LOG_CURSOR bits
12:0 + k) mod 8,192, KEEP slots below 1,024 and ROLL slots above, or zeros where that slot is empty, whatever is
staged. [R452] -/
def Obligations.IndexWindowShowsStoredRecords : Prop :=
  ∀ (s : State) (k : Nat), s.log.seqMode = false → k < 8 →
    (∀ r, (if (s.log.cursor.toNat % 8192 + k) % 8192 < 1024 then s.log.keep else s.log.roll).lookup ((s.log.cursor.toNat % 8192 + k) % 8192) = some r →
      (List.range 8).map (fun j => s.bar2Read (32 * k + 4 * j)) = dwordsOf (r.bytes false)) ∧
    ((if (s.log.cursor.toNat % 8192 + k) % 8192 < 1024 then s.log.keep else s.log.roll).lookup ((s.log.cursor.toNat % 8192 + k) % 8192) = none →
      (List.range 8).map (fun j => s.bar2Read (32 * k + 4 * j)) = List.replicate 8 0#32)

/-- O60. A refused descriptor completes with its status and journal sequence 0, and has no other effect. When the decoder
takes a descriptor with a nonzero reserved bit or unused argument it completes with BAD_ARG; in RECOVERY or HELD, HOST
completes a command outside the restricted set with ISLAND_HELD; a command of an island that is not in RUN completes
with ISLAND_HELD, of a halted or halting core with DEBUG_LOCKED; from L1 on GRIND_RUN completes with SHED. In each
case the completion carries journal sequence 0, the journal and the commands without a final outcome are unchanged,
and apart from reports only the rings differ. [R62, R161, R166, R170, R471, R481, R482, R487] -/
def Obligations.RefusalsComplete : Prop :=
  (∀ (s : State) (d : Desc), s.takes d → formOk d false false m0 m0 m0 m0 m0 = false →
    refusedAs (.nop d) 0x01 d .badArg s ∧ refusedAs (.liftRelease d) 0x24 d .badArg s ∧ refusedAs (.guardAck d) 0x50 d .badArg s) ∧
  (∀ (s : State) (d : Desc), s.takes d → formOk d false false m0 m0 m0 m0 m0 = true → s.isl 0 = .recovery ∨ s.isl 0 = .held →
    refusedAs (.liftRelease d) 0x24 d .islandHeld s ∧ refusedAs (.grindStop d) 0x41 d .islandHeld s ∧ refusedAs (.axisStop d) 0x33 d .islandHeld s ∧
    refusedAs (.fieldRead d) 0x4A d .islandHeld s ∧ refusedAs (.guardAck d) 0x50 d .islandHeld s ∧ refusedAs (.logMark d) 0x58 d .islandHeld s) ∧
  (∀ (s : State) (d : Desc), s.takes d → formOk d false false m0 m0 m0 m0 m0 = true → s.isl 0 = .run →
    (s.isl 1 ≠ .run → refusedAs (.axisStop d) 0x33 d .islandHeld s) ∧
    (s.haltedIsl 2 = false → s.isl 2 ≠ .run → refusedAs (.liftRelease d) 0x24 d .islandHeld s) ∧
    (s.haltedIsl 3 = false → s.isl 3 ≠ .run → refusedAs (.grindStop d) 0x41 d .islandHeld s) ∧
    (s.haltedIsl 2 = true → refusedAs (.liftRelease d) 0x24 d .debugLocked s) ∧
    (s.haltedIsl 3 = true → refusedAs (.grindStop d) 0x41 d .debugLocked s)) ∧
  (∀ (s : State) (d : Desc), s.takes d → s.islandBars 0x40 = none → formOk d false false mA mA 1 m0 m0 = true → (arg24 d.d4).toNat ≠ 0 →
    (arg24 d.d3).toNat = 0 ∨ (s.pn 0x2814 ≤ (arg24 d.d3).toNat ∧ (arg24 d.d3).toNat ≤ s.pn 0x2818) → 1 ≤ s.sup.level.val ∨ s.sup.overV = true →
    refusedAs (.grindRun d) 0x40 d .shed s)
end

