-- ==== Sys2Proof/Laws/Bytes.lean ====
section
/-! SUPPORT. Dwords and bytes (R7): a whole number of dwords read back as the bytes they were made of. -/

namespace Sys2Proof.Machine

theorem leBytes_dword (a b c d : Byte) : leBytes 4 (d ++ c ++ b ++ a : W32).toNat = [a, b, c, d] := by
  have h (k : Nat) (x : Byte) (hx : (d ++ c ++ b ++ a : W32).extractLsb' (8 * k) 8 = x) :
      BitVec.ofNat 8 ((d ++ c ++ b ++ a : W32).toNat / 256 ^ k) = x := by
    rw [← hx]; apply BitVec.eq_of_toNat_eq
    rw [BitVec.extractLsb'_toNat, BitVec.toNat_ofNat, Nat.shiftRight_eq_div_pow, Nat.pow_mul]
  have h0 := h 0 a (by
    apply BitVec.eq_of_getLsbD_eq; intro i hi
    rw [BitVec.getLsbD_extractLsb']
    simp only [BitVec.getLsbD_append, hi, decide_true, Bool.true_and]
    have e0 : 8 * 0 + i < 8 := by omega
    simp only [e0, if_true]
    congr 1; omega)
  have h1 := h 1 b (by
    apply BitVec.eq_of_getLsbD_eq; intro i hi
    rw [BitVec.getLsbD_extractLsb']
    simp only [BitVec.getLsbD_append, hi, decide_true, Bool.true_and]
    have e0 : ¬ (8 * 1 + i < 8) := by omega
    have e1 : 8 * 1 + i - 8 < 8 := by omega
    simp only [e0, e1, if_true, if_false]
    congr 1; omega)
  have h2 := h 2 c (by
    apply BitVec.eq_of_getLsbD_eq; intro i hi
    rw [BitVec.getLsbD_extractLsb']
    simp only [BitVec.getLsbD_append, hi, decide_true, Bool.true_and]
    have e0 : ¬ (8 * 2 + i < 8) := by omega
    have e1 : ¬ (8 * 2 + i - 8 < 8) := by omega
    have e2 : 8 * 2 + i - 8 - 8 < 8 := by omega
    simp only [e0, e1, e2, if_true, if_false]
    congr 1; omega)
  have h3 := h 3 d (by
    apply BitVec.eq_of_getLsbD_eq; intro i hi
    rw [BitVec.getLsbD_extractLsb']
    simp only [BitVec.getLsbD_append, hi, decide_true, Bool.true_and]
    have e0 : ¬ (8 * 3 + i < 8) := by omega
    have e1 : ¬ (8 * 3 + i - 8 < 8) := by omega
    have e2 : ¬ (8 * 3 + i - 8 - 8 < 8) := by omega
    simp only [e0, e1, e2, if_false]
    congr 1; omega)
  simp only [leBytes, Nat.div_div_eq_div_mul]
  simp only [Nat.reducePow, Nat.div_one] at h0 h1 h2 h3
  rw [h0, h1, h2, h3]

theorem bytesOf_dwordsOf : ∀ l : List Byte, l.length % 4 = 0 → bytesOf (dwordsOf l) = l
  | [], _ => rfl
  | a :: b :: c :: d :: t, h => by
    have ih := bytesOf_dwordsOf t (by simp at h; omega)
    simp only [dwordsOf, bytesOf, List.flatMap_cons, leBytes_dword] at ih ⊢
    rw [ih]; rfl
  | [_], h | [_, _], h | [_, _, _], h => by simp at h

theorem length_dwordsOf : ∀ l : List Byte, (dwordsOf l).length = l.length / 4
  | [] => rfl
  | a :: b :: c :: d :: t => by
    have ih := length_dwordsOf t
    simp only [dwordsOf, List.length_cons, ih]; omega
  | [_] | [_, _] | [_, _, _] => by simp [dwordsOf]

/-- A bulk buffer that holds the dwords of the bytes reads back as the bytes (R179). -/
theorem bulkBytes_of_buf (d : Desc) (l : List Byte) (hb : d.buf = dwordsOf l) (h4 : l.length % 4 = 0) (hn : bulkLen d = l.length) :
    bulkBytes d l.length = l := by
  have e : bulkWords d = dwordsOf l := by
    have hl := length_dwordsOf l
    simp only [bulkWords, hn, hb, hl, Nat.sub_self, List.replicate_zero, List.append_nil]
    exact List.take_of_length_le (by omega)
  simp only [bulkBytes, e, bytesOf_dwordsOf l h4, List.take_length]

theorem length_hmacSha256 (k m : List Byte) : (Config.hmacSha256 k m).length = 32 := by simp [Config.hmacSha256]

end Sys2Proof.Machine
end

