-- ==== Sys2Proof/Laws/State.lean ====
section
/-! SUPPORT. The small lemmas of the state's updates: one for each field that a named update leaves alone, all by rfl. -/

namespace Sys2Proof.Machine

@[simp] theorem State.tick_pending (s : State) : (s.tick).pending = s.pending := rfl
@[simp] theorem State.tick_now (s : State) : (s.tick).now = s.now := rfl
@[simp] theorem State.tick_resp (s : State) : (s.tick).resp = s.resp := rfl
@[simp] theorem State.tick_glb (s : State) : (s.tick).glb = s.glb := rfl
@[simp] theorem State.tick_clk (s : State) : (s.tick).clk = s.clk := rfl
@[simp] theorem State.tick_sup (s : State) : (s.tick).sup = s.sup := rfl
@[simp] theorem State.tick_keep (s : State) : (s.tick).keep = s.keep := rfl
@[simp] theorem State.tick_land (s : State) : (s.tick).land = s.land := rfl
@[simp] theorem State.tick_host (s : State) : (s.tick).host = s.host := rfl
@[simp] theorem State.tick_ring (s : State) : (s.tick).ring = s.ring := rfl
@[simp] theorem State.tick_sil (s : State) : (s.tick).sil = s.sil := rfl
@[simp] theorem State.tick_prm (s : State) : (s.tick).prm = s.prm := rfl
@[simp] theorem State.tick_txn (s : State) : (s.tick).txn = s.txn := rfl
@[simp] theorem State.tick_jrn (s : State) : (s.tick).jrn = s.jrn := rfl
@[simp] theorem State.tick_log (s : State) : (s.tick).log = s.log := rfl
@[simp] theorem State.tick_grd (s : State) : (s.tick).grd = s.grd := rfl
@[simp] theorem State.tick_twp (s : State) : (s.tick).twp = s.twp := rfl
@[simp] theorem State.tick_mot (s : State) : (s.tick).mot = s.mot := rfl
@[simp] theorem State.tick_lift (s : State) : (s.tick).lift = s.lift := rfl
@[simp] theorem State.tick_door (s : State) : (s.tick).door = s.door := rfl
@[simp] theorem State.tick_grind (s : State) : (s.tick).grind = s.grind := rfl
@[simp] theorem State.tick_awn (s : State) : (s.tick).awn = s.awn := rfl
@[simp] theorem State.tick_husk (s : State) : (s.tick).husk = s.husk := rfl
@[simp] theorem State.tick_fw (s : State) : (s.tick).fw = s.fw := rfl
@[simp] theorem State.tick_dbg (s : State) : (s.tick).dbg = s.dbg := rfl
@[simp] theorem State.tick_free (s : State) : s.tick.free = s.free + 1 := rfl
@[simp] theorem State.setIsl_pending (s : State) (i : Nat) (v : IslState) : (s.setIsl i v).pending = s.pending := rfl
@[simp] theorem State.setIsl_now (s : State) (i : Nat) (v : IslState) : (s.setIsl i v).now = s.now := rfl
@[simp] theorem State.setIsl_free (s : State) (i : Nat) (v : IslState) : (s.setIsl i v).free = s.free := rfl
@[simp] theorem State.setIsl_resp (s : State) (i : Nat) (v : IslState) : (s.setIsl i v).resp = s.resp := rfl
@[simp] theorem State.setIsl_clk (s : State) (i : Nat) (v : IslState) : (s.setIsl i v).clk = s.clk := rfl
@[simp] theorem State.setIsl_sup (s : State) (i : Nat) (v : IslState) : (s.setIsl i v).sup = s.sup := rfl
@[simp] theorem State.setIsl_keep (s : State) (i : Nat) (v : IslState) : (s.setIsl i v).keep = s.keep := rfl
@[simp] theorem State.setIsl_land (s : State) (i : Nat) (v : IslState) : (s.setIsl i v).land = s.land := rfl
@[simp] theorem State.setIsl_host (s : State) (i : Nat) (v : IslState) : (s.setIsl i v).host = s.host := rfl
@[simp] theorem State.setIsl_ring (s : State) (i : Nat) (v : IslState) : (s.setIsl i v).ring = s.ring := rfl
@[simp] theorem State.setIsl_sil (s : State) (i : Nat) (v : IslState) : (s.setIsl i v).sil = s.sil := rfl
@[simp] theorem State.setIsl_prm (s : State) (i : Nat) (v : IslState) : (s.setIsl i v).prm = s.prm := rfl
@[simp] theorem State.setIsl_txn (s : State) (i : Nat) (v : IslState) : (s.setIsl i v).txn = s.txn := rfl
@[simp] theorem State.setIsl_jrn (s : State) (i : Nat) (v : IslState) : (s.setIsl i v).jrn = s.jrn := rfl
@[simp] theorem State.setIsl_log (s : State) (i : Nat) (v : IslState) : (s.setIsl i v).log = s.log := rfl
@[simp] theorem State.setIsl_grd (s : State) (i : Nat) (v : IslState) : (s.setIsl i v).grd = s.grd := rfl
@[simp] theorem State.setIsl_twp (s : State) (i : Nat) (v : IslState) : (s.setIsl i v).twp = s.twp := rfl
@[simp] theorem State.setIsl_mot (s : State) (i : Nat) (v : IslState) : (s.setIsl i v).mot = s.mot := rfl
@[simp] theorem State.setIsl_lift (s : State) (i : Nat) (v : IslState) : (s.setIsl i v).lift = s.lift := rfl
@[simp] theorem State.setIsl_door (s : State) (i : Nat) (v : IslState) : (s.setIsl i v).door = s.door := rfl
@[simp] theorem State.setIsl_grind (s : State) (i : Nat) (v : IslState) : (s.setIsl i v).grind = s.grind := rfl
@[simp] theorem State.setIsl_awn (s : State) (i : Nat) (v : IslState) : (s.setIsl i v).awn = s.awn := rfl
@[simp] theorem State.setIsl_husk (s : State) (i : Nat) (v : IslState) : (s.setIsl i v).husk = s.husk := rfl
@[simp] theorem State.setIsl_fw (s : State) (i : Nat) (v : IslState) : (s.setIsl i v).fw = s.fw := rfl
@[simp] theorem State.setIsl_dbg (s : State) (i : Nat) (v : IslState) : (s.setIsl i v).dbg = s.dbg := rfl
@[simp] theorem State.setIsl_isl (s : State) (i : Nat) (v : IslState) : (s.setIsl i v).glb.isl = s.glb.isl.setIfInBounds i v := rfl
@[simp] theorem writeMirror_pending (s : State) : (writeMirror s).pending = s.pending := rfl
@[simp] theorem writeMirror_now (s : State) : (writeMirror s).now = s.now := rfl
@[simp] theorem writeMirror_free (s : State) : (writeMirror s).free = s.free := rfl
@[simp] theorem writeMirror_resp (s : State) : (writeMirror s).resp = s.resp := rfl
@[simp] theorem writeMirror_glb (s : State) : (writeMirror s).glb = s.glb := rfl
@[simp] theorem writeMirror_clk (s : State) : (writeMirror s).clk = s.clk := rfl
@[simp] theorem writeMirror_sup (s : State) : (writeMirror s).sup = s.sup := rfl
@[simp] theorem writeMirror_keep (s : State) : (writeMirror s).keep = s.keep := rfl
@[simp] theorem writeMirror_land (s : State) : (writeMirror s).land = s.land := rfl
@[simp] theorem writeMirror_host (s : State) : (writeMirror s).host = s.host := rfl
@[simp] theorem writeMirror_sil (s : State) : (writeMirror s).sil = s.sil := rfl
@[simp] theorem writeMirror_prm (s : State) : (writeMirror s).prm = s.prm := rfl
@[simp] theorem writeMirror_txn (s : State) : (writeMirror s).txn = s.txn := rfl
@[simp] theorem writeMirror_jrn (s : State) : (writeMirror s).jrn = s.jrn := rfl
@[simp] theorem writeMirror_log (s : State) : (writeMirror s).log = s.log := rfl
@[simp] theorem writeMirror_grd (s : State) : (writeMirror s).grd = s.grd := rfl
@[simp] theorem writeMirror_twp (s : State) : (writeMirror s).twp = s.twp := rfl
@[simp] theorem writeMirror_mot (s : State) : (writeMirror s).mot = s.mot := rfl
@[simp] theorem writeMirror_lift (s : State) : (writeMirror s).lift = s.lift := rfl
@[simp] theorem writeMirror_door (s : State) : (writeMirror s).door = s.door := rfl
@[simp] theorem writeMirror_grind (s : State) : (writeMirror s).grind = s.grind := rfl
@[simp] theorem writeMirror_awn (s : State) : (writeMirror s).awn = s.awn := rfl
@[simp] theorem writeMirror_husk (s : State) : (writeMirror s).husk = s.husk := rfl
@[simp] theorem writeMirror_fw (s : State) : (writeMirror s).fw = s.fw := rfl
@[simp] theorem writeMirror_dbg (s : State) : (writeMirror s).dbg = s.dbg := rfl
@[simp] theorem journal_pending (op fl : Byte) (tag : W32) (txn : W16) (a : Bool) (st : Status) (b : JBody) (s : State) : (journal op fl tag txn a st b s).pending = s.pending := rfl
@[simp] theorem journal_now (op fl : Byte) (tag : W32) (txn : W16) (a : Bool) (st : Status) (b : JBody) (s : State) : (journal op fl tag txn a st b s).now = s.now := rfl
@[simp] theorem journal_free (op fl : Byte) (tag : W32) (txn : W16) (a : Bool) (st : Status) (b : JBody) (s : State) : (journal op fl tag txn a st b s).free = s.free := rfl
@[simp] theorem journal_resp (op fl : Byte) (tag : W32) (txn : W16) (a : Bool) (st : Status) (b : JBody) (s : State) : (journal op fl tag txn a st b s).resp = s.resp := rfl
@[simp] theorem journal_glb (op fl : Byte) (tag : W32) (txn : W16) (a : Bool) (st : Status) (b : JBody) (s : State) : (journal op fl tag txn a st b s).glb = s.glb := rfl
@[simp] theorem journal_clk (op fl : Byte) (tag : W32) (txn : W16) (a : Bool) (st : Status) (b : JBody) (s : State) : (journal op fl tag txn a st b s).clk = s.clk := rfl
@[simp] theorem journal_sup (op fl : Byte) (tag : W32) (txn : W16) (a : Bool) (st : Status) (b : JBody) (s : State) : (journal op fl tag txn a st b s).sup = s.sup := rfl
@[simp] theorem journal_keep (op fl : Byte) (tag : W32) (txn : W16) (a : Bool) (st : Status) (b : JBody) (s : State) : (journal op fl tag txn a st b s).keep = s.keep := rfl
@[simp] theorem journal_land (op fl : Byte) (tag : W32) (txn : W16) (a : Bool) (st : Status) (b : JBody) (s : State) : (journal op fl tag txn a st b s).land = s.land := rfl
@[simp] theorem journal_host (op fl : Byte) (tag : W32) (txn : W16) (a : Bool) (st : Status) (b : JBody) (s : State) : (journal op fl tag txn a st b s).host = s.host := rfl
@[simp] theorem journal_ring (op fl : Byte) (tag : W32) (txn : W16) (a : Bool) (st : Status) (b : JBody) (s : State) : (journal op fl tag txn a st b s).ring = s.ring := rfl
@[simp] theorem journal_sil (op fl : Byte) (tag : W32) (txn : W16) (a : Bool) (st : Status) (b : JBody) (s : State) : (journal op fl tag txn a st b s).sil = s.sil := rfl
@[simp] theorem journal_prm (op fl : Byte) (tag : W32) (txn : W16) (a : Bool) (st : Status) (b : JBody) (s : State) : (journal op fl tag txn a st b s).prm = s.prm := rfl
@[simp] theorem journal_txn (op fl : Byte) (tag : W32) (txn : W16) (a : Bool) (st : Status) (b : JBody) (s : State) : (journal op fl tag txn a st b s).txn = s.txn := rfl
@[simp] theorem journal_log (op fl : Byte) (tag : W32) (txn : W16) (a : Bool) (st : Status) (b : JBody) (s : State) : (journal op fl tag txn a st b s).log = s.log := rfl
@[simp] theorem journal_grd (op fl : Byte) (tag : W32) (txn : W16) (a : Bool) (st : Status) (b : JBody) (s : State) : (journal op fl tag txn a st b s).grd = s.grd := rfl
@[simp] theorem journal_twp (op fl : Byte) (tag : W32) (txn : W16) (a : Bool) (st : Status) (b : JBody) (s : State) : (journal op fl tag txn a st b s).twp = s.twp := rfl
@[simp] theorem journal_mot (op fl : Byte) (tag : W32) (txn : W16) (a : Bool) (st : Status) (b : JBody) (s : State) : (journal op fl tag txn a st b s).mot = s.mot := rfl
@[simp] theorem journal_lift (op fl : Byte) (tag : W32) (txn : W16) (a : Bool) (st : Status) (b : JBody) (s : State) : (journal op fl tag txn a st b s).lift = s.lift := rfl
@[simp] theorem journal_door (op fl : Byte) (tag : W32) (txn : W16) (a : Bool) (st : Status) (b : JBody) (s : State) : (journal op fl tag txn a st b s).door = s.door := rfl
@[simp] theorem journal_grind (op fl : Byte) (tag : W32) (txn : W16) (a : Bool) (st : Status) (b : JBody) (s : State) : (journal op fl tag txn a st b s).grind = s.grind := rfl
@[simp] theorem journal_awn (op fl : Byte) (tag : W32) (txn : W16) (a : Bool) (st : Status) (b : JBody) (s : State) : (journal op fl tag txn a st b s).awn = s.awn := rfl
@[simp] theorem journal_husk (op fl : Byte) (tag : W32) (txn : W16) (a : Bool) (st : Status) (b : JBody) (s : State) : (journal op fl tag txn a st b s).husk = s.husk := rfl
@[simp] theorem journal_fw (op fl : Byte) (tag : W32) (txn : W16) (a : Bool) (st : Status) (b : JBody) (s : State) : (journal op fl tag txn a st b s).fw = s.fw := rfl
@[simp] theorem journal_dbg (op fl : Byte) (tag : W32) (txn : W16) (a : Bool) (st : Status) (b : JBody) (s : State) : (journal op fl tag txn a st b s).dbg = s.dbg := rfl
@[simp] theorem journal_head (op fl : Byte) (tag : W32) (txn : W16) (a : Bool) (st : Status) (b : JBody) (s : State) :
    (journal op fl tag txn a st b s).jrn.head = s.jrn.head + 1 := rfl
@[simp] theorem dmaCount_pending (w : Bool) (s : State) : (dmaCount w s).pending = s.pending := by unfold dmaCount; split <;> rfl
@[simp] theorem dmaCount_now (w : Bool) (s : State) : (dmaCount w s).now = s.now := by unfold dmaCount; split <;> rfl
@[simp] theorem dmaCount_free (w : Bool) (s : State) : (dmaCount w s).free = s.free := by unfold dmaCount; split <;> rfl
@[simp] theorem dmaCount_resp (w : Bool) (s : State) : (dmaCount w s).resp = s.resp := by unfold dmaCount; split <;> rfl
@[simp] theorem dmaCount_glb (w : Bool) (s : State) : (dmaCount w s).glb = s.glb := by unfold dmaCount; split <;> rfl
@[simp] theorem dmaCount_clk (w : Bool) (s : State) : (dmaCount w s).clk = s.clk := by unfold dmaCount; split <;> rfl
@[simp] theorem dmaCount_sup (w : Bool) (s : State) : (dmaCount w s).sup = s.sup := by unfold dmaCount; split <;> rfl
@[simp] theorem dmaCount_keep (w : Bool) (s : State) : (dmaCount w s).keep = s.keep := by unfold dmaCount; split <;> rfl
@[simp] theorem dmaCount_land (w : Bool) (s : State) : (dmaCount w s).land = s.land := by unfold dmaCount; split <;> rfl
@[simp] theorem dmaCount_ring (w : Bool) (s : State) : (dmaCount w s).ring = s.ring := by unfold dmaCount; split <;> rfl
@[simp] theorem dmaCount_sil (w : Bool) (s : State) : (dmaCount w s).sil = s.sil := by unfold dmaCount; split <;> rfl
@[simp] theorem dmaCount_prm (w : Bool) (s : State) : (dmaCount w s).prm = s.prm := by unfold dmaCount; split <;> rfl
@[simp] theorem dmaCount_txn (w : Bool) (s : State) : (dmaCount w s).txn = s.txn := by unfold dmaCount; split <;> rfl
@[simp] theorem dmaCount_jrn (w : Bool) (s : State) : (dmaCount w s).jrn = s.jrn := by unfold dmaCount; split <;> rfl
@[simp] theorem dmaCount_log (w : Bool) (s : State) : (dmaCount w s).log = s.log := by unfold dmaCount; split <;> rfl
@[simp] theorem dmaCount_grd (w : Bool) (s : State) : (dmaCount w s).grd = s.grd := by unfold dmaCount; split <;> rfl
@[simp] theorem dmaCount_twp (w : Bool) (s : State) : (dmaCount w s).twp = s.twp := by unfold dmaCount; split <;> rfl
@[simp] theorem dmaCount_mot (w : Bool) (s : State) : (dmaCount w s).mot = s.mot := by unfold dmaCount; split <;> rfl
@[simp] theorem dmaCount_lift (w : Bool) (s : State) : (dmaCount w s).lift = s.lift := by unfold dmaCount; split <;> rfl
@[simp] theorem dmaCount_door (w : Bool) (s : State) : (dmaCount w s).door = s.door := by unfold dmaCount; split <;> rfl
@[simp] theorem dmaCount_grind (w : Bool) (s : State) : (dmaCount w s).grind = s.grind := by unfold dmaCount; split <;> rfl
@[simp] theorem dmaCount_awn (w : Bool) (s : State) : (dmaCount w s).awn = s.awn := by unfold dmaCount; split <;> rfl
@[simp] theorem dmaCount_husk (w : Bool) (s : State) : (dmaCount w s).husk = s.husk := by unfold dmaCount; split <;> rfl
@[simp] theorem dmaCount_fw (w : Bool) (s : State) : (dmaCount w s).fw = s.fw := by unfold dmaCount; split <;> rfl
@[simp] theorem dmaCount_dbg (w : Bool) (s : State) : (dmaCount w s).dbg = s.dbg := by unfold dmaCount; split <;> rfl

end Sys2Proof.Machine
end

