-- ==== Sys2Proof/Laws/Reports.lean ====
section
/-! SUPPORT. What the report of an event can change: nothing that `State.quiet` keeps. One lemma for each operation that the
report is made of, then for `raise`, `flush` and `sync`. -/

namespace Sys2Proof.Machine

@[simp] theorem quiet_quiet (s : State) : s.quiet.quiet = s.quiet := rfl

theorem quiet_ite (c : Prop) [Decidable c] (a b s : State) (ha : a.quiet = s.quiet) (hb : b.quiet = s.quiet) :
    (if c then a else b).quiet = s.quiet := by split <;> assumption

theorem quiet_sendIrq (k : Nat) (s : State) : (sendIrq k s).quiet = s.quiet := quiet_ite _ _ _ _ rfl rfl

theorem quiet_putIrq (k : Nat) (s : State) : (putIrq k s).quiet = s.quiet := by
  simp only [putIrq]
  exact quiet_ite _ _ _ _ (quiet_ite _ _ _ _ rfl rfl) (quiet_ite _ _ _ _ rfl rfl)

theorem quiet_irqMod (e u : Bool) (s : State) : (irqMod e u s).quiet = s.quiet := by
  simp only [irqMod]
  split
  · exact quiet_sendIrq _ _
  · split
    · split
      · rfl
      · exact quiet_sendIrq _ _
    · split
      · rfl
      · exact quiet_sendIrq _ _

theorem quiet_putEvt (c : W16) (v : Nat) (q a b : W32) (u : Bool) (s : State) : (putEvt c v q a b u s).quiet = s.quiet :=
  quiet_irqMod _ _ _

theorem quiet_placeEvt (c : W16) (v : Nat) (q a b : W32) (u : Bool) (s : State) : (placeEvt c v q a b u s).quiet = s.quiet :=
  quiet_ite _ _ _ _ (quiet_putEvt _ _ _ _ _ _ _) rfl

theorem quiet_postEvt (c : W16) (v : Nat) (q a b : W32) (u : Bool) (s : State) : (postEvt c v q a b u s).quiet = s.quiet :=
  quiet_ite _ _ _ _ rfl (quiet_ite _ _ _ _ (quiet_placeEvt _ _ _ _ _ _ _) rfl)

theorem quiet_bumpWin (o s : State) : (bumpWin o s).quiet = s.quiet := by
  simp only [bumpWin]; split <;> rfl

theorem quiet_stageAt (c : W16) (v i : Nat) (f : Byte) (a b x y : W24) (s : State) : (stageAt c v i f a b x y s).quiet = s.quiet :=
  quiet_bumpWin _ _

theorem quiet_stage (c : W16) (v i : Nat) (f : Byte) (a b x y : W24) (s : State) : (stage c v i f a b x y s).2.quiet = s.quiet := by
  simp only [stage]
  split
  · show (if _ then _ else _ : State).quiet = _
    exact quiet_ite _ _ _ _ rfl rfl
  · split
    · split
      · rfl
      · exact quiet_stageAt _ _ _ _ _ _ _ _ _
    · split
      · split
        · rfl
        · exact quiet_stageAt _ _ _ _ _ _ _ _ _
      · split
        · exact quiet_bumpWin _ _
        · split
          · split
            · rfl
            · exact quiet_stageAt _ _ _ _ _ _ _ _ _
          · exact quiet_bumpWin _ _

theorem quiet_raiseCore (c : W16) (v i : Nat) (a b x y : W24) (s : State) : (raiseCore c v i a b x y s).quiet = s.quiet := by
  simp only [raiseCore]; split
  · rw [quiet_postEvt, quiet_stage]
  · exact quiet_stage _ _ _ _ _ _ _ _ _

theorem quiet_wake (n : Nat) (s : State) : (wake n s).quiet = s.quiet := by
  simp only [wake]; rw [quiet_raiseCore]; rfl

theorem quiet_attention (n : Nat) (s : State) : (attention n s).quiet = s.quiet := by
  simp only [attention]; split <;> rfl

theorem quiet_setCrit (n : Nat) (s : State) : (setCrit n s).quiet = s.quiet := by
  simp only [setCrit]; split
  · rfl
  · rw [quiet_attention, quiet_wake]; rfl

theorem quiet_writeRec (r : Rec) (n : Nat) (bad : List Nat) (s : State) : (writeRec r n bad s).quiet = s.quiet := by
  induction n generalizing s with
  | zero =>
    unfold writeRec; split
    · rw [quiet_setCrit]; rfl
    · rfl
  | succ n ih =>
    unfold writeRec; split
    · rw [quiet_setCrit]; rfl
    · refine quiet_ite _ _ _ _ (by rw [ih, quiet_raiseCore, quiet_setCrit]; rfl) ?_
      have h : ∀ (c : Prop) [Decidable c] (t : State), t.quiet = s.quiet → (if c then setCrit 0 t else t).quiet = s.quiet :=
        fun c _ t ht => quiet_ite _ _ _ _ (by rw [quiet_setCrit, ht]) ht
      refine h _ _ (quiet_ite _ _ _ _ (by rw [quiet_raiseCore]; exact quiet_ite _ _ _ _ rfl rfl) (quiet_ite _ _ _ _ rfl rfl))

theorem quiet_foldl {α : Type} (f : State → α → State) (h : ∀ s a, (f s a).quiet = s.quiet) (l : List α) (s : State) :
    (l.foldl f s).quiet = s.quiet := by
  induction l generalizing s with
  | nil => rfl
  | cons a t ih => rw [List.foldl_cons, ih, h]

theorem quiet_drain (bad : List Nat) (s : State) : (drain bad s).quiet = s.quiet := by
  simp only [drain]
  exact quiet_foldl _ (fun u r => by rw [quiet_bumpWin, quiet_writeRec]; rfl) _ _

theorem quiet_reportOverflow (s : State) : (reportOverflow s).quiet = s.quiet :=
  quiet_ite _ _ _ _ rfl (by rw [quiet_setCrit, quiet_raiseCore]; rfl)

theorem quiet_flushBad (bad : List Nat) (s : State) : (flushBad bad s).quiet = s.quiet := by
  have h : (drain bad (drain bad (reportOverflow (drain bad s)))).quiet = s.quiet := by
    rw [quiet_drain, quiet_drain, quiet_reportOverflow, quiet_drain]
  exact quiet_ite _ _ _ _ rfl (quiet_ite _ _ _ _ ((quiet_sendIrq _ _).trans h) h)

@[simp] theorem quiet_flush (s : State) : (flush s).quiet = s.quiet := quiet_flushBad _ _

theorem quiet_flushOn (v : Nat) (o s : State) : (flushOn v o s).quiet = s.quiet := by
  simp only [flushOn]; split
  · exact quiet_flush s
  · rfl

/-- The report of an event changes nothing but reports. -/
@[simp] theorem quiet_raiseBy (i : Nat) (c : W16) (v : Nat) (a b : W24) (s : State) : (raiseBy i c v a b s).quiet = s.quiet := by
  simp only [raiseBy]; rw [quiet_flushOn, quiet_raiseCore]

@[simp] theorem quiet_raise (c : W16) (v : Nat) (a b : W24) (s : State) : (raise c v a b s).quiet = s.quiet := quiet_raiseBy _ _ _ _ _ _

@[simp] theorem quiet_raise4 (c : W16) (v : Nat) (a b x y : W24) (s : State) : (raise4 c v a b x y s).quiet = s.quiet := by
  simp only [raise4]; rw [quiet_flushOn, quiet_raiseCore]

@[simp] theorem quiet_lateRec (c : W16) (v : Nat) (a b : W24) (s : State) : (lateRec c v a b s).quiet = s.quiet := by
  simp only [lateRec]; rw [quiet_flushOn, quiet_stage]

theorem quiet_mirrorSync (s : State) : (mirrorSync s).quiet = s.quiet := quiet_ite _ _ _ _ rfl rfl

theorem quiet_sendDue (s : State) : (sendDue s).quiet = s.quiet :=
  quiet_ite _ _ _ _ rfl (quiet_foldl _ (fun _ _ => quiet_ite _ _ _ _ (quiet_putIrq _ _) rfl) _ _)

@[simp] theorem quiet_sync (s : State) : (sync s).quiet = s.quiet := (quiet_sendDue _).trans (quiet_mirrorSync _)

theorem quiet_putDone (r : Ref) (st : Status) (w : W24) (s : State) : (putDone r st w s).quiet = s.quiet :=
  quiet_postEvt _ _ _ _ _ _ _

@[simp] theorem bumpWin_staged (o s : State) : (bumpWin o s).log.staged = s.log.staged := by unfold bumpWin; split <;> rfl
@[simp] theorem bumpWin_head (o s : State) : (bumpWin o s).log.head = s.log.head := by unfold bumpWin; split <;> rfl

/-- A record is staged under the next sequence where LOG runs, the buffer has room and its class has a token or no limit. -/
theorem stage_fresh (c : W16) (v i : Nat) (f : Byte) (a b x y : W24) (s : State) (hl : s.logUp = true) (hr : s.log.staged.length < 64)
    (ht : s.burst (rateClass c.toNat v) = 0 ∨ 0 < s.log.tokens.toList.getD (rateClass c.toNat v) 0) :
    (stage c v i f a b x y s).1 = s.log.head + 1 ∧ (stage c v i f a b x y s).2.log.head = s.log.head + 1 ∧
      (stage c v i f a b x y s).2.log.staged = s.log.staged ++ [⟨s.log.head + 1, c, v, i, f, 0, a, b, x, y⟩] := by
  have hfull : decide (64 ≤ s.log.staged.length) = false := by simpa using hr
  unfold stage
  rw [if_neg (by simp [hl])]
  simp only [hfull, Bool.false_eq_true, if_false]
  by_cases h0 : s.burst (rateClass c.toNat v) = 0
  · rw [if_pos h0]; exact ⟨rfl, bumpWin_head _ _, bumpWin_staged _ _⟩
  · rw [if_neg h0, if_pos (ht.resolve_left h0)]; exact ⟨rfl, bumpWin_head _ _, bumpWin_staged _ _⟩

end Sys2Proof.Machine
end

