-- ==== Sys2Proof/Laws/Decoder.lean ====
section
/-! SUPPORT. What a command row does when the decoder takes its descriptor, and what a refusal-free acceptance leaves. -/

namespace Sys2Proof.Machine

/-- The state in which a descriptor's meaning starts: fetched, its consumer index passed. -/
def State.fetched (s : State) (d : Desc) : State :=
  { s with ring.announced := s.ring.announced - 1, ring.cmdCons := s.ring.cmdCons + 1,
           ring.urgentSeen := s.ring.urgentSeen || dUrgent d }

theorem decoderIdle_of_none (s : State) (h : s.ring.block = none) : s.decoderIdle = true := by simp [State.decoderIdle, h]

theorem canDecode_block (s : State) (h : s.canDecode = true) : s.ring.block = none := by
  simp only [State.canDecode, Bool.and_eq_true, Option.isNone_iff_eq_none] at h; exact h.1.2

theorem canFetch_stopping (s : State) (h : s.canFetch = true) : s.host.stopping = false ∧ s.ring.sleepReq = false := by
  simp only [State.canFetch, Bool.and_eq_true, Bool.not_eq_true'] at h; exact ⟨h.1.1.1.1.2, h.1.2⟩

theorem sleepSync_false (s : State) (h : s.ring.sleepReq = false) : sleepSync s = s := by simp [sleepSync, h]

theorem answerPower_idle (u : State) (hb : u.ring.block = none) (h3 : u.host.d3Due = false) (hp : u.host.pmeDue = false) :
    answerPower u = u := by
  simp only [answerPower, decoderIdle_of_none u hb, h3, hp, Bool.not_true, Bool.false_eq_true, if_false]

/-- A command row whose descriptor the decoder takes: its meaning, on the state with the descriptor fetched. -/
theorem command_takes (op : Byte) (d : Desc) (s : State) (h : s.takes d) :
    command op d s = .next (sync (sleepSync (decodeOp op d (s.fetched d)))) := by
  obtain ⟨hf, hd, ha, hb, h3, hp, hfence⟩ := h
  have hblk := canDecode_block s hd
  obtain ⟨hst, -⟩ := canFetch_stopping s hf
  have h1 : deliver op d s = resume { s with ring.announced := s.ring.announced - 1, ring.backlog := [(op, d)] } := by
    unfold deliver; rw [if_neg (by simp [hf, ha])]; simp [hb]
  unfold command done; rw [h1]
  generalize hu : ({ s with ring.announced := s.ring.announced - 1, ring.backlog := [(op, d)] } : State) = u
  have hub : u.ring.backlog = [(op, d)] := by subst hu; rfl
  have hus : u.host.stopping = false := by subst hu; exact hst
  have huc : u.canDecode = true := by subst hu; exact hd
  have huo : dFence d = true → u.ring.outstanding = [] := by subst hu; exact hfence
  have hup : answerPower u = u := answerPower_idle u (by subst hu; exact hblk) (by subst hu; exact h3) (by subst hu; exact hp)
  unfold resume; rw [hup]; simp only [hus, Bool.false_eq_true, if_false, hub, List.length_singleton]
  have hdr : drainDesc 1 u = decodeOp op d (s.fetched d) := by
    simp only [drainDesc, huc, Bool.not_true, Bool.false_eq_true, if_false, hub, decodeOne]
    rw [if_neg]
    · subst hu; simp only [consume, State.fetched, hb]
    · intro hc
      simp only [Bool.and_eq_true, Bool.not_eq_true'] at hc
      have := huo hc.1
      simp [this] at hc
  rw [hdr]

theorem gate_serves (op : Byte) (d : Desc) (s : State) (k : State → State) (h : s.serves op) : gate op d true s k = k s := by
  simp [gate, h.1, h.2]

theorem gate_fetched (op : Byte) (d : Desc) (s : State) (k : State → State) (h : s.serves op) :
    gate op d true (s.fetched d) k = k (s.fetched d) := gate_serves op d (s.fetched d) k h

/-- A completion written, and nothing else. -/
theorem quiet_putCpl (op : Byte) (tag : W32) (g : Bool) (st : Status) (q : W32) (r : W24) (x : Byte) (s : State) :
    (putCpl op tag g st q r x s).quiet =
      ({ s with ring.cpl := ⟨s.ring.cplProd, tag, st, op, q, r, x, phaseOf (s.ringLog 1) s.ring.cplProd⟩ :: s.ring.cpl,
                ring.cplProd := s.ring.cplProd + 1 } : State).quiet := quiet_irqMod _ _ _

/-- The completion that `postCpl` leaves, on any state that agrees with `s` on the completion ring. -/
theorem postCpl_completed (op : Byte) (d : Desc) (st : Status) (q : Nat) (r : W24) (x : Byte) (s u : State)
    (hr : u.host.running = true) (ho : u.dmaOpen = true) (hc : u.ring.cpl = s.ring.cpl) (hp : u.ring.cplProd = s.ring.cplProd)
    (hz : u.ringLog 1 = s.ringLog 1) : Completed op d st q r x s (postCpl op d st q r x u) := by
  unfold Completed postCpl
  by_cases h : dSilent d = true ∧ st.accepted = true
  · rw [if_pos h, if_pos (by simp [h])]; exact ⟨hc, hp⟩
  · have hn : ((dSilent d && st.accepted) || !u.host.running) = false := by
      rw [hr]; cases h1 : dSilent d <;> cases h2 : st.accepted <;> simp_all
    rw [if_neg h, hn, if_pos ho]; simp only [Bool.false_eq_true, if_false]
    have e := quiet_putCpl op d.tag (dUrgent d) st (BitVec.ofNat 32 q) r x u
    exact ⟨(congrArg (·.ring.cplProd) e).trans (by simp [State.quiet, hp]), (congrArg (·.ring.cpl) e).trans (by simp [State.quiet, hc, hp, hz])⟩

/-- What a completion leaves alone. -/
theorem quiet_postCpl (op : Byte) (d : Desc) (st : Status) (q : Nat) (r : W24) (x : Byte) (s : State) :
    ∃ l p, (postCpl op d st q r x s).quiet = ({ s with ring.cpl := l, ring.cplProd := p } : State).quiet := by
  unfold postCpl; split
  · exact ⟨_, _, rfl⟩
  · split
    · exact ⟨_, _, quiet_putCpl op d.tag (dUrgent d) st (BitVec.ofNat 32 q) r x s⟩
    · exact ⟨_, _, rfl⟩

theorem completed_of_quiet {op : Byte} {d : Desc} {st : Status} {q : Nat} {r : W24} {x : Byte} {s t u : State}
    (h : Completed op d st q r x s t) (e : u.quiet = t.quiet) : Completed op d st q r x s u := by
  have h1 : u.ring.cpl = t.ring.cpl := congrArg (·.ring.cpl) e
  have h2 : u.ring.cplProd = t.ring.cplProd := congrArg (·.ring.cplProd) e
  unfold Completed at h ⊢; rw [h1, h2]; exact h

theorem journaled_of_quiet {op : Byte} {d : Desc} {st : Status} {s t u : State} (h : Journaled op d st s t) (e : u.quiet = t.quiet) :
    Journaled op d st s u := by
  have h1 : u.jrn = t.jrn := congrArg (·.jrn) e
  unfold Journaled at h ⊢; rw [h1]; exact h

/-- The decoder runs only while HOST runs. -/
theorem takes_running {s : State} {d : Desc} (h : s.takes d) : s.host.running = true := by
  have := h.2.1; simp only [State.canDecode, Bool.and_eq_true] at this; exact this.1.1.1.1.1.1

theorem takes_open {s : State} {d : Desc} (h : s.takes d) : s.dmaOpen = true := by
  have := h.2.1; simp only [State.canDecode, Bool.and_eq_true] at this; exact this.1.1.1.2

theorem takes_awake {s : State} {d : Desc} (h : s.takes d) : s.ring.sleepReq = false := (canFetch_stopping s h.1).2

/-- What an acceptance needs of the state `u` in which it happens, seen from the state `s` before the command. -/
structure Accepting (s u : State) : Prop where
  jrn : u.jrn = s.jrn
  cpl : u.ring.cpl = s.ring.cpl
  prod : u.ring.cplProd = s.ring.cplProd
  out : u.ring.outstanding = s.ring.outstanding
  size : u.host.ringSize = s.host.ringSize
  running : u.host.running = true
  dma : u.dmaOpen = true
  awake : u.ring.sleepReq = false

/-- A state that agrees with `s` in what `quiet` keeps, but for a few effects, accepts as the fetched state does. -/
theorem accepting_fetched {s : State} {d : Desc} (h : s.takes d) : Accepting s (s.fetched d) :=
  ⟨rfl, rfl, rfl, rfl, rfl, takes_running (s := s) h, takes_open (s := s) h, takes_awake (s := s) h⟩

theorem accepting_of_quiet {s u v : State} (h : Accepting s u) (e : v.quiet = u.quiet) : Accepting s v where
  jrn := (congrArg (·.jrn) e).trans h.jrn
  cpl := (congrArg (·.ring.cpl) e).trans h.cpl
  prod := (congrArg (·.ring.cplProd) e).trans h.prod
  out := (congrArg (·.ring.outstanding) e).trans h.out
  size := (congrArg (·.host.ringSize) e).trans h.size
  running := (congrArg (·.host.running) e).trans h.running
  dma := (congrArg State.dmaOpen e).trans h.dma
  awake := (congrArg (·.ring.sleepReq) e).trans h.awake

/-- What an acceptance adds to a state: journal, completions, commands without their outcome. -/
def Added (u t : State) : Prop := ∃ j l p o, t.quiet = ({ u with jrn := j, ring.cpl := l, ring.cplProd := p, ring.outstanding := o } : State).quiet

theorem acceptOk_spec (op : Byte) (d : Desc) (r : W24) (x : Byte) {s u : State} (h : Accepting s u) :
    Journaled op d .ok s (acceptOk op d r x u) ∧ Completed op d .ok (s.jrn.head + 1) r x s (acceptOk op d r x u) ∧
      Added u (acceptOk op d r x u) := by
  have hj : (jrnCmd op d .ok u).jrn.head = s.jrn.head + 1 := by show u.jrn.head + 1 = _; rw [h.jrn]
  have e := quiet_postCpl op d .ok (jrnCmd op d .ok u).jrn.head r x (jrnCmd op d .ok u)
  refine ⟨?_, ?_, ?_⟩
  · obtain ⟨l, p, e⟩ := e
    have ej : (acceptOk op d r x u).jrn = (jrnCmd op d .ok u).jrn := congrArg (·.jrn) e
    unfold Journaled; rw [ej]
    refine ⟨hj, ?_⟩
    show ((⟨u.jrn.head + 1, _, _, _, _, _, _, _⟩ : JEntry) :: u.jrn.entries |>.take 4096).head? = _
    rw [h.jrn]; rfl
  · show Completed _ _ _ _ _ _ _ (postCpl _ _ _ (jrnCmd op d .ok u).jrn.head _ _ _)
    rw [hj]
    exact postCpl_completed op d .ok (s.jrn.head + 1) r x s (jrnCmd op d .ok u) h.running h.dma h.cpl h.prod (by simp [State.ringLog, jrnCmd, h.size])
  · obtain ⟨l, p, e⟩ := e; exact ⟨_, l, p, _, e⟩

theorem acceptRun_spec (op : Byte) (d : Desc) (st : Status) (r : W24) (x : Byte) {s u : State} (h : Accepting s u) :
    Journaled op d st s (acceptRun op d st r x u) ∧ Completed op d st (s.jrn.head + 1) r x s (acceptRun op d st r x u) ∧
      (acceptRun op d st r x u).ring.outstanding = s.ring.outstanding ++ [s.nextRef op d] ∧ Added u (acceptRun op d st r x u) := by
  have hj : (jrnCmd op d st u).jrn.head = s.jrn.head + 1 := by show u.jrn.head + 1 = _; rw [h.jrn]
  let w : State := { jrnCmd op d st u with ring.outstanding := (jrnCmd op d st u).ring.outstanding ++ [u.nextRef op d] }
  have hw : acceptRun op d st r x u = postCpl op d st (jrnCmd op d st u).jrn.head r x w := rfl
  have e := quiet_postCpl op d st (jrnCmd op d st u).jrn.head r x w
  refine ⟨?_, ?_, ?_, ?_⟩
  · obtain ⟨l, p, e⟩ := e
    have ej : (acceptRun op d st r x u).jrn = (jrnCmd op d st u).jrn := congrArg (·.jrn) e
    unfold Journaled; rw [ej]
    refine ⟨hj, ?_⟩
    show ((⟨u.jrn.head + 1, _, _, _, _, _, _, _⟩ : JEntry) :: u.jrn.entries |>.take 4096).head? = _
    rw [h.jrn]; rfl
  · rw [hw, hj]
    exact postCpl_completed op d st (s.jrn.head + 1) r x s w h.running h.dma h.cpl h.prod (by simp [State.ringLog, w, jrnCmd, h.size])
  · obtain ⟨l, p, e⟩ := e
    have eo : (acceptRun op d st r x u).ring.outstanding = w.ring.outstanding := congrArg (·.ring.outstanding) e
    rw [eo]
    show u.ring.outstanding ++ [_] = _
    rw [h.out]; simp [State.nextRef, h.jrn]
  · obtain ⟨l, p, e⟩ := e; exact ⟨_, l, p, _, e⟩

/-- From a command's meaning to its completion statement, for a command that ends OK at decode. -/
theorem acceptsOk_of {c : Instr} {op : Byte} {d : Desc} {r : W24} {x : Byte} {s u : State} {E : State → Prop}
    (hx : exec c s = command op d s) (ht : s.takes d) (hd : decodeOp op d (s.fetched d) = acceptOk op d r x u) (hu : Accepting s u)
    (hE : ∀ t, Added u t → E t) : acceptsOk c op d r x s E := by
  obtain ⟨h1, h2, j, l, p, o, h3⟩ := acceptOk_spec op d r x hu
  have ha : (acceptOk op d r x u).ring.sleepReq = false := (congrArg (·.ring.sleepReq) h3).trans hu.awake
  have e : (sync (acceptOk op d r x u)).quiet = (acceptOk op d r x u).quiet := quiet_sync _
  exact ⟨_, by rw [hx, command_takes op d s ht, hd, sleepSync_false _ ha], journaled_of_quiet h1 e, completed_of_quiet h2 e,
    hE _ ⟨j, l, p, o, e.trans h3⟩⟩

/-- The same for a command whose outcome comes later; the meaning's result `v` keeps the acceptance's journal and completions. -/
theorem acceptsLater_of {c : Instr} {op : Byte} {d : Desc} {st : Status} {s u v : State} {E : State → Prop}
    (hx : exec c s = command op d s) (ht : s.takes d) (hd : decodeOp op d (s.fetched d) = v) (hu : Accepting s u)
    (h1 : v.jrn = (acceptRun op d st 0 0 u).jrn) (h2 : v.ring.cpl = (acceptRun op d st 0 0 u).ring.cpl)
    (h3 : v.ring.cplProd = (acceptRun op d st 0 0 u).ring.cplProd) (h4 : v.ring.outstanding = (acceptRun op d st 0 0 u).ring.outstanding)
    (h5 : v.ring.sleepReq = false) (hE : ∀ t, t.quiet = v.quiet → E t) : acceptsLater c op d st s E := by
  obtain ⟨a1, a2, a3, -⟩ := acceptRun_spec op d st 0 0 hu
  have e : (sync v).quiet = v.quiet := quiet_sync _
  refine ⟨_, by rw [hx, command_takes op d s ht, hd, sleepSync_false _ h5], ?_, ?_, ?_, hE _ e⟩
  · exact journaled_of_quiet (t := v) (by unfold Journaled at a1 ⊢; rw [h1]; exact a1) e
  · exact completed_of_quiet (t := v) (by unfold Completed at a2 ⊢; rw [h2, h3]; exact a2) e
  · rw [← a3, ← h4]; exact congrArg (·.ring.outstanding) e

theorem rest_of_quiet {s t : State} (h : t.quiet = s.quiet) : t.rest = s.rest := by unfold State.rest; rw [h]

/-- What an acceptance adds lies in journal and rings. -/
theorem onlyRings_of_added {s u t : State} (h : Added u t) (hu : u.rest = s.rest) : OnlyRings s t := by
  obtain ⟨j, l, p, o, e⟩ := h
  exact (rest_of_quiet e).trans hu

end Sys2Proof.Machine
end

