-- ==== Sys2Proof/Tests/Slice0.lean ====
section
/-! SUPPORT. The author's own checks: well-formedness, the numbers of the spec's worked examples, and a witness of the
hypotheses of every clause of every statement. -/

namespace Sys2Proof.Tests

open Sys2Proof Sys2Proof.Machine

/-! ### States and operands -/

/-- A block that runs: every island, the host link, the rings with sixteen entries each, the guard in RUN with every permit. -/
def up : State := { State.reset with
  glb.step := 7, glb.isl := Vector.replicate 8 .run, glb.faultN := false
  sup.vbus := 36000
  land.perstN := true
  host.run := true, host.ready := true, host.running := true, host.link := .l0, host.cfg.bme := true, host.cfg.mse := true, host.ringSize := 0x444
  ring.announced := 1
  sil.armed := true
  grd.st := .run, grd.permits := 0x1FFFF, grd.estopA := true, grd.estopB := true
  log.mounted := true
  mot.lines := true, mot.ax := Vector.replicate 5 { st := .standstill, homed := true, stage := true }
  grind.st := .stopped
  awn.mode := .data, awn.up := true, awn.stale := false, awn.configured := true, awn.hears := true
  husk.alive := true, husk.mode := .data, husk.configured := true }
/-- The same with committed parameters. -/
def upP (l : List (Nat × W24)) : State := { up with prm.committed := l }
/-- The same with parameters in the Husk's active bank. -/
def upH (l : List (Nat × W24)) : State := { up with husk.active := l.map (fun p => (huskKey p.1, p.2)) }
/-- A descriptor with its first three arguments. -/
def ds (d3 d4 d5 : W32) : Desc := { d3 := d3, d4 := d4, d5 := d5 }
/-- A descriptor of a transaction. -/
def dt (id d3 d4 : W32) : Desc := { d2 := id, d3 := d3, d4 := d4 }
/-- A descriptor with a bulk buffer at 0x1000. -/
def db (d3 d4 n : W32) : Desc := { d3 := d3, d4 := d4, d5 := 0x1000, d7 := n }
/-- A command that has been accepted. -/
def rf : Ref := ⟨1, 2, 3, 0, 0⟩
/-- A record of severity 2. -/
def rc : Rec := { seq := 1, code := 0x4802, sev := 2, isl := 0 }
/-- A call of landing 2. -/
def cl : Call := ⟨2, 0, false, 3000, false, 0, [rf], false⟩
/-- A position move to microstep 1,000. -/
def mv : Move := ⟨some 1000, 1, 25600, 100, 100, false, false, 0, none⟩
/-- Axis 4 in a position move. -/
def moving4 : State := { up with mot.ax := up.mot.ax.set 4 { st := .moving, homed := true, stage := true, move := some mv } }
/-- GRIND with a verified image in its spare slot. -/
def spared : State := { up with fw.slots := up.fw.slots.set 2 { a := { verified := true }, b := { verified := true }, rcv := { verified := true } } }
/-- A clear key and an open nonce for a ROLL clear; the answer to it. -/
def keyed : State := { up with prm.ident.clearKey := some [1], log.nonce := some (0, [2]) }
def answered : Desc := { d3 := 1, d5 := 0x1000, d7 := 16, buf := dwordsOf ((Config.hmacSha256 [1] (clearMessage [2] false)).take 16) }
/-- A seal key and an open nonce for an unseal; the answer to it. -/
def sealing : State := { up with prm.ident.sealKey := some [1], log.nonce := some (2, [2]) }
def unsealing : Desc := { d2 := 7, d3 := 100, d4 := 2, d5 := 0x1000, d7 := 32, buf := dwordsOf (Config.hmacSha256 [1] (unsealMessage [2] 7)) }
/-- A debug key and an open challenge; its token. -/
def challenged : State := { up with prm.ident.debugKey := some [1], dbg.nonce := some [2] }
def token : List Byte := Config.hmacSha256 [1] (tokenMessage [2] 3)
/-- A lattice whose rule 0 trips on input FI0 off, in both copies. -/
def tripping : State :=
  { up with prm.committed := [(0x3800, 0x800200), (0x3801, 0x810100)], grd.copyB := [(0x3800, 0x800200), (0x3801, 0x810100)] }
/-- An H-frame of type DATA with every field zero but its flags, its sequence and F24. -/
def hf : HFrame := ⟨5, 1, 0, 0, 9, 3, 0, 0, 0, 0, 0, 0, 0, 0, 0, 0, 0, 0, 0, 0, 0, 0, 0, 0, 24000, 0, 0, 0⟩

/-- A keepalive on the wire to the Husk. -/
def gka : GAir := { words := encodeG ⟨0xA, 0, 0, 0, 0, 9, 3, 1, 0, 0, 0, 0, 63, 0, 0, 0, 0, 0, 0, 0, 0, 0⟩ }

/-- The state after a command. -/
def after (c : Instr) (s : State) : State := match exec c s with
  | .next t => t
  | _ => s

/-! ### Well-formedness -/

/-- Each check refuses an ill-formed command (R115, R178, R236, R239, R245, R485). -/
theorem test_ill_formed :
    Instr.wellFormed (.registerWrite 0x402 0) = false ∧ Instr.wellFormed (.registerWrite 0x10000 0) = false ∧
    Instr.wellFormed (.hostBadAccess true 0x10000) = false ∧ Instr.wellFormed (.bar2BadRead 2 1) = false ∧
    Instr.wellFormed (.bar2BadRead 0 0) = false ∧ Instr.wellFormed (.gFrame ⟨List.replicate 16 0, 31250⟩) = false ∧
    Instr.wellFormed (.hFrame (List.replicate 16 0) 31250) = false ∧ Instr.wellFormed (.fldOutFault 7 1) = false ∧
    Instr.wellFormed (.fldOutFault 8 0) = false ∧ Instr.wellFormed (.fldOpenLoad 7 true) = false ∧
    Instr.wellFormed (.demagEnd 23) = false ∧ Instr.wellFormed (.pulseEnd 7) = false ∧ Instr.wellFormed (.islandWdt .guard) = false ∧
    Instr.wellFormed (.islandRestarted .field) = false ∧ Instr.wellFormed (.restartTimeout .guard) = false ∧
    Instr.wellFormed (.handshakeTmo .log .log) = false ∧ Instr.wellFormed (.axOvercurrent 0 0 4) = false ∧
    Instr.wellFormed (.flushTimer [8192]) = false ∧ Instr.wellFormed (.dbgToken 3 [1]) = false ∧
    Instr.wellFormed (.dbgAccess (.readBar2 2)) = false := by decide

/-- A bulk buffer longer than 4,194,304 bytes is ill-formed, at a descriptor and in a poll's fetch (R178). -/
theorem test_long_buffer (n : Nat) (h : 1048576 < n) :
    Instr.wellFormed (.fwStage { buf := List.replicate n 0 }) = false ∧
    Instr.wellFormed (.poll none [(0x60, { buf := List.replicate n 0 })]) = false := by
  simp [Instr.wellFormed, Desc.fits]; omega

theorem test_well_formed :
    Instr.wellFormed (.registerWrite 0x444 0) = true ∧ Instr.wellFormed (.demagEnd 24) = true ∧
    Instr.wellFormed (.fwStage (db 0 0 256)) = true ∧ Instr.wellFormed (.islandWdt .keep) = true := by decide

/-- The table gives no row bits. -/
theorem test_no_table_words (n w : Nat) : decodeTableWord n w = none := rfl

/-! ### The spec's worked examples -/

/-- Table 14-2: the CRC-8 of the frames. -/
theorem test_bus_frames : crc8 [0xC0, 0x5A, 0x01] = 0x04 ∧ crc8 [0xC0, 0xE5, 0x02] = 0x81 ∧ crc8 [0xC0, 0xC3, 0x3C] = 0xEB ∧
    crc8 [0xCA, 0x5A, 0x2A] = 0x52 ∧ crc8 [0xC1, 0x00, 0x37, 0x00] = 0x2E := by decide +kernel

/-- Table 14-2, first row: the heartbeat frame is acknowledged where heartbeats are supervised. -/
theorem test_heartbeat_frame : (after (.heartbeat 0x01 0x04 0) (upP [(0x4000, 1)])).twp.hbOk = true ∧
    (after (.heartbeat 0x01 0x05 0) (upP [(0x4000, 1)])).twp.acked = false := by decide +kernel

/-- Table 14-2, last row: the read answers 0x00 0x37 0x00 0x2E (supervised and OK heartbeat flags apart, none is set). -/
theorem test_status_read : (after (.statusRead 4 false) { up with grd.beat := 0x37 }).twp.out = [0x00, 0x37, 0x00, 0x2E] := by decide +kernel

/-- File 06, worked example: indices 14 and 15 have phase 1, 16 and 17 phase 0 in a ring of 16 entries. -/
theorem test_ring_phases : phaseOf 4 14 = true ∧ phaseOf 4 15 = true ∧ phaseOf 4 16 = false ∧ phaseOf 4 17 = false := by decide

/-- File 00: −1, −256 and 8,388,607 in 24 bits. -/
theorem test_numbers : w24i (-1) = 0xFFFFFF ∧ w24i (-256) = 0xFFFF00 ∧ w24i 8388607 = 0x7FFFFF ∧ (0xFFFF00 : W24).int = -256 := by decide

/-- File 09, worked example of gearing: F is 9,500 at the switch, 11,500 at 21,000. -/
theorem test_gear_switch : gearPos 0x8000 1000 20000 0 = 9500 ∧ gearPos 0x20000 1000 21000 (-28500) = 11500 := by decide

/-- File 09: entries 0, 128, 256 and 512 of the built-in microstep table. -/
theorem test_microstep_table : builtinTable.getD 0 0 = 0x7FF000 ∧ builtinTable.getD 128 0 = 0x5A75A7 ∧ builtinTable.getD 256 0 = 0x0007FF ∧
    builtinTable.getD 512 0 = 0x801000 := by decide +kernel

/-- The images of Table 16-4 with their epochs and ranges, HOST, LIFT and GRIND in this order. -/
def exHost : Slot := { epoch := 5, lo := #v[0, 5, 5], hi := #v[0, 6, 5] }
def exLift : Slot := { epoch := 5, lo := #v[5, 0, 5], hi := #v[6, 0, 5] }
def exGrind : Slot := { epoch := 5, lo := #v[4, 4, 0], hi := #v[6, 7, 0] }
def exBridge : Slot := { epoch := 6, lo := #v[0, 5, 5], hi := #v[0, 7, 6] }
def exNew : Slot := { epoch := 7, lo := #v[6, 0, 5], hi := #v[7, 0, 7] }

/-- File 16, worked example: the new LIFT image is refused beside HOST 5 and accepted beside the bridge. -/
theorem test_epochs : compatible 1 exNew 0 exHost = false ∧ compatible 0 exBridge 1 exLift = true ∧ compatible 0 exBridge 2 exGrind = true ∧
    compatible 1 exNew 0 exBridge = true ∧ compatible 1 exNew 2 exGrind = true := by decide

/-- The car of file 11's worked example at landing 2, going down, with the three calls of step 1. -/
def exCar (policy : W24) : State :=
  { upP [(0x2000, 1), (0x2001, policy), (ldgP 1 0, 200000), (ldgP 2 0, 400000), (ldgP 3 0, 600000), (ldgP 4 0, 800000), (ldgP 1 3, 512),
        (ldgP 1 1, 3)] with
    lift.st := .idle, lift.dir := -1
    lift.calls := [⟨4, 2, true, 0, false, 0, [], false⟩, ⟨1, 1, false, 0, false, 1, [], false⟩, ⟨0, 1, true, 0, false, 2, [], false⟩]
    mot.ax := up.mot.ax.set 0 { st := .standstill, homed := true, stage := true, x := 400000 * xUnit, latch := some (200610, 0) } }

/-- Table 11-9: the first stop by policy. -/
theorem test_first_stop : (exCar 2).select.map (fun c => c.landing.val) = some 4 ∧
    (exCar 0).select.map (fun c => c.landing.val) = some 1 ∧ (exCar 1).select.map (fun c => c.landing.val) = some 4 := by decide

/-- The same car arrived at landing 1, its flag's edge latched at 200,610. -/
def exArrived : State := { exCar 0 with
  lift.st := .approach, lift.phase := .moving, lift.target := 1
  mot.ax := up.mot.ax.set 0 { st := .standstill, homed := true, stage := true, x := 200000 * xUnit, latch := some (200610, 0) } }

/-- File 11, step 3: e is +98 and the car levels. -/
theorem test_level_error : (after .liftArrived exArrived).lift.err = 98 ∧ (after .liftArrived exArrived).lift.phase = .levelling := by decide

/-- File 15, worked example of the full clear: LOG_CLEARED lies in KEEP slot 0 with the old head and the regions. -/
theorem test_log_cleared :
    ((after .logCleared { up with log.clear := some ⟨true, 0x31009F04, 0x31009F05⟩, log.head := 0x31009F05 }).log.keep.map
      (fun p => (p.1, p.2.seq, p.2.w0, p.2.w1, p.2.w2))) = [(0, 0x31009F05, 0x009F04, 0x000031, 3)] := by decide

/-- File 15, worked example: AX_LIMIT shares class 4, an AXIS stall too. -/
theorem test_rate_classes : rateClass 0x1023 3 = 4 ∧ rateClass 0x1020 5 = 4 := by decide

/-- Files 08 and 12: FLD_SILENCE of VLV0 is PID 0x30C3, DR_V_CLOSE of door 1 is PID 0x2449. -/
theorem test_pids : fldP 24 3 = 0x30C3 ∧ drP 1 9 = 0x2449 := by decide

/-- File 10, worked example: term 0x810001 holds while FI1 is on, its inversion while it is off. -/
theorem test_lattice_terms : ({ up with awn.inputs := 2 } : State).term 0x810001 = true ∧ up.term 0x810001 = false ∧ up.term 0xC10001 = true := by decide

/-! ### One step each -/

/-- A reserved opcode completes with BAD_OPCODE, journal sequence 0 (R161). -/
theorem test_bad_opcode : ((consume 0x7F {} up).ring.cpl.map (fun e => (e.status, e.jseq))) = [(.badOpcode, 0)] ∧ (consume 0x7F {} up).jrn = up.jrn := by
  decide

/-- A SILENT command posts no completion and is journaled (R164). -/
theorem test_silent : (after (.nop { d0 := 4 }) up).ring.cpl = [] ∧ (after (.nop { d0 := 4 }) up).jrn.head = 1 := by decide

/-- The read of HST_GEN is answered; a read in the state after reset is not (R120). -/
theorem test_no_answer_off : after .hstDmaErr State.reset = State.reset := by decide

/-- The step takes the command at the front. -/
theorem test_front : (match step { up with pending := [.prmId 7, .prmId 8] } with
    | .next t => (t.prm.prmId, t.pending)
    | _ => (0, [])) = (7, [.prmId 8]) := by decide

/-! ### Witnesses: a state and operands that meet all hypotheses of each clause -/

theorem wit_RecorderCommandsComplete_clear :
    keyed.takes answered ∧ keyed.serves 0x5A ∧ formOk answered false false 3 m0 mB mB mB = true ∧ bulkOk answered 16 4 = true ∧
    answered.d3.getLsbD 0 = true ∧ answered.dmaOk = true ∧ keyed.clearFail (answered.d3.getLsbD 1) (bulkBytes answered 16) = none ∧
    keyed.log.clear = none := by
  have hl : ((Config.hmacSha256 [1] (clearMessage [2] false)).take 16).length = 16 := by simp [length_hmacSha256]
  have hb := bulkBytes_of_buf answered _ rfl (by rw [hl]) (by rw [hl]; decide)
  rw [hl] at hb
  refine ⟨?_, ?_, ?_, ?_, ?_, ?_, ?_, ?_⟩
  · unfold State.takes; decide
  · unfold State.serves; decide
  · decide
  · decide
  · decide
  · decide
  · rw [hb]; simp [State.clearFail, keyed, answered, bit]
  · decide

theorem wit_TransactionsOpenAndClose_unseal :
    sealing.takes unsealing ∧ sealing.serves 0x10 ∧ formOk unsealing false true mA 3 mB mB mB = true ∧ unsealing.d4.getLsbD 1 = true ∧
    bulkOk unsealing 32 4 = true ∧ sealing.txn.st = .idle ∧ dTxnId unsealing ≠ 0 ∧ dTxnId unsealing ≠ sealing.txn.lastId ∧
    1 ≤ (arg24 unsealing.d3).toNat ∧ (arg24 unsealing.d3).toNat ≤ 10000 ∧ unsealing.dmaOk = true ∧
    sealing.unsealOk (dTxnId unsealing) (bulkBytes unsealing 32) = true := by
  have hl := length_hmacSha256 [1] (unsealMessage [2] 7)
  have hb := bulkBytes_of_buf unsealing _ rfl (by rw [hl]) (by rw [hl]; decide)
  rw [hl] at hb
  refine ⟨?_, ?_, ?_, ?_, ?_, ?_, ?_, ?_, ?_, ?_, ?_, ?_⟩
  · unfold State.takes; decide
  · unfold State.serves; decide
  all_goals first | decide | (rw [hb]; simp [State.unsealOk, sealing, unsealing, dTxnId])

theorem wit_DebugPortActs_token : challenged.dbgUp = true ∧ challenged.tokenOk 3 token = true :=
  ⟨by decide, by simp [State.tokenOk, challenged, token]⟩

theorem wit_QueriesAnswer :
    (∃ (s : State) (d : Desc), s.takes d ∧ s.serves 0x01 ∧ formOk d false false m0 m0 m0 m0 m0 = true) ∧
    (∃ (s : State) (d : Desc), s.takes d ∧ s.serves 0x13 ∧ formOk d false false m0 m0 m0 m0 m0 = true) ∧
    (∃ (s : State) (d : Desc), s.takes d ∧ s.serves 0x4A ∧ formOk d false false 3 m0 m0 m0 m0 = true) ∧
    (∃ (s : State) (d : Desc) (i : Fin 8), s.takes d ∧ s.serves 0x4B ∧ formOk d false false 0x1F m0 m0 m0 m0 = true ∧
      ctrIdx (fld d.d3 0 5) = some i) ∧
    (∃ (s : State) (d : Desc), s.takes d ∧ s.serves 0x51 ∧ formOk d false false 3 m0 m0 m0 m0 = true) ∧
    (∃ (s : State) (d : Desc) (i : FwIsland), s.takes d ∧ s.serves 0x62 ∧ formOk d false false 0xF m0 m0 m0 m0 = true
      ∧ fwOfNum (fld d.d3 0 4) = some i) :=
  ⟨⟨up, {}, by unfold State.takes State.serves; decide⟩,
   ⟨up, {}, by unfold State.takes State.serves; decide⟩,
   ⟨up, ds 3 0 0, by unfold State.takes State.serves; decide⟩,
   ⟨up, ds 9 0 0, 5, by unfold State.takes State.serves; decide⟩,
   ⟨up, ds 2 0 0, by unfold State.takes State.serves; decide⟩,
   ⟨up, ds 2 0 0, .lift, by unfold State.takes State.serves; decide⟩⟩

theorem wit_ParamReadAnswersImage :
    (∃ (s : State) (d : Desc), s.takes d ∧ s.serves 0x08 ∧ formOk d true false 0x1FFFF m0 m0 m0 m0 = true ∧ s.txnBars
      d = none ∧ pidExists (fld d.d3 0 16) = true ∧ (d.d3.getLsbD 16 = true → dTxn d = true ∧ isTablePid (fld d.d3 0
      16) = false)) :=
  ⟨up, ds 0x2009 0 0, by unfold State.takes State.serves; decide⟩

theorem wit_BulkCopiesQueue :
    (∃ (s : State) (d : Desc), s.takes d ∧ s.serves 0x02 ∧ formOk d false false m0 m0 mB mB mB = true ∧ bulkOk d 128 4
      = true ∧ bit s.ring.bulkRun.isSome + s.ring.bulkWait.length < 2) ∧
    (∃ (s : State) (d : Desc), s.takes d ∧ s.serves 0x5B ∧ formOk d false false 0x1FFF m0 mB mB mB = true ∧ bulkOk d
      32 32 = true ∧ bulkLen d ≤ 262144 ∧ bit s.ring.bulkRun.isSome + s.ring.bulkWait.length < 2) ∧
    (∃ (s : State) (d : Desc), s.takes d ∧ s.serves 0x68 ∧ formOk d false false mA mA mB mB mB = true ∧ bulkOk d 32 32
      = true ∧ bit s.ring.bulkRun.isSome + s.ring.bulkWait.length < 2) :=
  ⟨⟨up, db 0 0 128, by unfold State.takes State.serves; decide⟩,
   ⟨up, db 7 0 64, by unfold State.takes State.serves; decide⟩,
   ⟨up, db 1 0 64, by unfold State.takes State.serves; decide⟩⟩

theorem wit_RecorderCommandsComplete :
    (∃ (s : State) (d : Desc), s.takes d ∧ s.serves 0x58 ∧ formOk d false false mA mA mA m0 m0 = true ∧
      s.log.staged.length < 64 ∧ (s.burst 15 = 0 ∨ 0 < s.log.tokens[15])) ∧
    (∃ (s : State) (d : Desc), s.takes d ∧ s.serves 0x59 ∧ formOk d false false 3 m0 mB mB mB = true ∧ bulkOk d 16 4 =
      true ∧ fld d.d3 0 2 ≠ 3 ∧ d.dmaOk = true) :=
  ⟨⟨up, {}, by unfold State.takes State.serves; decide⟩,
   ⟨up, db 1 0 16, by unfold State.takes State.serves; decide⟩⟩

theorem wit_FilterAndPowerComplete :
    (∃ (s : State) (d : Desc) (k : Fin 14), s.takes d ∧ s.serves 0x70 ∧ formOk d false false 0xFF 0xF m0 m0 m0 = true
      ∧ classPos (256 * fld d.d3 0 8) = k.val ∧ fld d.d3 0 8 ≠ 0xFF ∧ fld d.d4 0 4 ≤ 8) ∧
    (∃ (s : State) (d : Desc), s.takes d ∧ s.serves 0x70 ∧ formOk d false false 0xFF 0xF m0 m0 m0 = true ∧ fld d.d3 0
      8 = 0xFF ∧ fld d.d4 0 4 ≤ 8) ∧
    (∃ (s : State) (d : Desc), s.takes d ∧ s.serves 0x78 ∧ formOk d false false 3 m0 m0 m0 m0 = true ∧ fld d.d3 0 2 =
      0 ∧ s.glb.powerRef = none) ∧
    (∃ (s : State) (d : Desc), s.takes d ∧ s.serves 0x78 ∧ formOk d false false 3 m0 m0 m0 m0 = true ∧ fld d.d3 0 2 =
      1 ∧ s.glb.powerRef = none ∧ s.glb.sleep = false ∧ s.maySleep = true) :=
  ⟨⟨up, ds 0x78 8 0, 13, by unfold State.takes State.serves; decide⟩,
   ⟨up, ds 0xFF 0 0, by unfold State.takes State.serves; decide⟩,
   ⟨up, {}, by unfold State.takes State.serves; decide⟩,
   ⟨up, ds 1 0 0, by unfold State.takes State.serves; decide⟩⟩

theorem wit_TransactionsOpenAndClose :
    (∃ (s : State) (d : Desc), s.takes d ∧ s.serves 0x10 ∧ formOk d false true mA 3 m0 m0 m0 = true ∧ d.d4.getLsbD 1 =
      false ∧ (s.txn.st = .idle ∨ s.txn.st = .rolledBack) ∧ dTxnId d ≠ 0 ∧ dTxnId d ≠ s.txn.lastId ∧ 1 ≤ (arg24
      d.d3).toNat ∧ (arg24 d.d3).toNat ≤ 10000) ∧
    (∃ (s : State) (d : Desc), s.takes d ∧ s.serves 0x11 ∧ formOk d false true m0 m0 m0 m0 m0 = true ∧ s.txn.st =
      .opened ∧ dTxnId d = s.txn.id ∧ s.stagedCount = 0 ∧ s.glb.defaults = false) ∧
    (∃ (s : State) (d : Desc), s.takes d ∧ s.serves 0x12 ∧ formOk d false true m0 m0 m0 m0 m0 = true ∧ s.txn.st =
      .opened ∧ dTxnId d = s.txn.id ∧ s.txn.ref = none) :=
  ⟨⟨up, dt 7 10000 1, by unfold State.takes State.serves; decide⟩,
   ⟨{ up with txn.st := .opened, txn.id := 7 }, dt 7 0 0, by unfold State.takes State.serves; decide⟩,
   ⟨{ up with txn.st := .opened, txn.id := 7, txn.staged := [(0x2009, 5)] }, dt 7 0 0,
     by unfold State.takes State.serves; decide⟩⟩

theorem wit_CommitBegins :
    (∃ (s : State) (d : Desc), s.takes d ∧ s.serves 0x11 ∧ formOk d false true m0 m0 m0 m0 m0 = true ∧ s.txn.st =
      .opened ∧ dTxnId d = s.txn.id ∧ s.stagedCount ≠ 0 ∧ s.txn.force = false) :=
  ⟨{ up with txn.st := .opened, txn.id := 7, txn.staged := [(0x2009, 5)] }, dt 7 0 0,
     by unfold State.takes State.serves; decide⟩

theorem wit_ParamWriteStagesOrDefers :
    (∃ (s : State) (d : Desc), s.takes d ∧ s.serves 0x09 ∧ formOk d true false 0x1FFFF mA m0 m0 m0 = true ∧
      d.d3.getLsbD 16 = false ∧ dTxn d = false ∧ pidExists (fld d.d3 0 16) = true ∧ s.sealBars false (fld d.d3 0 16)
      [arg24 d.d4] = false ∧ s.valueBars false [] (fld d.d3 0 16) (arg24 d.d4) = none) ∧
    (∃ (s : State) (d : Desc), s.takes d ∧ s.serves 0x09 ∧ formOk d true false 0x1FFFF mA m0 m0 m0 = true ∧
      d.d3.getLsbD 16 = false ∧ dTxn d = true ∧ s.txnBars d = none ∧ pidExists (fld d.d3 0 16) = true ∧ isTablePid
      (fld d.d3 0 16) = false ∧ isIdentPid (fld d.d3 0 16) = false ∧ s.sealBars true (fld d.d3 0 16) [arg24 d.d4] =
      false ∧ s.actBars (fld d.d3 0 16) = false ∧ s.valueBars true [] (fld d.d3 0 16) (arg24 d.d4) = none ∧
      s.stagedCount < 512) :=
  ⟨⟨up, ds 0x210 24000 0, by unfold State.takes State.serves; decide⟩,
   ⟨{ up with txn.st := .opened, txn.id := 7 }, { d0 := 2, d2 := 7, d3 := 0x2009, d4 := 32 },
     by unfold State.takes State.serves; decide⟩⟩

theorem wit_TransactionEventsComplete :
    (∃ (s : State) (i : Island), s.txn.st = .preparing ∧ s.touches (islNum i) = true ∧ s.txn.voted.getLsbD (islNum i)
      = false ∧ s.canVote (islNum i) = true) ∧
    (∃ (s : State) (i : Island), (s.txn.st = .preparing ∨ s.txn.st = .waiting) ∧ s.touches (islNum i) = true ∧
      s.needsSafe (islNum i) = true ∧ s.txn.atSafe.getLsbD (islNum i) = false ∧ s.atSafePoint (islNum i) = true) ∧
    (∃ (s : State), (s.txn.st = .preparing ∨ s.txn.st = .waiting)) ∧
    (∃ (s : State), s.txn.st = .applying ∧ s.txn.imageDone = false ∧ s.txn.written = true ∧ s.logUp = true) ∧
    (∃ (s : State) (i : Island), (s.prm.due.filter (fun p => blockOwner (p.1 / 256) = islNum i)) ≠ []) :=
  ⟨⟨{ up with txn.st := .preparing, txn.staged := [(0x2009, 5)], txn.id := 7 }, .lift, by decide⟩,
   ⟨{ up with txn.st := .waiting, txn.id := 7, txn.staged := [(0x2000, 1)] }, .lift, by decide⟩,
   ⟨{ up with txn.st := .waiting, txn.staged := [(0x2009, 5)], txn.id := 7 }, by decide⟩,
   ⟨{ up with txn.st := .applying, txn.written := true, txn.staged := [(0x2009, 5)], txn.id := 7 },
     by decide⟩,
   ⟨{ up with prm.due := [(0x2009, 5)] }, .lift, by decide⟩⟩

theorem wit_StrobeAppliesAll :
    (∃ (s : State), s.txn.st = .applying ∧ s.txn.imageDone = true) :=
  ⟨{ up with txn.st := .applying, txn.imageDone := true, txn.staged := [(0x2009, 5)], txn.id := 7 },
     by decide⟩

theorem wit_ReadsWithSideEffects :
    (∃ (s : State), s.barUp = true) :=
  ⟨up, by decide⟩

theorem wit_WritesWithSideEffects :
    (∃ (s : State), s.barUp = true) :=
  ⟨up, by decide⟩

theorem wit_RegisterWriteRules :
    (∃ (s : State) (off : _), s.barUp = true ∧ off < 0xF000 ∧ off % 4 = 0 ∧ rowOffsets.contains off = false ∧
      (s.host.run = true ∨ isReg off = false ∨ off < 0x400 ∨ 0x800 ≤ off)) ∧
    (∃ (s : State), s.barUp = true ∧ s.host.run = false) :=
  ⟨⟨up, 0x444, by decide⟩,
   ⟨{ up with host.run := false }, by decide⟩⟩

theorem wit_BadAccessesAnswerUr :
    (∃ (s : State) (off : Nat), s.barUp = true ∧ inMsix off = false) ∧
    (∃ (s : State) (off : Nat) (n : Nat), s.barUp = true ∧ off % 4 = 0 ∧ (64 < n ∨ (off < 0x100 ∧ 0x100 < off + 4 * n)
      ∨ (0x1000 ≤ off ∧ off < 0x1100 ∧ 0x1100 < off + 4 * n) ∨ (0x2000 ≤ off ∧ off < 0x2400 ∧ 0x2400 < off + 4 * n) ∨
      (0x100 ≤ off ∧ off < 0x1000 ∧ 0x1000 < off + 4 * n) ∨ (0x1100 ≤ off ∧ off < 0x2000 ∧ 0x2000 < off + 4 * n))) :=
  ⟨⟨up, 0x401, by decide⟩,
   ⟨up, 0x0F0, 5, by decide⟩⟩

theorem wit_RunAndStop :
    (∃ (s : State) (ok : Bool), s.mayRun = true ∧ (s.host.link = .l0 ∨ s.host.link = .l1) ∧ s.host.d3hot = false ∧
      s.setupCode ok = 0) ∧
    (∃ (s : State) (ok : Bool), s.mayRun = true ∧ (s.host.link = .l0 ∨ s.host.link = .l1) ∧ s.host.d3hot = false ∧
      s.setupCode ok ≠ 0) ∧
    (∃ (s : State), s.barUp = true ∧ s.host.run = true ∧ s.decoderIdle = true) ∧
    (∃ (s : State), s.barUp = true ∧ s.host.run = true ∧ s.decoderIdle = false) :=
  ⟨⟨{ up with host.run := false, host.running := false, host.cmdBase := 0x1000, host.cplBase := 0x2000, host.evtBase := 0x3000, host.dbAddr := 0x4000, host.mirAddr := 0x5000 },
     true, by decide⟩,
   ⟨{ up with host.run := false, host.running := false, host.cmdBase := 0x1001 }, true, by decide⟩,
   ⟨up, by decide⟩,
   ⟨{ up with ring.block := some (.guardAck {}) }, by decide⟩⟩

theorem wit_PollTakesTheLine :
    (∃ (s : State) (l : Doorbell), s.mayPoll = true ∧ l.gen = s.host.gen ∧ (l.cmdProd - s.ring.cmdCons).toNat ≤
      s.ringEntries 0 ∧ l.sleepReq = false ∧ s.ring.beat = some l.beat ∧ s.ring.evtMissed = 0 ∧ s.ring.backlog = [] ∧
      s.ring.block = none ∧ s.host.d3Due = false ∧ s.host.pmeDue = false) ∧
    (∃ (s : State) (l : Doorbell), s.mayPoll = true ∧ l.gen ≠ s.host.gen ∧ s.decoderIdle = true) ∧
    (∃ (s : State), s.mayPoll = true ∧ s.host.dmaErrRead ≠ 0xFF) :=
  ⟨⟨{ up with ring.announced := 0, ring.beat := some 4 }, { beat := 4, cmdProd := 16 }, by decide⟩,
   ⟨{ up with ring.announced := 0 }, { gen := 1 }, by decide⟩,
   ⟨{ up with ring.announced := 0 }, by decide⟩⟩

theorem wit_RingEventsComplete :
    (∃ (s : State) (d : Desc), s.ring.block = some (.fence 0x01 d) ∧ s.ring.outstanding = [] ∧ s.ring.backlog = [] ∧
      ({ s with ring.block := none } : State).canDecode = true ∧ s.ring.sleepReq = false ∧ s.host.d3Due = false ∧
      s.host.pmeDue = false ∧ s.serves 0x01 ∧ formOk d false false m0 m0 m0 m0 m0 = true) ∧
    (∃ (s : State), s.host.running = true ∧ s.cplFree = 0 ∧ s.ring.stalled = false) ∧
    (∃ (s : State) (j : BulkJob) (rest : List BulkJob), s.ring.bulkWait = j :: rest ∧ s.ring.bulkRun = none ∧ s.hostUp
      = true ∧ s.dmaOpen = true ∧ j.ref.op ≠ 0x5B) ∧
    (∃ (s : State) (j : BulkJob) (ws : List W32) (r : W24), s.ring.bulkRun = some (j, ws, r) ∧ s.hostUp = true ∧
      s.dmaOpen = true ∧ j.ref ∈ s.ring.outstanding) ∧
    (∃ (s : State) (k : DmaStruct), s.host.running = true ∧ s.host.run = true ∧ s.hostUp = true ∧ s.dmaOpen = true ∧
      s.decoderIdle = true ∧ s.host.dmaErrWrite ≠ 0xFF ∧ (k = .completion ∨ k = .event ∨ k = .mirror)) ∧
    (∃ (s : State), s.host.running = true ∧ s.hostUp = true ∧ s.dmaOpen = true ∧ s.host.dmaErrRead ≠ 0xFF) ∧
    (∃ (s : State), s.host.run = true ∧ s.mirrorOpen = true ∧ s.mirrorTime = s.now) ∧
    (∃ (s : State), s.ring.modEvt = true ∧ s.ring.heldEvt = false ∧ s.ring.irqDue = []) ∧
    (∃ (s : State), s.ring.modCpl = true ∧ s.ring.heldCpl = true ∧ s.irqOpen = true ∧ s.host.cfg.msix = false ∧
      s.host.cfg.msiMask.getLsbD (s.vector 0) = false ∧ s.ring.irqDue = [] ∧ s.mirrorTime = s.now) :=
  ⟨⟨{ up with ring.block := some (.fence 0x01 {}) }, {}, by unfold State.serves; decide⟩,
   ⟨{ up with ring.cplProd := 16 }, by decide⟩,
   ⟨{ up with ring.bulkWait := [⟨rf, 0x1000, 128, 0⟩] }, ⟨rf, 0x1000, 128, 0⟩, [], by decide⟩,
   ⟨{ up with ring.bulkRun := some (⟨rf, 0x1000, 128, 0⟩, [], 0), ring.outstanding := [rf] },
     ⟨rf, 0x1000, 128, 0⟩, [], 0, by decide⟩,
   ⟨up, .mirror, by decide⟩,
   ⟨up, by decide⟩,
   ⟨up, by decide⟩,
   ⟨{ up with ring.modEvt := true }, by decide⟩,
   ⟨{ up with ring.modCpl := true, ring.heldCpl := true, host.cfg.msi := true }, by decide⟩⟩

theorem wit_HostSilenceActs :
    (∃ (s : State), s.guardUp = true ∧ s.sil.armed = true ∧ s.sil.active = false ∧ s.sil.suspended = false) :=
  ⟨up, by decide⟩

theorem wit_LinkEventsComplete :
    (∃ (s : State), s.land.perstN = true) ∧
    (∃ (s : State), s.land.perstN = false) ∧
    (∃ (s : State), s.cfgUp = true) ∧
    (∃ (s : State), s.clk.refclk = true ∧ s.isl 0 ≠ .off) ∧
    (∃ (s : State), s.clk.refclk = false) ∧
    (∃ (s : State), s.cfgUp = true ∧ s.ring.backlog = [] ∧ s.host.d3Due = false ∧ s.host.pmeDue = false ∧
      s.host.stopping = false) ∧
    (∃ (s : State), s.cfgUp = true ∧ s.host.d3hot = false ∧ s.decoderIdle = true ∧ s.host.pmeDue = false) ∧
    (∃ (s : State), s.cfgUp = true ∧ s.host.d3hot = true ∧ s.host.d3Due = false ∧ s.ring.backlog = [] ∧ s.host.pmeDue
      = false ∧ s.host.stopping = false) ∧
    (∃ (s : State), (s.host.link = .l0 ∨ s.host.link = .l1) ∧ s.decoderIdle = true ∧ s.host.d3Due = false) ∧
    (∃ (s : State), s.isl 0 ≠ .off ∧ s.hostAllowed = true ∧ s.host.link ≠ .l23 ∧ s.sup.level.val < 4 ∧ s.host.d3hot =
      false ∧ s.ring.backlog = [] ∧ s.host.d3Due = false ∧ s.host.pmeDue = false ∧ s.host.stopping = false) ∧
    (∃ (s : State), s.cfgSeen = true ∧ s.host.ready = false) ∧
    (∃ (s : State), s.host.link ≠ .down) :=
  ⟨⟨up, by decide⟩,
   ⟨{ up with land.perstN := false }, by decide⟩,
   ⟨up, by decide⟩,
   ⟨up, by decide⟩,
   ⟨{ up with clk.refclk := false }, by decide⟩,
   ⟨up, by decide⟩,
   ⟨up, by decide⟩,
   ⟨{ up with host.d3hot := true }, by decide⟩,
   ⟨up, by decide⟩,
   ⟨{ up with host.link := .down }, by decide⟩,
   ⟨{ up with host.ready := false }, by decide⟩,
   ⟨up, by decide⟩⟩

theorem wit_LiftCommandsComplete :
    (∃ (s : State) (d : Desc), s.takes d ∧ s.serves 0x20 ∧ s.liftEn = true ∧ formOk d false false 0x13F mA m0 m0 m0 =
      true ∧ fld d.d3 0 4 < 12 ∧ (arg24 d.d4).toNat ≤ 600000 ∧ s.ldgEn (fld d.d3 0 4) = true ∧ (s.pv (ldgP (fld d.d3 0
      4) 7)).getLsbD (fld d.d3 4 2) = true ∧ (d.d3.getLsbD 8 = true → s.ldgDoor (fld d.d3 0 4) ≠ 0) ∧ s.lift.st ≠
      .notHomed ∧ s.lift.st ≠ .fault ∧ s.glb.sleep = false ∧ s.lift.calls.find? (fun c => c.landing.val = fld d.d3 0
      4) = none ∧ s.lift.calls.length < 16) ∧
    (∃ (s : State) (d : Desc), s.takes d ∧ s.serves 0x20 ∧ s.liftEn = true ∧ formOk d false false 0x13F mA m0 m0 m0 =
      true ∧ fld d.d3 0 4 < 12 ∧ (arg24 d.d4).toNat ≤ 600000 ∧ s.ldgEn (fld d.d3 0 4) = true ∧ (s.pv (ldgP (fld d.d3 0
      4) 7)).getLsbD (fld d.d3 4 2) = true ∧ (d.d3.getLsbD 8 = true → s.ldgDoor (fld d.d3 0 4) ≠ 0) ∧ s.lift.st ≠
      .notHomed ∧ s.lift.st ≠ .fault ∧ s.glb.sleep = false ∧ s.lift.calls.find? (fun c => c.landing.val = fld d.d3 0
      4) ≠ none) ∧
    (∃ (s : State) (d : Desc), s.takes d ∧ s.serves 0x21 ∧ s.liftEn = true ∧ formOk d false false 0xF m0 m0 m0 m0 =
      true ∧ (fld d.d3 0 4 < 12 ∨ fld d.d3 0 4 = 15) ∧ (∀ c ∈ s.lift.calls, c.dispatched = true → c.landing.val ≠ fld
      d.d3 0 4)) ∧
    (∃ (s : State) (d : Desc), s.takes d ∧ s.serves 0x22 ∧ s.liftEn = true ∧ formOk d false false m0 m0 m0 m0 m0 =
      true ∧ s.glb.sleep = false ∧ (s.lift.st = .idle ∨ s.lift.st = .notHomed ∨ s.lift.st = .hold) ∧ s.lift.homeRef =
      none ∧ s.heldAtSafe 2 = false ∧ s.axisHeld 0 = false ∧ s.permit 0 = true ∧ s.permit 16 = true ∧ (s.axis 0).st ≠
      .fault) ∧
    (∃ (s : State) (d : Desc), s.takes d ∧ s.serves 0x23 ∧ s.liftEn = true ∧ formOk d false false m0 m0 m0 m0 m0 =
      true ∧ s.lift.st = .idle ∧ s.heldAtSafe 2 = false) ∧
    (∃ (s : State) (d : Desc), s.takes d ∧ s.serves 0x23 ∧ s.liftEn = true ∧ formOk d false false m0 m0 m0 m0 m0 =
      true ∧ (s.lift.st = .run ∨ s.lift.st = .approach ∨ s.lift.st = .level ∨ s.lift.st = .dispatch ∨ s.lift.st =
      .doorCycle)) ∧
    (∃ (s : State) (d : Desc), s.takes d ∧ s.serves 0x24 ∧ s.liftEn = true ∧ formOk d false false m0 m0 m0 m0 m0 =
      true ∧ s.lift.st = .hold ∧ s.holdPersists = false) ∧
    (∃ (s : State) (d : Desc), s.takes d ∧ s.serves 0x24 ∧ s.liftEn = true ∧ formOk d false false m0 m0 m0 m0 m0 =
      true ∧ (s.lift.st ≠ .hold ∨ s.holdPersists = true)) :=
  ⟨⟨{ upP [(0x2000, 1), (ldgP 2 8, 1), (ldgP 2 0, 5000)] with lift.st := .idle }, ds 0x32 600000 0,
     by unfold State.takes State.serves; decide⟩,
   ⟨{ upP [(0x2000, 1), (ldgP 2 8, 1), (ldgP 2 0, 5000)] with lift.st := .idle, lift.calls := [cl] },
     ds 2 0 0, by unfold State.takes State.serves; decide⟩,
   ⟨{ upP [(0x2000, 1), (ldgP 2 8, 1), (ldgP 2 0, 5000)] with lift.st := .idle, lift.calls := [cl] },
     ds 15 0 0, by unfold State.takes State.serves; decide⟩,
   ⟨upP [(0x2000, 1)], {}, by unfold State.takes State.serves; decide⟩,
   ⟨{ upP [(0x2000, 1)] with lift.st := .idle }, {}, by unfold State.takes State.serves; decide⟩,
   ⟨{ upP [(0x2000, 1), (ldgP 2 8, 1), (ldgP 2 0, 5000)] with lift.st := .doorCycle }, {},
     by unfold State.takes State.serves; decide⟩,
   ⟨{ upP [(0x2000, 1), (ldgP 2 8, 1), (ldgP 2 0, 5000)] with lift.st := .hold }, {},
     by unfold State.takes State.serves; decide⟩,
   ⟨{ upP [(0x2000, 1), (ldgP 2 8, 1), (ldgP 2 0, 5000)] with lift.st := .idle }, {},
     by unfold State.takes State.serves; decide⟩⟩

theorem wit_DoorCommandsComplete :
    (∃ (s : State) (d : Desc), s.takes d ∧ s.serves 0x28 ∧ formOk d false false 1 mA m0 m0 m0 = true ∧ (arg24
      d.d4).toNat ≤ 600000 ∧ s.drEn (fld d.d3 0 1) = true ∧ (s.dr (fld d.d3 0 1)).cycle = false ∧ s.glb.sleep = false
      ∧ s.heldAtSafe 2 = false ∧ s.axisHeld (fld d.d3 0 1 + 1) = false ∧ s.drPermit (fld d.d3 0 1) = true ∧ (s.dr (fld
      d.d3 0 1)).st = .closedLocked) ∧
    (∃ (s : State) (d : Desc), s.takes d ∧ s.serves 0x28 ∧ formOk d false false 1 mA m0 m0 m0 = true ∧ (arg24
      d.d4).toNat ≤ 600000 ∧ s.drEn (fld d.d3 0 1) = true ∧ (s.dr (fld d.d3 0 1)).cycle = false ∧ s.glb.sleep = false
      ∧ s.heldAtSafe 2 = false ∧ s.axisHeld (fld d.d3 0 1 + 1) = false ∧ s.drPermit (fld d.d3 0 1) = true ∧ (s.dr (fld
      d.d3 0 1)).st = .opened) ∧
    (∃ (s : State) (d : Desc), s.takes d ∧ s.serves 0x29 ∧ formOk d false false 1 m0 m0 m0 m0 = true ∧ s.drEn (fld
      d.d3 0 1) = true ∧ (s.dr (fld d.d3 0 1)).cycle = false ∧ s.glb.sleep = false ∧ (s.dr (fld d.d3 0 1)).st =
      .opened ∧ s.heldAtSafe 2 = false ∧ s.axisHeld (fld d.d3 0 1 + 1) = false) ∧
    (∃ (s : State) (d : Desc), s.takes d ∧ s.serves 0x29 ∧ formOk d false false 1 m0 m0 m0 m0 = true ∧ s.drEn (fld
      d.d3 0 1) = true ∧ (s.dr (fld d.d3 0 1)).cycle = false ∧ s.glb.sleep = false ∧ (s.dr (fld d.d3 0 1)).st =
      .closedLocked) ∧
    (∃ (s : State) (d : Desc), s.takes d ∧ s.serves 0x2A ∧ formOk d false false 1 mA m0 m0 m0 = true ∧ s.drEn (fld
      d.d3 0 1) = true ∧ (s.dr (fld d.d3 0 1)).cycle = false ∧ (s.dr (fld d.d3 0 1)).st = .opened) :=
  ⟨⟨{ upP [(drP 1 0, 1)] with door := up.door.set 1 { st := .closedLocked, judged := true } }, ds 1
     600000 0, by unfold State.takes State.serves; decide⟩,
   ⟨{ upP [(drP 1 0, 1)] with door := up.door.set 1 { st := .opened, judged := true } }, ds 1 0 0,
     by unfold State.takes State.serves; decide⟩,
   ⟨{ upP [(drP 1 0, 1)] with door := up.door.set 1 { st := .opened, judged := true } }, ds 1 0 0,
     by unfold State.takes State.serves; decide⟩,
   ⟨{ upP [(drP 1 0, 1)] with door := up.door.set 1 { st := .closedLocked, judged := true } }, ds 1
     0 0, by unfold State.takes State.serves; decide⟩,
   ⟨{ upP [(drP 1 0, 1)] with door := up.door.set 1 { st := .opened, judged := true } }, ds 1
     0xFFFFFF 0, by unfold State.takes State.serves; decide⟩⟩

theorem wit_AxisMotionCommandsComplete :
    (∃ (s : State) (d : Desc), s.takes d ∧ s.serves 0x30 ∧ formOk d false false 0xF mA mA mA mA = true ∧ axNum d < 5 ∧
      s.speedOk (axNum d) (arg24 d.d5).toNat = true ∧ s.owner (axNum d) = 0 ∧ (s.axis (axNum d)).homed = true ∧
      s.glb.sleep = false ∧ s.axisHeld (axNum d) = false ∧ s.permit (axPermit (axNum d)) = true ∧ s.limitBars (axNum
      d) (absMove (axNum d) d s).dir = false ∧ (s.axis (axNum d)).st = .standstill) ∧
    (∃ (s : State) (d : Desc), s.takes d ∧ s.serves 0x30 ∧ formOk d false false 0xF mA mA mA mA = true ∧ axNum d < 5 ∧
      s.speedOk (axNum d) (arg24 d.d5).toNat = true ∧ s.owner (axNum d) = 0 ∧ (s.axis (axNum d)).homed = true ∧
      s.glb.sleep = false ∧ s.axisHeld (axNum d) = false ∧ s.permit (axPermit (axNum d)) = true ∧ s.limitBars (axNum
      d) (absMove (axNum d) d s).dir = false ∧ (s.axis (axNum d)).st = .idleOff ∧ s.encOn (axNum d) = true) ∧
    (∃ (s : State) (d : Desc), s.takes d ∧ s.serves 0x31 ∧ formOk d false false 0x10F mA mA m0 m0 = true ∧ axNum d < 5
      ∧ s.speedOk (axNum d) (arg24 d.d4).toNat = true ∧ s.owner (axNum d) = 0 ∧ (s.axis (axNum d)).st = .standstill ∧
      s.glb.sleep = false ∧ s.axisHeld (axNum d) = false ∧ s.permit (axPermit (axNum d)) = true ∧ s.limitBars (axNum
      d) (velMove (axNum d) d s).dir = false) ∧
    (∃ (s : State) (d : Desc), s.takes d ∧ s.serves 0x32 ∧ formOk d false false 0xF mA mA m0 m0 = true ∧ axNum d < 5 ∧
      s.speedOk (axNum d) (arg24 d.d4).toNat = true ∧ s.owner (axNum d) = 0 ∧ (s.axis (axNum d)).retune (arg24
      d.d4).toNat (arg24 d.d5).toNat = none) ∧
    (∃ (s : State) (d : Desc) (y : _), s.takes d ∧ s.serves 0x32 ∧ formOk d false false 0xF mA mA m0 m0 = true ∧ axNum
      d < 5 ∧ s.speedOk (axNum d) (arg24 d.d4).toNat = true ∧ s.owner (axNum d) = 0 ∧ (s.axis (axNum d)).retune (arg24
      d.d4).toNat (arg24 d.d5).toNat = some y) ∧
    (∃ (s : State) (d : Desc), s.takes d ∧ s.serves 0x34 ∧ formOk d false false 0xF mA m0 m0 m0 = true ∧ axNum d < 5 ∧
      s.speedOk (axNum d) (arg24 d.d4).toNat = true ∧ s.owner (axNum d) = 0 ∧ (s.axis (axNum d)).st = .standstill ∧
      (s.axis (axNum d)).moves = false ∧ s.glb.sleep = false ∧ s.axisHeld (axNum d) = false ∧ s.permit (axPermit
      (axNum d)) = true ∧ s.limitBars (axNum d) (homeMove (axNum d) d s).dir = false) ∧
    (∃ (s : State) (d : Desc), s.takes d ∧ s.serves 0x35 ∧ formOk d false false 0x1FF mA mA mA m0 = true ∧ axNum d < 5
      ∧ d.d3.getLsbD 8 = false ∧ fld d.d3 4 4 < 6 ∧ fld d.d3 4 4 ≠ axNum d ∧ s.gearLoops (axNum d) 6 (fld d.d3 4 4) =
      false ∧ s.owner (axNum d) = 0 ∧ (s.axis (axNum d)).st = .standstill ∧ (s.axis (axNum d)).moves = false ∧ (s.axis
      (axNum d)).verifying = false ∧ (s.axis (axNum d)).homed = true ∧ (fld d.d3 4 4 < 5 → (s.axis (fld d.d3 4
      4)).homed = true) ∧ s.glb.sleep = false ∧ s.axisHeld (axNum d) = false ∧ (fld d.d3 4 4 = 5 → s.encmHeld = false)
      ∧ s.permit (axPermit (axNum d)) = true) :=
  ⟨⟨up, ds 4 1000 100, by unfold State.takes State.serves; decide⟩,
   ⟨{ upP [(axP 4 0x18, 1)] with mot.ax := up.mot.ax.set 4 { st := .idleOff, homed := true } }, ds
     4 1000 100, by unfold State.takes State.serves; decide⟩,
   ⟨up, ds 0x104 100 0, by unfold State.takes State.serves; decide⟩,
   ⟨up, ds 4 100 0, by unfold State.takes State.serves; decide⟩,
   ⟨moving4, ds 4 100 0, ((moving4.axis 4).retune 100 0).getD {}, by unfold State.takes State.serves; decide⟩,
   ⟨up, ds 4 100 0, by unfold State.takes State.serves; decide⟩,
   ⟨up, ds 0x34 1024 0, by unfold State.takes State.serves; decide⟩⟩

theorem wit_AxisStopAndPowerComplete :
    (∃ (s : State) (d : Desc), s.takes d ∧ s.serves 0x33 ∧ formOk d false false 0x10F m0 m0 m0 m0 = true ∧ axNum d < 5
      ∧ s.owner (axNum d) = 0 ∧ (s.axis (axNum d)).moves = true) ∧
    (∃ (s : State) (d : Desc), s.takes d ∧ s.serves 0x33 ∧ formOk d false false 0x10F m0 m0 m0 m0 = true ∧ axNum d < 5
      ∧ s.owner (axNum d) = 0 ∧ (s.axis (axNum d)).moves = false ∧ (s.axis (axNum d)).st = .external ∧ (s.axis (axNum
      d)).stage = true ∧ s.standState (axNum d) = .external ∧ (s.axis (axNum d)).after = none) ∧
    (∃ (s : State) (d : Desc), s.takes d ∧ s.serves 0x36 ∧ formOk d false false 0x10F m0 m0 m0 m0 = true ∧ axNum d < 5
      ∧ s.owner (axNum d) = 0 ∧ (s.axis (axNum d)).moves = false ∧ d.d3.getLsbD 8 = true ∧ s.effLevel < 3 ∧
      s.glb.sleep = false ∧ s.linesOn = true ∧ (s.axis (axNum d)).st = .off ∧ (s.axis (axNum d)).stage = false ∧
      s.encOn (axNum d) = false) ∧
    (∃ (s : State) (d : Desc), s.takes d ∧ s.serves 0x36 ∧ formOk d false false 0x10F m0 m0 m0 m0 = true ∧ axNum d < 5
      ∧ s.owner (axNum d) = 0 ∧ (s.axis (axNum d)).moves = false ∧ d.d3.getLsbD 8 = false) :=
  ⟨⟨{ up with mot.ax := up.mot.ax.set 4 { st := .moving, homed := true, stage := true, move := some mv } },
     ds 0x104 0 0, by unfold State.takes State.serves; decide⟩,
   ⟨{ upP [(axP 4 0x30, 1)] with mot.ax := up.mot.ax.set 4 { st := .external, stage := true } }, ds
     4 0 0, by unfold State.takes State.serves; decide⟩,
   ⟨{ up with mot.ax := up.mot.ax.set 4 { st := .off } }, ds 0x104 0 0,
     by unfold State.takes State.serves; decide⟩,
   ⟨up, ds 4 0 0, by unfold State.takes State.serves; decide⟩⟩

theorem wit_SetPosKeepsTheIndex :
    (∃ (s : State) (d : Desc), s.takes d ∧ s.serves 0x37 ∧ formOk d false false 0xF mA m0 m0 m0 = true ∧ axNum d < 5 ∧
      s.owner (axNum d) = 0 ∧ (s.axis (axNum d)).moves = false ∧ (s.axis (axNum d)).verifying = false) :=
  ⟨up, ds 4 0xFFFFFF 0, by unfold State.takes State.serves; decide⟩

theorem wit_GrinderCommandsComplete :
    (∃ (s : State) (d : Desc), s.takes d ∧ s.serves 0x40 ∧ formOk d false false mA mA 1 m0 m0 = true ∧ (arg24
      d.d4).toNat ≠ 0 ∧ ((arg24 d.d3).toNat = 0 ∨ (s.pn 0x2814 ≤ (arg24 d.d3).toNat ∧ (arg24 d.d3).toNat ≤ s.pn
      0x2818)) ∧ s.glb.sleep = false ∧ s.permit 3 = true ∧ s.grind.st = .stopped ∧ s.grind.precharge = none ∧
      s.heldAtSafe 3 = false) ∧
    (∃ (s : State) (d : Desc), s.takes d ∧ s.serves 0x40 ∧ formOk d false false mA mA 1 m0 m0 = true ∧ (arg24
      d.d4).toNat ≠ 0 ∧ ((arg24 d.d3).toNat = 0 ∨ (s.pn 0x2814 ≤ (arg24 d.d3).toNat ∧ (arg24 d.d3).toNat ≤ s.pn
      0x2818)) ∧ s.glb.sleep = false ∧ s.permit 3 = true ∧ s.grind.st = .run ∧ d.d5.getLsbD 0 = s.grind.revs ∧
      s.grind.count < (arg24 d.d4).toNat) ∧
    (∃ (s : State) (d : Desc), s.takes d ∧ s.serves 0x41 ∧ formOk d false false 1 m0 m0 m0 m0 = true ∧
      s.grind.precharge = none ∧ s.grind.st = .run) ∧
    (∃ (s : State) (d : Desc), s.takes d ∧ s.serves 0x41 ∧ formOk d false false 1 m0 m0 m0 m0 = true ∧
      s.grind.precharge = none ∧ s.grind.st = .stopped) :=
  ⟨⟨up, ds 3000 1 1, by unfold State.takes State.serves; decide⟩,
   ⟨{ up with grind.st := .run }, ds 0 1 0, by unfold State.takes State.serves; decide⟩,
   ⟨{ up with grind.st := .run }, ds 1 0 0, by unfold State.takes State.serves; decide⟩,
   ⟨up, {}, by unfold State.takes State.serves; decide⟩⟩

theorem wit_FieldCommandsComplete :
    (∃ (s : State) (d : Desc), s.takes d ∧ s.serves 0x48 ∧ formOk d false false mA mA 0xFFFF m0 m0 = true ∧ (arg24
      d.d3).extractLsb' 0 8 = 0#8 ∧ (∀ c ∈ chansOf (fieldMask d), s.func c = 3 ∧ s.lifted c = false) ∧ s.awn.stale =
      false ∧ (fieldMask d &&& fieldVals d ≠ 0#24 → s.glb.sleep = false ∧ s.effLevel < 3) ∧ (∀ c ∈ chansOf (fieldMask
      d &&& fieldVals d), s.outGranted c = true) ∧ (∀ b : Fin 2, s.overlap b = 2 → s.conflicts b (fieldMask d &&&
      fieldVals d) = false)) ∧
    (∃ (s : State) (d : Desc), s.takes d ∧ s.serves 0x49 ∧ formOk d false false 0x1F mA m0 m0 m0 = true ∧ 8 ≤ fld d.d3
      0 5 ∧ s.func (fld d.d3 0 5) = 3 ∧ 1 ≤ (arg24 d.d4).toNat ∧ (arg24 d.d4).toNat ≤ 8388607 ∧ s.awn.stale = false ∧
      s.lifted (fld d.d3 0 5) = false ∧ s.glb.sleep = false ∧ s.effLevel < 3 ∧ s.outGranted (fld d.d3 0 5) = true ∧ (∀
      b, bankOf (fld d.d3 0 5) = some b → s.overlap b = 2 → s.conflicts b (chBit (fld d.d3 0 5)) = false)) ∧
    (∃ (s : State) (d : Desc) (k : Fin 8), s.takes d ∧ s.serves 0x4C ∧ formOk d false false 0x1F m0 m0 m0 m0 = true ∧
      ctrIdx (fld d.d3 0 5) = some k ∧ s.awn.stale = false) :=
  ⟨⟨upP [(fldP 8 0, 3)], ds 0x100 0x100 0x8080, by unfold State.takes State.serves; decide⟩,
   ⟨upP [(fldP 31 0, 3)], ds 31 8388607 0, by unfold State.takes State.serves; decide⟩,
   ⟨up, ds 11 0 0, 7, by unfold State.takes State.serves; decide⟩⟩

theorem wit_GuardAckIsJudgedAtThePass :
    (∃ (s : State) (d : Desc), s.takes d ∧ s.serves 0x50 ∧ formOk d false false m0 m0 m0 m0 m0 = true ∧ s.heldAtSafe 4
      = false) ∧
    (∃ (s : State) (d : Desc), s.takes d ∧ s.serves 0x50 ∧ formOk d false false m0 m0 m0 m0 m0 = true ∧ s.heldAtSafe 4
      = true) ∧
    (∃ (s : State) (d : Desc), s.guardUp = true ∧ s.calm ∧ s.dbg.haltWait = 0 ∧ s.latticeCopy = s.grd.copyB ∧
      s.ring.block = some (.guardAck d) ∧ s.host.running = true ∧ s.dmaOpen = true ∧ s.grd.st = .lockout ∧ s.ackFails
      ≠ 0) ∧
    (∃ (s : State) (d : Desc), s.guardUp = true ∧ s.calm ∧ s.dbg.haltWait = 0 ∧ s.latticeCopy = s.grd.copyB ∧
      s.ring.block = some (.guardAck d) ∧ s.host.running = true ∧ s.dmaOpen = true ∧ s.grd.st = .lockout ∧ s.ackFails
      = 0 ∧ s.ruleFails &&& s.rulesWhere (fun r => s.ruleAct r = 2) = 0#32) ∧
    (∃ (s : State) (d : Desc), s.guardUp = true ∧ s.calm ∧ s.dbg.haltWait = 0 ∧ s.latticeCopy = s.grd.copyB ∧
      s.ring.block = some (.guardAck d) ∧ s.host.running = true ∧ s.dmaOpen = true ∧ s.grd.st = .lockout ∧ s.ackFails
      = 0 ∧ s.ruleFails &&& s.rulesWhere (fun r => s.ruleAct r = 2) ≠ 0#32) ∧
    (∃ (s : State) (d : Desc), s.guardUp = true ∧ s.calm ∧ s.dbg.haltWait = 0 ∧ s.latticeCopy = s.grd.copyB ∧
      s.ring.block = some (.guardAck d) ∧ s.host.running = true ∧ s.dmaOpen = true ∧ (s.grd.st = .run ∨ s.grd.st =
      .restrict) ∧ (judgeRules s).tripRule = false) ∧
    (∃ (s : State) (d : Desc), s.guardUp = true ∧ s.calm ∧ s.dbg.haltWait = 0 ∧ s.latticeCopy = s.grd.copyB ∧
      s.ring.block = some (.guardAck d) ∧ s.host.running = true ∧ s.dmaOpen = true ∧ (s.grd.st = .safeStop ∨ s.grd.st
      = .trip)) ∧
    (∃ (s : State) (d : Desc), s.takes d ∧ s.serves 0x50 ∧ formOk d false false m0 m0 m0 m0 m0 = true ∧ s.heldAtSafe 4
      = false ∧ s.guardUp = true ∧ s.dbg.haltWait = 0 ∧ s.latticeCopy = s.grd.copyB ∧ s.grd.st = .lockout ∧ s.ackFails
      = 0 ∧ s.ruleFails &&& s.rulesWhere (fun r => s.ruleAct r = 2) = 0#32) :=
  ⟨⟨up, {}, by unfold State.takes State.serves; decide⟩,
   ⟨{ up with txn.st := .waiting, txn.id := 7, txn.staged := [(0x3800, 1)], txn.atSafe := 16 }, {},
     by unfold State.takes State.serves; decide⟩,
   ⟨{ up with grd.st := .lockout, ring.block := some (.guardAck {}), grd.stopLatch := true }, {},
     by unfold State.calm; decide⟩,
   ⟨{ up with grd.st := .lockout, ring.block := some (.guardAck {}) }, {}, by unfold State.calm; decide⟩,
   ⟨{ tripping with grd.st := .lockout, ring.block := some (.guardAck {}) }, {},
     by unfold State.calm; decide⟩,
   ⟨{ up with ring.block := some (.guardAck {}) }, {}, by unfold State.calm; decide⟩,
   ⟨{ up with grd.st := .trip, ring.block := some (.guardAck {}) }, {}, by unfold State.calm; decide⟩,
   ⟨{ up with grd.st := .lockout }, {}, by unfold State.takes State.serves; decide⟩⟩

theorem wit_FirmwareCommandsComplete :
    (∃ (s : State) (d : Desc) (i : FwIsland), s.takes d ∧ s.serves 0x60 ∧ formOk d false false 0x10F mA mB mB mB =
      true ∧ bulkOk d 256 256 = true ∧ fwOfNum (fld d.d3 0 4) = some i ∧ (arg24 d.d4).toNat + bulkLen d / 256 ≤
      slotUnits i ∧ s.fw.stage = none ∧ ((arg24 d.d4).toNat = 0 ∨ (∀ k < bulkLen d / 256, (s.unitsDue i).contains
      ((arg24 d.d4).toNat + k) = false)) ∧ d.dmaOk = true) ∧
    (∃ (s : State) (d : Desc) (i : FwIsland), s.takes d ∧ s.serves 0x61 ∧ formOk d false false 0xF m0 m0 m0 m0 = true
      ∧ fwOfNum (fld d.d3 0 4) = some i ∧ (s.slots (fwIdx i)).spare.verified = true ∧ s.isl (fwNum i) ≠ .recovery ∧
      s.badPeer (fwIdx i) (s.slots (fwIdx i)).spare = none ∧ s.fw.act = none ∧ ¬(s.txn.st = .opened ∧ s.touches (fwNum
      i) = true)) ∧
    (∃ (s : State) (d : Desc) (i : FwIsland), s.takes d ∧ s.serves 0x61 ∧ formOk d false false 0xF m0 m0 m0 m0 = true
      ∧ fwOfNum (fld d.d3 0 4) = some i ∧ (s.slots (fwIdx i)).spare.verified = true ∧ s.isl (fwNum i) = .recovery ∧
      s.fw.act = none ∧ ¬(s.txn.st = .opened ∧ s.touches (fwNum i) = true) ∧ (∀ j < 4, s.isl j ≠ .held)) :=
  ⟨⟨up, db 0x102 1535 256, .lift, by unfold State.takes State.serves; decide⟩,
   ⟨spared, ds 3 0 0, .grind, by unfold State.takes State.serves; decide⟩,
   ⟨{ spared with glb.isl := up.glb.isl.set 3 .recovery }, ds 3 0 0, .grind,
     by unfold State.takes State.serves; decide⟩⟩

theorem wit_FramesCross :
    (∃ (s : State), s.isl 6 = .run ∧ s.awn.mode ≠ .sleep ∧ s.calm) ∧
    (∃ (s : State), s.fieldUp = true ∧ s.husk.mode ≠ .sleep) ∧
    (∃ (s : State) (l : List W24) (noise : List W24) (p : Nat) (h : HFrame), s.isl 6 = .run ∧ s.awn.mode ≠ .sleep ∧
      s.calm ∧ s.awn.hAir = some l ∧ decodeH (noisy l noise) = some h ∧ (s.awn.exempt = true ∨ inPeriod p = true) ∧
      h.kind = 0x5#4 ∧ h.configured = 1#1 ∧ s.awn.stale = false) ∧
    (∃ (s : State) (l : List W24) (noise : List W24) (p : Nat), s.isl 6 = .run ∧ s.awn.mode ≠ .sleep ∧ s.calm ∧
      s.ring.block = none ∧ s.glb.step ≠ 5 ∧ s.awn.huskHot = s.sup.shutdown.getLsbD 2 ∧ s.sup.prewarn.getLsbD 2 =
      decide (2160 ≤ (vget s.sup.temp 2 0x800000).int) ∧ s.awn.hAir = some l ∧ (decodeH (noisy l noise) = none ∨
      (s.awn.exempt = false ∧ inPeriod p = false)) ∧ s.awn.badRun = false) :=
  ⟨⟨up, by unfold State.calm; decide⟩,
   ⟨up, by decide⟩,
   ⟨{ up with awn.hAir := some (encodeH hf) }, encodeH hf, [], 31250, hf,
     by unfold State.calm; decide +kernel⟩,
   ⟨{ up with awn.hAir := some (encodeH hf), awn.exempt := false }, encodeH hf, [], 32813,
     by unfold State.calm; decide +kernel⟩⟩

theorem wit_SilenceAndStale :
    (∃ (s : State), s.fieldUp = true ∧ s.husk.mode ≠ .sleep ∧ s.husk.missing ≠ 2) ∧
    (∃ (s : State), s.fieldUp = true ∧ s.husk.mode ≠ .sleep ∧ s.husk.missing = 2 ∧ s.fastMask &&& s.outputs ≠ 0#24) ∧
    (∃ (s : State), s.fieldUp = true ∧ s.husk.mode ≠ .sleep ∧ s.husk.missing ≠ 0 ∧ ~~~s.fastMask &&& s.outputs ≠ 0#24) ∧
    (∃ (s : State), s.awn.hears = true ∧ s.awn.stale = false ∧ s.awn.mode ≠ .sleep) ∧
    (∃ (s : State), s.fieldUp = true) :=
  ⟨⟨up, by decide⟩,
   ⟨{ upH [(fldP 8 0, 3)] with husk.missing := 2 }, by decide⟩,
   ⟨{ upH [(fldP 8 0, 3), (fldP 8 3, 0)] with husk.missing := 1 }, by decide +kernel⟩,
   ⟨up, by decide⟩,
   ⟨up, by decide⟩⟩

theorem wit_FieldChannelEvents :
    (∃ (s : State) (ch : Fin 16), s.fieldUp = true ∧ (s.hv (fldP ch.val 0) = 1 ∨ s.hv (fldP ch.val 0) = 2)) ∧
    (∃ (s : State) (ch : Fin 16) (b : Bool), s.fieldUp = true ∧ (s.hv (fldP ch.val 0) = 1 ∨ s.hv (fldP ch.val 0) = 2)
      ∧ s.hv (fldP ch.val 2) = 1 ∧ s.husk.wb.getLsbD ch.val ≠ b) ∧
    (∃ (s : State) (ch : Fin 32) (kind : Nat), s.fieldUp = true ∧ 8 ≤ ch.val ∧ s.husk.out.getLsbD (ch.val - 8) = true
      ∧ 1 ≤ kind ∧ kind ≤ 3) ∧
    (∃ (s : State) (ch : Fin 32) (o : Bool), s.fieldUp = true ∧ 8 ≤ ch.val ∧ s.husk.out.getLsbD (ch.val - 8) = true ∧
      s.hv (fldP ch.val 2) = 1 ∧ s.husk.openLoad.getLsbD (ch.val - 8) ≠ o) ∧
    (∃ (s : State) (b : Fin 2), s.husk.rising.getLsbD b.val = true) ∧
    (∃ (s : State) (b : Fin 2), s.husk.bankOn.getLsbD b.val = true) ∧
    (∃ (s : State) (b : Fin 2), s.husk.bankOn.getLsbD b.val = true ∧ s.husk.out &&& bankMask b ≠ 0#24) ∧
    (∃ (s : State) (ch : Fin 32), 24 ≤ ch.val ∧ s.husk.clamping.getLsbD (ch.val - 8) = true) ∧
    (∃ (s : State) (b : Fin 2), s.husk.closing.getLsbD b.val = true ∧ s.husk.clamping &&& bankMask b ≠ 0#24) ∧
    (∃ (s : State) (ch : Fin 32), 8 ≤ ch.val ∧ s.husk.pulsing.getLsbD (ch.val - 8) = true ∧ s.husk.riseFor.getLsbD
      (ch.val - 8) = false ∧ (∀ j ∈ s.husk.waiting, j.val ≠ ch.val - 8)) :=
  ⟨⟨upH [(fldP 9 0, 1)], 9, by decide⟩,
   ⟨upH [(fldP 15 0, 1), (fldP 15 2, 1)], 15, true, by decide⟩,
   ⟨{ up with husk.out := 0x800001 }, 31, 3, by decide⟩,
   ⟨{ upH [(fldP 31 2, 1)] with husk.out := 0x800001 }, 31, true, by decide⟩,
   ⟨{ up with husk.rising := 2 }, 1, by decide⟩,
   ⟨{ up with husk.bankOn := 1 }, 0, by decide⟩,
   ⟨{ up with husk.bankOn := 1, husk.out := 0x010000 }, 0, by decide⟩,
   ⟨{ up with husk.clamping := 0x010000 }, 24, by decide⟩,
   ⟨{ up with husk.closing := 1, husk.clamping := 0x010000 }, 0, by decide⟩,
   ⟨{ up with husk.pulsing := 1 }, 8, by decide⟩⟩

theorem wit_FieldWriteJournalAndSleep :
    (∃ (s : State) (d : Desc) (w : FieldCmd), s.blockedWrite = some (d, w) ∧ s.logUp = true ∧ s.calm ∧ s.dmaOpen =
      true ∧ s.host.running = true ∧ w.early = none ∧ (w.acked = false ∨ w.wait ≠ 0#24)) ∧
    (∃ (s : State) (d : Desc) (w : FieldCmd), s.blockedWrite = some (d, w) ∧ s.logUp = true ∧ s.calm ∧ s.dmaOpen =
      true ∧ s.host.running = true ∧ w.early = none ∧ w.acked = true ∧ w.wait = 0#24) ∧
    (∃ (s : State) (d : Desc) (w : FieldCmd), s.blockedWrite = some (d, w) ∧ s.logUp = true ∧ s.calm ∧ s.dmaOpen =
      true ∧ s.host.running = true ∧ w.early ≠ none) ∧
    (∃ (s : State), s.awn.mode = .sleep) ∧
    (∃ (s : State), s.fieldUp = true ∧ s.husk.mode = .sleep) ∧
    (∃ (s : State) (a : GAir), s.fieldUp = true ∧ s.husk.mode = .sleep ∧ s.awn.gAir = some a ∧ s.gKind 0xA = true ∧
      s.husk.hunt = true) ∧
    (∃ (s : State) (n : Nat) (a : GAir), s.fieldUp = true ∧ s.husk.mode = .sleep ∧ s.awn.gAir = some a ∧ s.gKind 0xA =
      true ∧ s.husk.hunt = false ∧ 95 * s.husk.period ≤ 100 * n ∧ 100 * n ≤ 105 * s.husk.period) ∧
    (∃ (s : State) (n : Nat) (a : GAir), s.fieldUp = true ∧ s.husk.mode = .sleep ∧ s.awn.gAir = some a ∧ s.gKind 0xA =
      true ∧ s.husk.hunt = false ∧ ¬(95 * s.husk.period ≤ 100 * n ∧ 100 * n ≤ 105 * s.husk.period)) ∧
    (∃ (s : State) (h : HFrame), s.isl 6 = .run ∧ s.awn.mode = .sleep ∧ s.calm ∧ s.hKeepalive = some h) ∧
    (∃ (s : State), s.awn.mode = .sleep ∧ s.awn.hunt = false) ∧
    (∃ (s : State), s.fieldUp = true ∧ s.husk.mode = .sleep ∧ s.husk.hunt = false) ∧
    (∃ (s : State), s.awn.mode = .sleep ∧ s.awn.hunt = true ∧ s.awn.stale = false) ∧
    (∃ (s : State), s.fieldUp = true ∧ s.husk.mode = .sleep ∧ s.husk.hunt = true) :=
  ⟨⟨{ up with ring.block := some (.fieldWrite {} 3), awn.writes := [{ id := 3, mask := 1, on := 1, wait := 0 }] },
     {}, { id := 3, mask := 1, on := 1, wait := 0 }, by unfold State.calm; decide⟩,
   ⟨{ up with ring.block := some (.fieldWrite {} 3), awn.writes := [{ id := 3, mask := 1, on := 1, wait := 0, acked := true }] },
     {}, { id := 3, mask := 1, on := 1, wait := 0, acked := true }, by unfold State.calm; decide⟩,
   ⟨{ up with ring.block := some (.fieldWrite {} 3), awn.writes := [{ id := 3, mask := 1, on := 1, wait := 0, early := some (.interlock, 0) }] },
     {}, { id := 3, mask := 1, on := 1, wait := 0, early := some (.interlock, 0) },
     by unfold State.calm; decide⟩,
   ⟨{ up with awn.mode := .sleep }, by decide⟩,
   ⟨{ up with husk.mode := .sleep }, by decide⟩,
   ⟨{ up with husk.mode := .sleep, awn.gAir := some gka, husk.hunt := true }, gka, by decide +kernel⟩,
   ⟨{ up with husk.mode := .sleep, awn.gAir := some gka }, 1050, gka, by decide +kernel⟩,
   ⟨{ up with husk.mode := .sleep, awn.gAir := some gka }, 1051, gka, by decide +kernel⟩,
   ⟨{ up with awn.mode := .sleep, awn.hAir := some (encodeH { hf with kind := 0xA }) },
     { hf with kind := 0xA }, by unfold State.calm; decide +kernel⟩,
   ⟨{ up with awn.mode := .sleep }, by decide⟩,
   ⟨{ up with husk.mode := .sleep }, by decide⟩,
   ⟨{ up with awn.mode := .sleep, awn.hunt := true }, by decide⟩,
   ⟨{ up with husk.mode := .sleep, husk.hunt := true }, by decide⟩⟩

theorem wit_SheddingActs :
    (∃ (s : State) (v : W24), s.started = true ∧ s.sup.level.val < 1 ∧ v.toNat < s.levelMv 1) ∧
    (∃ (s : State) (v : W24), s.started = true ∧ s.sup.level.val < 2 ∧ v.toNat < s.levelMv 2) ∧
    (∃ (s : State) (v : W24), s.started = true ∧ s.sup.level.val < 3 ∧ v.toNat < s.levelMv 3) ∧
    (∃ (s : State) (v : W24), s.started = true ∧ s.sup.level.val < 4 ∧ v.toNat < s.levelMv 4) ∧
    (∃ (s : State) (v : W24), s.started = true ∧ s.sup.level.val < 5 ∧ v.toNat < 18000) ∧
    (∃ (s : State) (v : W24), 2 ≤ s.sup.level.val ∧ s.levelMv s.sup.level.val + 1000 ≤ v.toNat ∧ s.calm) ∧
    (∃ (s : State) (v : W24), s.started = true ∧ s.sup.level = 1 ∧ s.pn 0x0204 ≤ v.toNat) ∧
    (∃ (s : State) (v : W24), s.started = true ∧ s.sup.overV = false ∧ s.pn 0x0205 < v.toNat) ∧
    (∃ (s : State) (v : W24), s.sup.overV = true ∧ v.toNat + 1000 < s.pn 0x0205) :=
  ⟨⟨up, 28499, by decide⟩,
   ⟨up, 26499, by decide⟩,
   ⟨up, 24499, by decide⟩,
   ⟨up, 20999, by decide⟩,
   ⟨up, 17999, by decide⟩,
   ⟨{ up with sup.level := 5 }, 19000, by unfold State.calm; decide⟩,
   ⟨{ up with sup.level := 1 }, 31000, by decide⟩,
   ⟨up, 85001, by decide⟩,
   ⟨{ up with sup.overV := true }, 83999, by decide⟩⟩

theorem wit_SupplyEventsComplete :
    (∃ (s : State) (mv : W24), s.husk.alive = true ∧ s.awn.hears = true ∧ s.awn.stale = false ∧ s.sup.f24State = 0 ∧
      mv.toNat < s.pn 0x0210) ∧
    (∃ (s : State) (mv : W24), s.husk.alive = true ∧ s.awn.hears = true ∧ s.awn.stale = false ∧ s.sup.f24State = 1 ∧
      s.pn 0x0210 ≤ mv.toNat) ∧
    (∃ (s : State), s.husk.alive = true) ∧
    (∃ (s : State) (mv : W24), s.husk.alive = false ∧ 19200 ≤ mv.toNat) ∧
    (∃ (s : State), s.sup.aux5On = true) ∧
    (∃ (s : State), s.sup.aux5On = true ∧ s.sup.aux5Logged = false ∧ s.records 0x0220 4) ∧
    (∃ (s : State), s.sup.aux3On = true) ∧
    (∃ (s : State), s.sup.aux3On = true ∧ s.sup.aux3Logged = false ∧ s.records 0x0221 4) ∧
    (∃ (s : State), s.sup.aux5On = false) ∧
    (∃ (s : State), s.sup.aux3On = false) ∧
    (∃ (s : State), s.isl 7 = .run ∧ s.pb 0x0218 = false) ∧
    (∃ (s : State) (r : Option Nat), s.isl 7 = .run ∧ s.pb 0x0218 = true ∧ r = none) ∧
    (∃ (s : State) (r : Option Nat) (o : _), s.isl 7 = .run ∧ s.pb 0x0218 = true ∧ r = some o ∧ 20 ≤ o ∧ o ≤ 30000) ∧
    (∃ (s : State), 2 ≤ s.glb.step.val ∧ s.glb.step.val < 7 ∧ s.glb.held = 0#3) :=
  ⟨⟨up, 17999, by decide⟩,
   ⟨{ up with sup.f24State := 1 }, 18000, by decide⟩,
   ⟨up, by decide⟩,
   ⟨{ up with husk.alive := false }, 19200, by decide⟩,
   ⟨up, by decide⟩,
   ⟨up, by unfold State.records; decide⟩,
   ⟨up, by decide⟩,
   ⟨up, by unfold State.records; decide⟩,
   ⟨{ up with sup.aux5On := false }, by decide⟩,
   ⟨{ up with sup.aux3On := false }, by decide⟩,
   ⟨up, by decide⟩,
   ⟨upP [(0x0218, 1)], (none : Option Nat), by decide⟩,
   ⟨upP [(0x0218, 1)], some 30000, 30000, by decide⟩,
   ⟨{ up with glb.step := 6 }, by decide⟩⟩

theorem wit_HeatActs :
    (∃ (s : State) (die : Die) (w : W24), die ≠ .husk ∧ 2160 ≤ w.int ∧ s.sup.prewarn.getLsbD (dieNum die) = false) ∧
    (∃ (s : State) (die : Die) (w : W24), die ≠ .husk ∧ w.int < 2080 ∧ s.sup.prewarn.getLsbD (dieNum die) = true) ∧
    (∃ (s : State) (w : W24), s.husk.alive = true ∧ 2160 ≤ w.int) ∧
    (∃ (s : State) (w : W24), s.husk.alive = true ∧ w.int < 2080) ∧
    (∃ (s : State) (w : W24), 2480 ≤ w.int ∧ s.sup.shutdown.getLsbD 1 = false ∧ s.guardUp = true) ∧
    (∃ (s : State) (w : W24), s.husk.alive = true ∧ 2480 ≤ w.int ∧ s.husk.hot = false) ∧
    (∃ (s : State) (l : List W24) (noise : List W24) (p : Nat) (h : HFrame), s.isl 6 = .run ∧ s.awn.mode ≠ .sleep ∧
      s.calm ∧ s.glb.step = 7 ∧ s.awn.hAir = some l ∧ decodeH (noisy l noise) = some h ∧ (s.awn.exempt = true ∨
      inPeriod p = true) ∧ h.hot = 1#1 ∧ s.awn.hNews = [] ∧ s.sup.shutdown.getLsbD 2 = false ∧ s.guardUp = true ∧
      s.grd.st.grants = true) ∧
    (∃ (s : State) (w : W24), 2480 ≤ w.int ∧ s.glb.held.getLsbD 2 = false) ∧
    (∃ (s : State) (w : W24), w.int < 2080 ∧ s.glb.held = 4#3) ∧
    (∃ (s : State) (w : W24), w.int < 2080 ∧ s.sup.shutdown.getLsbD 1 = true) ∧
    (∃ (s : State) (w : W24), w.int < 2080 ∧ s.husk.hot = true) :=
  ⟨⟨up, .spindle, 2160, by decide⟩,
   ⟨{ up with sup.prewarn := 7 }, .grain, 2079, by decide⟩,
   ⟨up, 2160, by decide⟩,
   ⟨up, 2079, by decide⟩,
   ⟨up, 2480, by decide⟩,
   ⟨up, 2480, by decide⟩,
   ⟨{ up with awn.hAir := some (encodeH { hf with hot := 1 }), awn.exempt := false }, encodeH
     { hf with hot := 1 }, [], 29688, { hf with hot := 1 }, by unfold State.calm; decide +kernel⟩,
   ⟨up, 2480, by decide⟩,
   ⟨{ State.reset with glb.held := 4, glb.resumeAt := 4 }, 2079, by decide⟩,
   ⟨{ up with sup.shutdown := 7 }, 2079, by decide⟩,
   ⟨{ up with husk.hot := true }, 2079, by decide⟩⟩

theorem wit_StartsAndResets :
    (∃ (s : State), s.glb.held = 0#3 ∧ s.glb.step = 0 ∧ s.clk.crystal = true) ∧
    (∃ (s : State), s.glb.held = 0#3 ∧ s.glb.step = 0 ∧ s.clk.crystal = false) ∧
    (∃ (s : State), s.pending = [] ∧ s.glb.step = 5 ∧ s.glb.startAt + 35000 ≤ s.now + 1) ∧
    (∃ (s : State) (n : Nat), s.land.resetN = true ∧ 100 ≤ n) ∧
    (∃ (s : State) (n : Nat), s.land.resetN = true ∧ n < 10) ∧
    (∃ (s : State), s.land.resetN = false ∧ s.glb.held = 1#3 ∧ s.glb.step = 0 ∧ s.clk.crystal = true ∧ s.glb.resumeAt
      ≠ 1) ∧
    (∃ (s : State), s.land.resetN = false ∧ s.glb.held = 1#3 ∧ s.glb.step = 0 ∧ s.clk.crystal = true ∧ s.glb.resumeAt
      = 1) ∧
    (∃ (s : State), s.clk.crystal = false ∧ s.glb.waitCrystal = true) ∧
    (∃ (s : State), s.clk.crystal = false ∧ s.glb.waitCrystal = false) ∧
    (∃ (s : State), s.hostAllowed = true ∧ s.isl 0 = .run ∧ s.host.ready = false ∧ s.glb.step ≠ 6) ∧
    (∃ (s : State), s.hostAllowed = true ∧ s.isl 0 = .run ∧ s.host.ready = false ∧ s.glb.step = 6) :=
  ⟨⟨State.reset, by decide⟩,
   ⟨{ State.reset with clk.crystal := false }, by decide⟩,
   ⟨{ up with glb.step := 5, now := 34999 }, by decide⟩,
   ⟨up, 100, by decide⟩,
   ⟨up, 9, by decide⟩,
   ⟨{ State.reset with land.resetN := false, glb.held := 1, glb.resumeAt := 2 }, by decide⟩,
   ⟨{ State.reset with land.resetN := false, glb.held := 1 }, by decide⟩,
   ⟨{ State.reset with clk.crystal := false, glb.waitCrystal := true, glb.step := 2 }, by decide⟩,
   ⟨{ up with clk.crystal := false }, by decide⟩,
   ⟨{ up with host.ready := false }, by decide +kernel⟩,
   ⟨{ up with host.ready := false, glb.step := 6 }, by decide +kernel⟩⟩

theorem wit_IslandFaultsAct :
    (∃ (s : State) (i : Island), s.watched (islNum i) = true ∧ s.globalDue (islNum i) = false) ∧
    (∃ (s : State) (i : Island), s.watched (islNum i) = true ∧ s.globalDue (islNum i) = true) ∧
    (∃ (s : State) (i : Island), islNum i < 8 ∧ s.isl (islNum i) = .restarting ∧ s.actRestart (islNum i) = false ∧
      s.calm ∧ fwOf (islNum i) = none) ∧
    (∃ (s : State) (i : Island) (k : _), islNum i < 8 ∧ s.isl (islNum i) = .restarting ∧ s.actRestart (islNum i) =
      false ∧ s.calm ∧ fwOf (islNum i) = some k ∧ (s.slots k.val).running = 2) ∧
    (∃ (s : State) (i : Island) (k : _), islNum i < 8 ∧ s.isl (islNum i) = .restarting ∧ s.actRestart (islNum i) =
      false ∧ s.calm ∧ fwOf (islNum i) = some k ∧ (s.slots k.val).running ≠ 2) ∧
    (∃ (s : State) (i : Island), islNum i < 8 ∧ s.isl (islNum i) = .restarting ∧ s.actRestart (islNum i) = false) ∧
    (∃ (s : State) (a : Island) (b : Island), s.guardUp = true ∧ s.islServes (islNum a) = true ∧ a ≠ b ∧ s.watched
      (islNum b) = true ∧ s.globalDue (islNum b) = false) ∧
    (∃ (s : State) (a : Island) (b : Island), s.guardUp = true ∧ s.islServes (islNum a) = true ∧ a ≠ b ∧ s.watched
      (islNum b) = false) ∧
    (∃ (s : State), s.watched 5 = true ∧ s.globalDue 5 = false) ∧
    (∃ (s : State), s.guardUp = true) :=
  ⟨⟨up, .keep, by decide⟩,
   ⟨{ up with glb.wdtAt := up.glb.wdtAt.set 1 (some 0), now := 10000000 }, .motion, by decide⟩,
   ⟨{ up with glb.isl := up.glb.isl.set 7 .restarting }, .keep, by unfold State.calm; decide⟩,
   ⟨{ up with glb.isl := up.glb.isl.set 3 .restarting, fw.slots := up.fw.slots.set 2 { running := 2 } },
     .grind, (2 : Fin 3), by unfold State.calm; decide⟩,
   ⟨{ up with glb.isl := up.glb.isl.set 0 .restarting }, .host, (0 : Fin 3),
     by unfold State.calm; decide⟩,
   ⟨{ up with glb.isl := up.glb.isl.set 1 .restarting }, .motion, by decide⟩,
   ⟨up, .guard, .lift, by decide⟩,
   ⟨up, .lift, .guard, by decide⟩,
   ⟨up, by decide⟩,
   ⟨up, by decide⟩⟩

theorem wit_GuardEventsAct :
    (∃ (s : State), s.guardUp = true ∧ s.calm ∧ s.dbg.haltWait = 0 ∧ (∀ d, s.ring.block ≠ some (.guardAck d)) ∧
      s.latticeCopy = s.grd.copyB ∧ (s.grd.st = .run ∨ s.grd.st = .restrict) ∧ (judgeRules s).tripRule = false) ∧
    (∃ (s : State), s.guardUp = true ∧ s.calm ∧ s.dbg.haltWait = 0 ∧ (∀ d, s.ring.block ≠ some (.guardAck d)) ∧
      s.latticeCopy = s.grd.copyB ∧ (s.grd.st = .run ∨ s.grd.st = .restrict) ∧ (judgeRules s).tripRule = true) ∧
    (∃ (s : State), s.guardUp = true ∧ s.calm ∧ s.dbg.haltWait = 0 ∧ (∀ d, s.ring.block ≠ some (.guardAck d)) ∧
      s.latticeCopy = s.grd.copyB ∧ s.grd.st = .safeStop) ∧
    (∃ (s : State), s.guardUp = true ∧ s.calm ∧ s.dbg.haltWait = 0 ∧ (∀ d, s.ring.block ≠ some (.guardAck d)) ∧
      s.latticeCopy = s.grd.copyB ∧ s.grd.st = .trip) ∧
    (∃ (s : State), s.guardUp = true ∧ s.calm ∧ s.dbg.haltWait = 0 ∧ (∀ d, s.ring.block ≠ some (.guardAck d)) ∧
      s.latticeCopy = s.grd.copyB ∧ s.grd.st = .lockout) ∧
    (∃ (s : State), s.guardUp = true ∧ s.calm ∧ s.dbg.haltWait = 0 ∧ (∀ d, s.ring.block ≠ some (.guardAck d)) ∧
      s.latticeCopy ≠ s.grd.copyB ∧ s.grd.st ≠ .trip) ∧
    (∃ (s : State) (a : Bool) (b : Bool), s.guardUp = true ∧ ((s.grd.estopA = true ∧ a = false) ∨ (s.grd.estopB = true
      ∧ b = false))) ∧
    (∃ (s : State) (a : Bool) (b : Bool), (s.guardUp = false ∨ ((s.grd.estopA = true → a = true) ∧ (s.grd.estopB =
      true → b = true)))) ∧
    (∃ (s : State), s.guardUp = true ∧ s.grd.estopA ≠ s.grd.estopB ∧ s.grd.disc = false) ∧
    (∃ (s : State), s.guardUp = true ∧ s.started = true ∧ s.grd.st = .safeStop) :=
  ⟨⟨{ up with grd.st := .restrict },
     by unfold State.calm; refine ⟨by decide, by decide, by decide, (by intro d h; cases h), by decide, ?_⟩; decide⟩,
   ⟨tripping,
     by unfold State.calm; refine ⟨by decide, by decide, by decide, (by intro d h; cases h), by decide, ?_⟩; decide⟩,
   ⟨{ up with grd.st := .safeStop },
     by unfold State.calm; refine ⟨by decide, by decide, by decide, (by intro d h; cases h), by decide, ?_⟩; decide⟩,
   ⟨{ up with grd.st := .trip },
     by unfold State.calm; refine ⟨by decide, by decide, by decide, (by intro d h; cases h), by decide, ?_⟩; decide⟩,
   ⟨{ up with grd.st := .lockout },
     by unfold State.calm; refine ⟨by decide, by decide, by decide, (by intro d h; cases h), by decide, ?_⟩; decide⟩,
   ⟨{ up with grd.copyB := [(0x3800, 1)] },
     by unfold State.calm; refine ⟨by decide, by decide, by decide, (by intro d h; cases h), by decide, ?_⟩; decide⟩,
   ⟨up, true, false, by decide⟩,
   ⟨{ up with grd.estopA := false }, true, true, by decide⟩,
   ⟨{ up with grd.estopB := false }, by decide⟩,
   ⟨{ up with grd.st := .safeStop }, by decide⟩⟩

theorem wit_PositionMoveNeverPasses :
    (∃ (goal : Int) (m : Move) (x : Axis), (m.dir = 1 ∨ m.dir = -1) ∧ 0 ≤ (goal - x.x) * m.dir ∧ 0 ≤ x.v * m.dir) :=
  ⟨100, { mv with dir := -1 }, { x := 100000 }, by decide⟩

theorem wit_ProfileTickMoves :
    (∃ (s : State) (a : Nat) (m : _) (g : _), s.motionUp = true ∧ (a = 3 ∨ a = 4) ∧ (s.axis a).next = none ∧ (∀ b < 5,
      b ≠ a → (s.axis b).next = none ∧ ((s.axis b).st = .off ∨ (s.axis b).st = .standstill ∨ (s.axis b).st =
      .idleOff)) ∧ (s.axis a).st = .moving ∧ (s.axis a).move = some m ∧ m.target = some g ∧ m.decDue = none) ∧
    (∃ (s : State) (a : Nat), s.motionUp = true ∧ (a = 3 ∨ a = 4) ∧ (s.axis a).next = none ∧ (∀ b < 5, b ≠ a → (s.axis
      b).next = none ∧ ((s.axis b).st = .off ∨ (s.axis b).st = .standstill ∨ (s.axis b).st = .idleOff)) ∧ (s.axis
      a).st = .stopping ∧ (s.axis a).emg = true) ∧
    (∃ (s : State) (a : Nat), s.motionUp = true ∧ (a = 3 ∨ a = 4) ∧ (s.axis a).next = none ∧ (∀ b < 5, b ≠ a → (s.axis
      b).next = none ∧ ((s.axis b).st = .off ∨ (s.axis b).st = .standstill ∨ (s.axis b).st = .idleOff)) ∧ (s.axis
      a).st = .stopping ∧ (s.axis a).emg = false) ∧
    (∃ (s : State), s.motionUp = true ∧ (∀ b < 5, (s.axis b).next = none ∧ ((s.axis b).st = .off ∨ (s.axis b).st =
      .standstill ∨ (s.axis b).st = .idleOff))) :=
  ⟨⟨{ up with mot.ax := up.mot.ax.set 4 { st := .moving, stage := true, homed := true, move := some mv } },
     4, mv, 1000, by decide⟩,
   ⟨{ up with mot.ax := up.mot.ax.set 3 { st := .stopping, emg := true, v := 100000 } }, 3,
     by decide⟩,
   ⟨{ up with mot.ax := up.mot.ax.set 3 { st := .stopping, v := -100000 } }, 3, by decide⟩,
   ⟨up, by decide⟩⟩

theorem wit_AxisEventsComplete :
    (∃ (s : State) (a : Fin 5), s.motionUp = true ∧ (s.axis a.val).stage = true ∧ s.encOn a.val = true ∧ s.pn (axP
      a.val 0x1B) ≠ 0 ∧ s.pn (axP a.val 0x1C) ≤ (s.axis a.val).dev) ∧
    (∃ (s : State) (a : Fin 5) (p : W24 × W24), s.motionUp = true ∧ (s.axis a.val).latchArmed = true ∧ (s.axis
      a.val).st ≠ .homing ∧ (s.axis a.val).edge = some p ∧ s.owner a.val ≠ 2) ∧
    (∃ (s : State) (a : Fin 5) (us : Fin 50) (ns : Fin 1000) (p : W24 × W24), s.motionUp = true ∧ (s.axis
      a.val).latchArmed = true ∧ (s.axis a.val).st = .homing ∧ ((s.pn (axP a.val 0x28) = 1 ∧ p = (w24i (((s.axis
      a.val).x + 2 * (s.axis a.val).v * ((1000 * us.val + ns.val : Nat) : Int) / 50000) / xUnit), (s.axis a.val).enc))
      ∨ (s.pn (axP a.val 0x28) ≠ 1 ∧ (s.axis a.val).edge = some p))) ∧
    (∃ (s : State) (a : Fin 5) (k : Nat), s.motionUp = true ∧ (s.axis a.val).stage = true ∧ 1 ≤ k ∧ k ≤ 3) ∧
    (∃ (s : State) (a : Fin 5) (o : Bool), s.motionUp = true ∧ (s.axis a.val).stage = true ∧ (s.axis a.val).openA ≠ o) ∧
    (∃ (s : State) (a : Fin 5) (o : Bool), s.motionUp = true ∧ (s.axis a.val).stage = true ∧ (s.axis a.val).openB ≠ o) ∧
    (∃ (s : State) (a : Fin 5), s.motionUp = true ∧ (s.axis a.val).stage = true ∧ (s.axis a.val).stands = true) ∧
    (∃ (s : State) (a : Fin 5), s.motionUp = true ∧ (s.axis a.val).stage = true ∧ (s.axis a.val).stands = true ∧
      (s.axis a.val).verifying = false ∧ s.pn (axP a.val 0x03) ≠ 0 ∧ (s.axis a.val).st = .standstill) ∧
    (∃ (s : State) (a : Fin 5), s.motionUp = true ∧ (s.axis a.val).verifying = true ∧ ((s.axis a.val).after = none ∨
      (s.axis a.val).after = some .stand) ∧ s.owner a.val = 0) ∧
    (∃ (s : State) (two : Bool) (high : Bool), s.motionUp = true ∧ (s.axis (if two then 4 else 3)).stage = true ∧
      (s.axis (if two then 4 else 3)).st = .external ∧ (s.axis (if two then 4 else 3)).verifying = false ∧ (s.axis (if
      two then 4 else 3)).suspended = false ∧ s.standState (if two then 4 else 3) = .external ∧ (s.permit (axPermit
      (if two then 4 else 3)) = false ∨ s.limitBars (if two then 4 else 3) (if high then -1 else 1) = true)) ∧
    (∃ (s : State) (two : Bool) (high : Bool), s.motionUp = true ∧ (s.axis (if two then 4 else 3)).stage = true ∧
      (s.axis (if two then 4 else 3)).st = .external ∧ (s.axis (if two then 4 else 3)).verifying = false ∧ (s.axis (if
      two then 4 else 3)).suspended = false ∧ s.standState (if two then 4 else 3) = .external ∧ s.permit (axPermit (if
      two then 4 else 3)) = true ∧ s.limitBars (if two then 4 else 3) (if high then -1 else 1) = false ∧ ((s.axis (if
      two then 4 else 3)).stepTarget + w24i (256 / 2 ^ s.pn (axP (if two then 4 else 3) 0x31) * (if high then -1 else
      1)) - (s.axis (if two then 4 else 3)).word).int.natAbs ≤ s.pn (axP (if two then 4 else 3) 0x32)) ∧
    (∃ (s : State) (two : Bool), s.motionUp = true ∧ (s.axis (if two then 4 else 3)).stage = true ∧ (s.axis (if two
      then 4 else 3)).st = .stopping ∧ (s.axis (if two then 4 else 3)).verifying = false ∧ (s.axis (if two then 4 else
      3)).suspended = false ∧ s.standState (if two then 4 else 3) = .external) ∧
    (∃ (s : State) (i : Fin 6), 4 ≤ s.glb.step.val ∧ i.val < 5 ∧ s.encOn i.val = true) ∧
    (∃ (s : State) (i : Fin 6), 4 ≤ s.glb.step.val ∧ i.val = 5 ∧ s.pb 0x1800 = true) :=
  ⟨⟨{ upP [(axP 4 0x18, 1), (axP 4 0x1B, 1)] with mot.ax := up.mot.ax.set 4 { st := .moving, stage := true, homed := true, move := some mv, dev := 20 } },
     4, by decide⟩,
   ⟨{ up with mot.ax := up.mot.ax.set 0 { st := .standstill, latchArmed := true, edge := some (5, 6) } },
     0, ((5, 6) : W24 × W24), by decide⟩,
   ⟨{ upP [(axP 4 0x28, 1)] with mot.ax := up.mot.ax.set 4 { st := .homing, stage := true, latchArmed := true, x := 5 * xUnit, enc := 6 } },
     4, 49, 999, ((5, 6) : W24 × W24), by decide⟩,
   ⟨up, 0, 3, by decide⟩,
   ⟨up, 0, true, by decide⟩,
   ⟨up, 0, true, by decide⟩,
   ⟨up, 0, by decide⟩,
   ⟨upP [(axP 4 0x03, 1)], 4, by decide⟩,
   ⟨{ up with mot.ax := up.mot.ax.set 4 { st := .enabling, verifying := true, stage := true, homed := true } },
     4, by decide⟩,
   ⟨{ ({ upP [(axP 3 0x30, 1)] with mot.ax := up.mot.ax.set 3 { st := .external, stage := true } } : State) with grd.permits := 0 },
     false, true, by decide⟩,
   ⟨{ upP [(axP 4 0x30, 1)] with mot.ax := up.mot.ax.set 4 { st := .external, stage := true, x := 8388607 * xUnit, stepTarget := 8388607 } },
     true, false, by decide⟩,
   ⟨{ upP [(axP 4 0x30, 1)] with mot.ax := up.mot.ax.set 4 { st := .stopping, stage := true } },
     true, by decide⟩,
   ⟨upP [(axP 4 0x18, 1)], 4, by decide⟩,
   ⟨upP [(0x1800, 1)], 5, by decide⟩⟩

theorem wit_LiftEventsComplete :
    (∃ (s : State), s.mayDispatch = true ∧ s.select = none) ∧
    (∃ (s : State) (c : _), s.mayDispatch = true ∧ s.select = some c ∧ s.pn 0x2009 < s.callDist c ∧ (s.axis 0).st =
      .fault) ∧
    (∃ (s : State) (c : _), s.mayDispatch = true ∧ s.select = some c ∧ s.pn 0x2009 < s.callDist c ∧ (s.axis 0).st ≠
      .fault ∧ (s.axis 0).homed = false) ∧
    (∃ (s : State) (c : _), s.mayDispatch = true ∧ s.select = some c ∧ s.pn 0x2009 < s.callDist c ∧ (s.axis 0).st ≠
      .fault ∧ (s.axis 0).homed = true) ∧
    (∃ (s : State) (c : _), s.mayDispatch = true ∧ s.select = some c ∧ s.callDist c ≤ s.pn 0x2009 ∧ c.door = false ∧
      s.lift.pendHold = none) ∧
    (∃ (s : State) (c : _), s.mayDispatch = true ∧ s.select = some c ∧ s.callDist c ≤ s.pn 0x2009 ∧ c.door = true ∧
      (s.ldgDoor c.landing.val = 1 ∨ s.ldgDoor c.landing.val = 2)) ∧
    (∃ (s : State) (k : _), s.mayDispatch = true ∧ s.pn 0x200C ≠ 0 ∧ s.lift.calls = [] ∧ (List.range 12).find? (fun n
      => s.ldgEn n && s.pb (ldgP n 9)) = some k ∧ s.pn 0x2009 < (s.ldgPos k - s.carPos).natAbs ∧ (s.axis 0).st ≠
      .fault ∧ (s.axis 0).homed = true ∧ (s.axis 0).stage = true ∧ (s.axis 0).verifying = false) ∧
    (∃ (s : State) (k : _), s.mayDispatch = true ∧ s.pn 0x200C ≠ 0 ∧ s.lift.calls = [] ∧ (List.range 12).find? (fun n
      => s.ldgEn n && s.pb (ldgP n 9)) = some k ∧ (s.ldgPos k - s.carPos).natAbs ≤ s.pn 0x2009) ∧
    (∃ (s : State), s.mayDispatch = true ∧ s.pn 0x200C ≠ 0 ∧ s.lift.calls = [] ∧ (List.range 12).find? (fun n =>
      s.ldgEn n && s.pb (ldgP n 9)) = none) ∧
    (∃ (s : State), s.liftUp = true ∧ s.lift.dwell = true) ∧
    (∃ (s : State), s.liftUp = true ∧ s.lift.phase = .brakeRelease ∧ s.lift.verifyTrip = false ∧ s.dispatchOk = true ∧
      (s.axis 0).st ≠ .fault) ∧
    (∃ (s : State), s.liftUp = true ∧ s.lift.phase = .brakeRelease ∧ s.dispatchOk = false ∧ s.lift.pendHold = none) ∧
    (∃ (s : State), s.liftUp = true ∧ s.lift.phase = .homeBrake) ∧
    (∃ (s : State), s.liftUp = true ∧ s.lift.phase = .moving ∧ s.lift.abandon = false ∧ (s.axis 0).stands = true ∧
      s.carPos = s.ldgPos s.lift.target.val ∧ s.chan (ldgP s.lift.target.val 1) = none) ∧
    (∃ (s : State), s.liftUp = true ∧ s.lift.phase = .moving ∧ s.lift.abandon = false ∧ (s.axis 0).stands = true ∧
      s.carPos = s.ldgPos s.lift.target.val ∧ s.chan (ldgP s.lift.target.val 1) ≠ none ∧ (s.axis 0).latch = none ∧
      s.lift.verifyTrip = false) ∧
    (∃ (s : State) (p : _) (e : _), s.liftUp = true ∧ s.lift.phase = .moving ∧ s.lift.abandon = false ∧ (s.axis
      0).stands = true ∧ s.carPos = s.ldgPos s.lift.target.val ∧ s.chan (ldgP s.lift.target.val 1) ≠ none ∧ (s.axis
      0).latch = some (p, e) ∧ (p.int - (s.ldgPos s.lift.target.val + s.flagOffset s.lift.target.val)).natAbs ≤ s.pn
      0x2009) ∧
    (∃ (s : State) (p : _) (e : _), s.liftUp = true ∧ s.lift.phase = .moving ∧ s.lift.abandon = false ∧ (s.axis
      0).stands = true ∧ s.carPos = s.ldgPos s.lift.target.val ∧ s.chan (ldgP s.lift.target.val 1) ≠ none ∧ (s.axis
      0).latch = some (p, e) ∧ s.pn 0x2009 < (p.int - (s.ldgPos s.lift.target.val + s.flagOffset
      s.lift.target.val)).natAbs ∧ (p.int - (s.ldgPos s.lift.target.val + s.flagOffset s.lift.target.val)).natAbs ≤
      s.pn 0x200A) ∧
    (∃ (s : State) (p : _) (e : _), s.liftUp = true ∧ s.lift.phase = .moving ∧ s.lift.abandon = false ∧ (s.axis
      0).stands = true ∧ s.carPos = s.ldgPos s.lift.target.val ∧ s.chan (ldgP s.lift.target.val 1) ≠ none ∧ (s.axis
      0).latch = some (p, e) ∧ s.pn 0x2009 < (p.int - (s.ldgPos s.lift.target.val + s.flagOffset
      s.lift.target.val)).natAbs ∧ s.pn 0x200A < (p.int - (s.ldgPos s.lift.target.val + s.flagOffset
      s.lift.target.val)).natAbs ∧ s.lift.verifyTrip = false) ∧
    (∃ (s : State), s.liftUp = true ∧ s.lift.phase = .levelling ∧ s.lift.abandon = false ∧ (s.axis 0).stands = true) ∧
    (∃ (s : State) (c : _), s.liftUp = true ∧ s.lift.phase = .brakeSet ∧ s.lift.abandon = false ∧ s.lift.verifyTrip =
      false ∧ s.lift.park = false ∧ s.lift.pendHold = none ∧ s.lift.calls.find? (fun x => x.dispatched) = some c ∧
      c.door = false) ∧
    (∃ (s : State) (c : _), s.liftUp = true ∧ s.lift.phase = .brakeSet ∧ s.lift.abandon = false ∧ s.lift.verifyTrip =
      false ∧ s.lift.park = false ∧ s.lift.calls.find? (fun x => x.dispatched) = some c ∧ c.door = true ∧ (s.ldgDoor
      s.lift.target.val = 1 ∨ s.ldgDoor s.lift.target.val = 2)) ∧
    (∃ (s : State), s.liftUp = true ∧ s.lift.phase = .brakeSet ∧ s.lift.abandon = false ∧ s.lift.verifyTrip = false ∧
      s.lift.park = true) ∧
    (∃ (s : State), s.liftUp = true ∧ s.lift.phase = .brakeSet ∧ s.lift.abandon = false ∧ s.lift.verifyTrip = true) ∧
    (∃ (s : State), s.liftUp = true ∧ s.lift.abandon = true ∧ (s.axis 0).stands = true) :=
  ⟨⟨{ upP [(0x2000, 1), (ldgP 2 8, 1), (ldgP 2 0, 5000)] with lift.st := .idle }, by decide⟩,
   ⟨{ upP [(0x2000, 1), (ldgP 2 8, 1), (ldgP 2 0, 5000)] with lift.st := .idle, lift.calls := [cl], mot.ax := up.mot.ax.set 0 { st := .fault } },
     cl, by decide⟩,
   ⟨{ upP [(0x2000, 1), (ldgP 2 8, 1), (ldgP 2 0, 5000)] with lift.st := .idle, lift.calls := [cl], mot.ax := up.mot.ax.set 0 { st := .standstill, stage := true } },
     cl, by decide⟩,
   ⟨{ upP [(0x2000, 1), (ldgP 2 8, 1), (ldgP 2 0, 5000)] with lift.st := .idle, lift.calls := [cl] },
     cl, by decide⟩,
   ⟨{ upP [(0x2000, 1), (ldgP 2 8, 1)] with lift.st := .idle, lift.calls := [cl] }, cl, by decide⟩,
   ⟨{ upP [(0x2000, 1), (ldgP 2 8, 1), (ldgP 2 4, 1)] with lift.st := .idle, lift.calls := [{ cl with door := true }] },
     { cl with door := true }, by decide⟩,
   ⟨{ upP [(0x2000, 1), (ldgP 2 8, 1), (ldgP 2 0, 5000), (0x200C, 1), (ldgP 2 9, 1)] with lift.st := .idle },
     2, by decide⟩,
   ⟨{ upP [(0x2000, 1), (ldgP 2 8, 1), (0x200C, 1), (ldgP 2 9, 1)] with lift.st := .idle }, 2,
     by decide⟩,
   ⟨{ upP [(0x2000, 1), (ldgP 2 8, 1), (ldgP 2 0, 5000), (0x200C, 1)] with lift.st := .idle },
     by decide⟩,
   ⟨{ upP [(0x2000, 1), (ldgP 2 8, 1), (ldgP 2 0, 5000)] with lift.dwell := true }, by decide⟩,
   ⟨{ upP [(0x2000, 1), (ldgP 2 8, 1), (ldgP 2 0, 5000)] with lift.st := .dispatch, lift.phase := .brakeRelease, lift.target := 2 },
     by decide⟩,
   ⟨{ ({ upP [(0x2000, 1), (ldgP 2 8, 1), (ldgP 2 0, 5000)] with lift.st := .dispatch, lift.phase := .brakeRelease, lift.target := 2 } : State) with grd.permits := 0 },
     by decide⟩,
   ⟨{ upP [(0x2000, 1), (ldgP 2 8, 1), (ldgP 2 0, 5000)] with lift.phase := .homeBrake }, by decide⟩,
   ⟨{ ({ upP [(0x2000, 1), (ldgP 2 8, 1), (ldgP 2 0, 5000)] with lift.st := .run, lift.phase := .moving, lift.target := 2 } : State) with mot.ax := up.mot.ax.set 0 { st := .standstill, stage := true, homed := true, x := 5000 * xUnit } },
     by decide⟩,
   ⟨{ ({ upP [(0x2000, 1), (ldgP 2 8, 1), (ldgP 2 0, 5000), (ldgP 2 1, 3)] with lift.st := .run, lift.phase := .moving, lift.target := 2 } : State) with mot.ax := up.mot.ax.set 0 { st := .standstill, stage := true, homed := true, x := 5000 * xUnit } },
     by decide⟩,
   ⟨{ ({ upP [(0x2000, 1), (ldgP 2 8, 1), (ldgP 2 0, 5000), (ldgP 2 1, 3)] with lift.st := .run, lift.phase := .moving, lift.target := 2 } : State) with mot.ax := up.mot.ax.set 0 { st := .standstill, stage := true, homed := true, x := 5000 * xUnit, latch := some (5064, 0) } },
     (5064 : W24), 0, by decide⟩,
   ⟨{ ({ upP [(0x2000, 1), (ldgP 2 8, 1), (ldgP 2 0, 5000), (ldgP 2 1, 3)] with lift.st := .run, lift.phase := .moving, lift.target := 2 } : State) with mot.ax := up.mot.ax.set 0 { st := .standstill, stage := true, homed := true, x := 5000 * xUnit, latch := some (6024, 0) } },
     (6024 : W24), 0, by decide⟩,
   ⟨{ ({ upP [(0x2000, 1), (ldgP 2 8, 1), (ldgP 2 0, 5000), (ldgP 2 1, 3)] with lift.st := .run, lift.phase := .moving, lift.target := 2 } : State) with mot.ax := up.mot.ax.set 0 { st := .standstill, stage := true, homed := true, x := 5000 * xUnit, latch := some (6025, 0) } },
     (6025 : W24), 0, by decide⟩,
   ⟨{ upP [(0x2000, 1), (ldgP 2 8, 1), (ldgP 2 0, 5000)] with lift.st := .level, lift.phase := .levelling, lift.target := 2 },
     by decide⟩,
   ⟨{ upP [(0x2000, 1), (ldgP 2 8, 1), (ldgP 2 0, 5000)] with lift.st := .level, lift.phase := .brakeSet, lift.calls := [{ cl with dispatched := true }] },
     { cl with dispatched := true }, by decide⟩,
   ⟨{ upP [(0x2000, 1), (ldgP 2 8, 1), (ldgP 2 0, 5000), (ldgP 2 4, 2)] with lift.st := .level, lift.phase := .brakeSet, lift.target := 2, lift.calls := [{ cl with door := true, dispatched := true }] },
     { cl with door := true, dispatched := true }, by decide⟩,
   ⟨{ upP [(0x2000, 1), (ldgP 2 8, 1), (ldgP 2 0, 5000)] with lift.st := .level, lift.phase := .brakeSet, lift.park := true, lift.target := 2 },
     by decide⟩,
   ⟨{ upP [(0x2000, 1), (ldgP 2 8, 1), (ldgP 2 0, 5000)] with lift.phase := .brakeSet, lift.verifyTrip := true, lift.target := 2 },
     by decide⟩,
   ⟨{ upP [(0x2000, 1), (ldgP 2 8, 1), (ldgP 2 0, 5000)] with lift.st := .run, lift.abandon := true },
     by decide⟩⟩

theorem wit_DoorEventsComplete :
    (∃ (s : State) (k : Fin 2) (c : _) (l : _), s.doorUp k = true ∧ s.drEn (1 - k.val) = false ∧ (s.dr k.val).judged =
      false ∧ s.drCh k.val 5 = some c ∧ s.drCh k.val 4 = some l ∧ s.inputOk c = true ∧ s.inputOk l = true ∧ s.input c
      = true ∧ s.input l = true) ∧
    (∃ (s : State) (k : Fin 2) (c : _) (l : _), s.doorUp k = true ∧ s.drEn (1 - k.val) = false ∧ (s.dr k.val).judged =
      false ∧ s.drCh k.val 5 = some c ∧ s.drCh k.val 4 = some l ∧ s.inputOk c = true ∧ s.inputOk l = true ∧ (s.input c
      = false ∨ s.input l = false)) ∧
    (∃ (s : State) (k : Fin 2), s.doorUp k = true ∧ s.drEn (1 - k.val) = false ∧ (s.dr k.val).judged = true ∧ (s.dr
      k.val).st = .closedLocked ∧ (s.dr k.val).openDue = true ∧ s.drPermit k.val = true ∧ s.heldAtSafe 2 = false ∧
      s.axisHeld (k.val + 1) = false) ∧
    (∃ (s : State) (k : Fin 2), s.doorUp k = true ∧ s.drEn (1 - k.val) = false ∧ (s.dr k.val).judged = true ∧ (s.dr
      k.val).st = .unlocking ∧ s.readsOff (s.drCh k.val 4) = true ∧ s.mayMove k.val = true ∧ (s.axis (k.val +
      1)).verifying = false ∧ (s.axis (k.val + 1)).moves = false ∧ ((s.axis (k.val + 1)).stage = true ∨ (s.linesOn =
      true ∧ s.encOn (k.val + 1) = false))) ∧
    (∃ (s : State) (k : Fin 2), s.doorUp k = true ∧ s.drEn (1 - k.val) = false ∧ (s.dr k.val).judged = true ∧ (s.dr
      k.val).st = .opening ∧ (s.axis (k.val + 1)).st ≠ .fault ∧ (s.axis (k.val + 1)).stage = true ∧ s.standsAt (k.val
      + 1) (s.posOpen k.val) = true) ∧
    (∃ (s : State) (k : Fin 2), s.doorUp k = true ∧ s.drEn (1 - k.val) = false ∧ (s.dr k.val).judged = true ∧ (s.dr
      k.val).st = .opened ∧ (s.dr k.val).closeDue = true ∧ s.drPermit k.val = true ∧ s.doorsFree = true ∧ s.axisHeld
      (k.val + 1) = false ∧ (s.dr k.val).rev < s.pn (drP k.val 0x0D)) ∧
    (∃ (s : State) (k : Fin 2), s.doorUp k = true ∧ s.drEn (1 - k.val) = false ∧ (s.dr k.val).judged = true ∧ (s.dr
      k.val).st = .opened ∧ (s.dr k.val).closeDue = true ∧ s.drPermit k.val = true ∧ s.doorsFree = true ∧ s.axisHeld
      (k.val + 1) = false ∧ s.pn (drP k.val 0x0D) ≤ (s.dr k.val).rev) ∧
    (∃ (s : State) (k : Fin 2), s.doorUp k = true ∧ s.drEn (1 - k.val) = false ∧ (s.dr k.val).judged = true ∧ (s.dr
      k.val).st = .closing ∧ (s.dr k.val).openDue = false ∧ (s.axis (k.val + 1)).st ≠ .fault ∧ (s.axis (k.val +
      1)).stage = true ∧ s.standsAt (k.val + 1) (s.posClosed k.val) = true ∧ s.readsOn (s.drCh k.val 5) = true) ∧
    (∃ (s : State) (k : Fin 2), s.doorUp k = true ∧ s.drEn (1 - k.val) = false ∧ (s.dr k.val).judged = true ∧ (s.dr
      k.val).st = .closing ∧ (s.dr k.val).openDue = false ∧ (s.axis (k.val + 1)).st ≠ .fault ∧ (s.axis (k.val +
      1)).stage = true ∧ s.standsAt (k.val + 1) (s.posClosed k.val) = true ∧ s.readsOff (s.drCh k.val 5) = true) ∧
    (∃ (s : State) (k : Fin 2), s.doorUp k = true ∧ s.drEn (1 - k.val) = false ∧ (s.dr k.val).judged = true ∧ (s.dr
      k.val).st = .closing ∧ (s.dr k.val).openDue = false ∧ (s.axis (k.val + 1)).st ≠ .fault ∧ (s.axis (k.val +
      1)).stage = true ∧ s.standsAt (k.val + 1) (s.posClosed k.val) = true ∧ s.readsOn (s.drCh k.val 5) = false ∧
      s.readsOff (s.drCh k.val 5) = false) ∧
    (∃ (s : State) (k : Fin 2), s.doorUp k = true ∧ s.drEn (1 - k.val) = false ∧ (s.dr k.val).judged = true ∧ (s.dr
      k.val).st = .locking ∧ s.readsOn (s.drCh k.val 4) = true ∧ (s.dr k.val).cycle = false) ∧
    (∃ (s : State) (k : Fin 2), s.doorUp k = true ∧ s.drEn (1 - k.val) = false ∧ (s.dr k.val).judged = true ∧ (s.dr
      k.val).st = .fault ∧ (s.dr k.val).closeDue = true ∧ s.mayMove k.val = true ∧ s.axisHeld (k.val + 1) = false ∧
      (s.axis (k.val + 1)).stands = true ∧ (s.axis (k.val + 1)).verifying = false ∧ (s.axis (k.val + 1)).stage = true) ∧
    (∃ (s : State) (k : Fin 2), s.doorUp k = true ∧ (s.dr k.val).st = .opened ∧ (s.dr k.val).holdEnd ≠ none ∧ (s.dr
      k.val).holdInf = false) ∧
    (∃ (s : State) (k : Fin 2), s.doorUp k = true ∧ (s.dr k.val).st = .unlocking ∧ s.readsOff (s.drCh k.val 4) =
      false) ∧
    (∃ (s : State) (k : Fin 2), s.doorUp k = true ∧ (s.dr k.val).st = .locking ∧ s.readsOn (s.drCh k.val 4) = false) ∧
    (∃ (s : State) (k : Fin 2), s.doorUp k = true ∧ (s.dr k.val).st = .closedLocked ∧ (s.readsOff (s.drCh k.val 5) =
      true ∨ s.readsOff (s.drCh k.val 4) = true)) ∧
    (∃ (s : State) (k : Fin 2), s.doorUp k = true ∧ (s.dr k.val).st = .closing ∧ s.obstructed k.val = true ∧ (s.axis
      (k.val + 1)).moves = true) ∧
    (∃ (s : State) (k : Fin 2), s.doorUp k = true ∧ (s.dr k.val).st = .closing ∧ s.curtained k.val = true) ∧
    (∃ (s : State) (k : Fin 2), s.doorUp k = true ∧ (s.dr k.val).st = .nudging ∧ s.obstructed k.val = true ∧ (s.dr
      k.val).retryWait = false ∧ (s.dr k.val).tries + 1 < (s.dr k.val).maxTries) ∧
    (∃ (s : State) (k : Fin 2), s.doorUp k = true ∧ (s.dr k.val).st = .nudging ∧ s.obstructed k.val = true ∧ (s.dr
      k.val).retryWait = false ∧ (s.dr k.val).maxTries ≤ (s.dr k.val).tries + 1) ∧
    (∃ (s : State) (k : Fin 2), s.doorUp k = true ∧ (s.dr k.val).st = .nudging ∧ (s.dr k.val).retryWait = true ∧
      (s.axis (k.val + 1)).stands = true) :=
  ⟨⟨{ upP [(drP 1 0, 1), (drP 1 4, 4), (drP 1 5, 5)] with door := up.door.set 1 { st := .fault }, awn.inputs := 0x30 },
     1, 5, 4, by decide⟩,
   ⟨{ upP [(drP 1 0, 1), (drP 1 4, 4), (drP 1 5, 5)] with door := up.door.set 1 { st := .fault }, awn.inputs := 0x10 },
     1, 5, 4, by decide⟩,
   ⟨{ upP [(drP 1 0, 1)] with door := up.door.set 1 { st := .closedLocked, judged := true, openDue := true } },
     1, by decide⟩,
   ⟨{ upP [(drP 1 0, 1), (drP 1 4, 4), (drP 1 5, 5)] with door := up.door.set 1 { st := .unlocking, judged := true } },
     1, by decide⟩,
   ⟨{ upP [(drP 1 0, 1), (drP 1 4, 4), (drP 1 5, 5)] with door := up.door.set 1 { st := .opening, judged := true }, mot.ax := up.mot.ax.set 2 { st := .standstill, stage := true, homed := true, x := 25600 * xUnit } },
     1, by decide⟩,
   ⟨{ upP [(drP 1 0, 1)] with door := up.door.set 1 { st := .opened, judged := true, closeDue := true } },
     1, by decide⟩,
   ⟨{ upP [(drP 1 0, 1), (drP 1 4, 4), (drP 1 5, 5)] with door := up.door.set 1 { st := .opened, judged := true, closeDue := true, rev := 99 } },
     1, by decide⟩,
   ⟨{ upP [(drP 1 0, 1), (drP 1 4, 4), (drP 1 5, 5)] with door := up.door.set 1 { st := .closing, judged := true }, awn.inputs := 0x20 },
     1, by decide⟩,
   ⟨{ upP [(drP 1 0, 1), (drP 1 4, 4), (drP 1 5, 5)] with door := up.door.set 1 { st := .closing, judged := true } },
     1, by decide⟩,
   ⟨{ upP [(drP 1 0, 1)] with door := up.door.set 1 { st := .closing, judged := true } }, 1,
     by decide⟩,
   ⟨{ upP [(drP 1 0, 1), (drP 1 4, 4), (drP 1 5, 5)] with door := up.door.set 1 { st := .locking, judged := true }, awn.inputs := 0x30 },
     1, by decide⟩,
   ⟨{ upP [(drP 1 0, 1), (drP 1 4, 4), (drP 1 5, 5)] with door := up.door.set 1 { st := .fault, judged := true, closeDue := true } },
     1, by decide⟩,
   ⟨{ upP [(drP 1 0, 1)] with door := up.door.set 1 { st := .opened, judged := true, holdEnd := some 5 } },
     1, by decide⟩,
   ⟨{ upP [(drP 1 0, 1), (drP 1 4, 4), (drP 1 5, 5)] with door := up.door.set 1 { st := .unlocking, judged := true }, awn.inputs := 0x30 },
     1, by decide⟩,
   ⟨{ upP [(drP 1 0, 1), (drP 1 4, 4), (drP 1 5, 5)] with door := up.door.set 1 { st := .locking, judged := true } },
     1, by decide⟩,
   ⟨{ upP [(drP 1 0, 1), (drP 1 4, 4), (drP 1 5, 5)] with door := up.door.set 1 { st := .closedLocked, judged := true } },
     1, by decide⟩,
   ⟨{ upP [(drP 1 0, 1)] with door := up.door.set 1 { st := .closing, judged := true, obsTicks := 4 }, mot.ax := up.mot.ax.set 2 { st := .moving, stage := true, homed := true, move := some mv } },
     1, by decide⟩,
   ⟨{ upP [(drP 1 0, 1), (drP 1 6, 6)] with door := up.door.set 1 { st := .closing, judged := true } },
     1, by decide⟩,
   ⟨{ upP [(drP 1 0, 1), (drP 1 4, 4), (drP 1 5, 5)] with door := up.door.set 1 { st := .nudging, judged := true, obsTicks := 4, tries := 1, maxTries := 3 } },
     1, by decide⟩,
   ⟨{ upP [(drP 1 0, 1), (drP 1 4, 4), (drP 1 5, 5)] with door := up.door.set 1 { st := .nudging, judged := true, obsTicks := 4, tries := 2, maxTries := 3 } },
     1, by decide⟩,
   ⟨{ upP [(drP 1 0, 1)] with door := up.door.set 1 { st := .nudging, judged := true, retryWait := true } },
     1, by decide⟩⟩

theorem wit_GrinderStartEvents :
    (∃ (s : State), s.grind.precharge = some false ∧ s.heldAtSafe 3 = true) ∧
    (∃ (s : State), s.grind.precharge = some false ∧ s.heldAtSafe 3 = false) ∧
    (∃ (s : State), s.grind.precharge = some true) ∧
    (∃ (s : State), s.grind.precharge ≠ none) ∧
    (∃ (s : State), s.grind.st = .align) ∧
    (∃ (s : State) (w : W24), s.grind.st = .ramp ∧ s.handoverOk w = true) ∧
    (∃ (s : State), s.grind.st = .ramp ∧ s.grind.fails = 0) ∧
    (∃ (s : State), s.grind.st = .ramp ∧ s.grind.fails ≠ 0) ∧
    (∃ (s : State), s.grind.st = .run ∧ s.grind.precharge = none) ∧
    (∃ (s : State), s.grind.doseRun = true ∧ s.grind.precharge = none ∧ s.grind.dose ≤ s.grind.count ∧ s.grind.st =
      .run) ∧
    (∃ (s : State), s.grind.st ≠ .disabled) :=
  ⟨⟨{ up with grind.precharge := some false, txn.st := .waiting, txn.id := 7, txn.staged := [(0x2800, 1)], txn.atSafe := 8 },
     by decide⟩,
   ⟨{ up with grind.precharge := some false }, by decide⟩,
   ⟨{ up with grind.precharge := some true }, by decide⟩,
   ⟨{ up with grind.precharge := some true }, by decide⟩,
   ⟨{ up with grind.st := .align }, by decide⟩,
   ⟨{ up with grind.st := .ramp, grind.target := 1000 * up.pn 0x2814 }, w24 (up.pn 0x2814), by decide⟩,
   ⟨{ up with grind.st := .ramp }, by decide⟩,
   ⟨{ up with grind.st := .ramp, grind.fails := 1 }, by decide⟩,
   ⟨{ up with grind.st := .run }, by decide⟩,
   ⟨{ up with grind.st := .run, grind.doseRun := true, grind.dose := 5, grind.count := 5 }, by decide⟩,
   ⟨up, by decide⟩⟩

theorem wit_GrinderLossAndStop :
    (∃ (s : State), s.grind.st = .run ∧ s.grind.attempt.val < 2) ∧
    (∃ (s : State), s.grind.st = .run ∧ s.grind.attempt = 2) ∧
    (∃ (s : State), s.grind.st = .catching ∧ s.grind.settled = false) ∧
    (∃ (s : State) (v : W24), s.grind.st = .catching ∧ s.grind.settled = true ∧ s.grind.switching = false ∧ (s.pn
      0x2824 : Int) ≤ v.int) ∧
    (∃ (s : State) (v : W24), s.grind.st = .catching ∧ s.grind.settled = true ∧ s.grind.switching = false ∧ v.int <
      (s.pn 0x2824 : Int)) ∧
    (∃ (s : State), s.grind.st = .catching ∧ s.grind.settled = true ∧ s.grind.switching = false ∧ s.grind.attempt = 1) ∧
    (∃ (s : State), s.grind.st = .catching ∧ s.grind.switching = true) ∧
    (∃ (s : State), s.grind.st = .catching ∧ s.grind.switching = true ∧ s.grind.attempt = 1) ∧
    (∃ (s : State), s.grind.st = .catching ∧ s.grind.switching = true ∧ s.grind.attempt ≠ 1) ∧
    (∃ (s : State), s.grind.st = .run ∧ s.grind.attempt ≠ 0) ∧
    (∃ (s : State), s.grind.st = .run) ∧
    (∃ (s : State), s.grind.st = .unjam ∧ s.grind.precharge = none ∧ s.grind.switching = true) ∧
    (∃ (s : State), s.grind.st = .unjam ∧ s.grind.precharge = none ∧ s.grind.switching = false) ∧
    (∃ (s : State), s.grind.st = .coast ∧ s.grind.precharge = none) ∧
    (∃ (s : State), s.grind.st = .fault ∧ s.grind.precharge = none) :=
  ⟨⟨{ up with grind.st := .run }, by decide⟩,
   ⟨{ up with grind.st := .run, grind.attempt := 2 }, by decide⟩,
   ⟨{ up with grind.st := .catching }, by decide⟩,
   ⟨{ up with grind.st := .catching, grind.settled := true }, 800, by decide⟩,
   ⟨{ up with grind.st := .catching, grind.settled := true }, 799, by decide⟩,
   ⟨{ up with grind.st := .catching, grind.settled := true, grind.attempt := 1 }, by decide⟩,
   ⟨{ up with grind.st := .catching, grind.switching := true }, by decide⟩,
   ⟨{ up with grind.st := .catching, grind.switching := true, grind.attempt := 1 }, by decide⟩,
   ⟨{ up with grind.st := .catching, grind.switching := true }, by decide⟩,
   ⟨{ up with grind.st := .run, grind.attempt := 1 }, by decide⟩,
   ⟨{ up with grind.st := .run }, by decide⟩,
   ⟨{ up with grind.st := .unjam, grind.switching := true }, by decide⟩,
   ⟨{ up with grind.st := .unjam }, by decide⟩,
   ⟨{ up with grind.st := .coast }, by decide⟩,
   ⟨{ up with grind.st := .fault }, by decide⟩⟩

theorem wit_TwoWirePortAnswers :
    (∃ (s : State), s.guardUp = true ∧ s.twp.asleep = false) ∧
    (∃ (s : State) (n : Byte), s.guardUp = true ∧ s.twp.asleep = false ∧ s.twp.hbOk = true ∧ n = s.twp.counter + 1) ∧
    (∃ (s : State), s.guardUp = true ∧ s.twp.asleep = false ∧ s.twp.hbOk = false ∧ s.pb 0x4000 = true) ∧
    (∃ (s : State), s.guardUp = true ∧ s.twp.asleep = false ∧ s.estopOk = true ∧ s.grd.stopLatch = true) ∧
    (∃ (s : State) (l : List Byte), s.guardUp = true ∧ s.twp.asleep = false ∧ l.length < 3) ∧
    (∃ (s : State), s.guardUp = true ∧ s.twp.hbOk = true) ∧
    (∃ (s : State), s.twp.sdaLow = true) ∧
    (∃ (s : State), s.guardUp = true ∧ s.glb.sleep = true ∧ s.twp.asleep = false ∧ s.twp.attPend = 0) ∧
    (∃ (s : State), s.twp.asleep = true ∧ s.twp.waking = true) ∧
    (∃ (s : State), s.attDue = true) ∧
    (∃ (s : State), s.attDue = true ∧ s.twp.attTries < 8) ∧
    (∃ (s : State), s.attDue = true ∧ 8 ≤ s.twp.attTries) ∧
    (∃ (s : State), s.twp.attWait = true) :=
  ⟨⟨up, by decide⟩,
   ⟨{ up with twp.hbOk := true, twp.counter := 255 }, 0, by decide⟩,
   ⟨upP [(0x4000, 1)], by decide⟩,
   ⟨{ up with grd.stopLatch := true }, by decide⟩,
   ⟨up, [1, 2], by decide⟩,
   ⟨{ up with twp.hbOk := true }, by decide⟩,
   ⟨{ up with twp.sdaLow := true }, by decide⟩,
   ⟨{ up with glb.sleep := true }, by decide⟩,
   ⟨{ up with twp.asleep := true, twp.waking := true }, by decide⟩,
   ⟨{ up with prm.committed := [(0x4004, 1)], twp.attPend := 1 }, by decide⟩,
   ⟨{ up with prm.committed := [(0x4004, 1)], twp.attPend := 1 }, by decide⟩,
   ⟨{ up with prm.committed := [(0x4004, 1), (0x4005, 3)], twp.attPend := 1, twp.attTries := 8 },
     by decide⟩,
   ⟨{ up with twp.attWait := true }, by decide⟩⟩

theorem wit_DebugPortActs :
    (∃ (s : State), s.dbg.refusing = true) ∧
    (∃ (s : State) (t : State), exec .extest s = .next t ∧ s.land.resetN = true) ∧
    (∃ (s : State) (t : State), exec .extest s = .next t ∧ s.land.resetN = false) ∧
    (∃ (s : State) (t : State), exec .clamp s = .next t) ∧
    (∃ (s : State) (t : State), exec .highz s = .next t) ∧
    (∃ (s : State), s.dbgUp = true ∧ s.dbg.refusing = false) ∧
    (∃ (s : State) (c : Byte) (k : List Byte), s.dbgUp = true ∧ s.tokenOk c k = false) ∧
    (∃ (s : State) (i : FwIsland), s.mayWrite = true ∧ s.haltedIsl (fwNum i) = false ∧ s.activating i = false) ∧
    (∃ (s : State) (i : FwIsland), s.mayWrite = true ∧ s.haltedIsl (fwNum i) = false ∧ s.activating i = true) ∧
    (∃ (s : State) (i : FwIsland), s.dbg.haltReq.getLsbD (fwIdx i) = true ∧ (((∀ a < 5, (s.axis a).stands = true) ∧
      s.grind.still = true) ∨ s.grd.st = .trip)) ∧
    (∃ (s : State) (i : FwIsland), s.mayWrite = true ∧ s.dbg.halted.getLsbD (fwIdx i) = true ∧ s.calm) ∧
    (∃ (s : State), s.calm ∧ s.mayRead = true) ∧
    (∃ (s : State), s.calm ∧ s.dbg.unlocked = false) :=
  ⟨⟨{ up with dbg.refusing := true }, by decide⟩,
   ⟨up, after .extest up, ⟨rfl, by decide⟩⟩,
   ⟨{ up with land.resetN := false }, after .extest { up with land.resetN := false }, ⟨rfl, by decide⟩⟩,
   ⟨up, after .clamp up, rfl⟩,
   ⟨up, after .highz up, rfl⟩,
   ⟨up, by decide⟩,
   ⟨up, 3, [], by decide⟩,
   ⟨{ up with dbg.unlocked := true, dbg.scope := 3 }, .lift, by decide⟩,
   ⟨{ ({ up with dbg.unlocked := true, dbg.scope := 3 } : State) with fw.act := some { ref := rf, isl := .lift } },
     .lift, by decide⟩,
   ⟨{ up with dbg.haltReq := 2 }, .lift, by decide⟩,
   ⟨{ ({ up with dbg.unlocked := true, dbg.scope := 3 } : State) with dbg.halted := 2 }, .lift,
     by unfold State.calm; decide⟩,
   ⟨{ up with dbg.unlocked := true, dbg.scope := 3 }, by unfold State.calm; decide⟩,
   ⟨up, by unfold State.calm; decide⟩⟩

theorem wit_RecorderAndFirmwareEvents :
    (∃ (s : State) (r : Rec) (i : Nat), s.logUp = true ∧ s.log.staged = [r] ∧ r.sev < 7 ∧ s.log.overflow = 0 ∧
      s.log.clear = none ∧ s.slotFor r = some i ∧ 1024 ≤ i) ∧
    (∃ (s : State) (r : Rec) (i : Nat), s.logUp = true ∧ s.log.staged = [r] ∧ r.sev < 7 ∧ s.log.overflow = 0 ∧
      s.log.clear = none ∧ s.slotFor r = some i ∧ 1024 ≤ i ∧ s.barUp = true) ∧
    (∃ (s : State), s.logUp = true) ∧
    (∃ (s : State), s.log.nonce ≠ none) ∧
    (∃ (s : State) (c : ClearRun) (d : Desc) (q : Nat), s.logUp = true ∧ s.sup.level.val < 3 ∧ s.log.clear = some c ∧
      s.ring.block = some (.logClear d q) ∧ s.calm ∧ s.host.running = true ∧ s.dmaOpen = true) ∧
    (∃ (s : State) (j : StageJob), s.fw.stage = some j ∧ s.fw.stageNext = none ∧ j.last = false) ∧
    (∃ (s : State) (j : StageJob), s.fw.stage = some j ∧ s.fw.stageNext = none ∧ j.last = true) ∧
    (∃ (s : State) (a : Activation), s.fw.act = some a ∧ a.phase = .waiting ∧ s.actSafe a.isl = true) ∧
    (∃ (s : State) (a : Activation), s.fw.act = some a ∧ a.phase = .restarting ∧ s.calm ∧ (s.slots (fwIdx
      a.isl)).spare.verified = true) ∧
    (∃ (s : State) (a : Activation), s.fw.act = some a ∧ a.phase = .restarting ∧ s.calm) ∧
    (∃ (s : State) (a : Activation), s.fw.act = some a ∧ a.phase = .restarting ∧ s.globalDue (fwNum a.isl) = false) :=
  ⟨⟨{ up with log.staged := [rc] }, rc, 1024, by decide⟩,
   ⟨{ up with log.staged := [rc] }, rc, 1024, by decide⟩,
   ⟨up, by decide⟩,
   ⟨{ up with log.nonce := some (0, []) }, by decide⟩,
   ⟨{ up with log.clear := some ⟨true, 0, 1⟩, ring.block := some (.logClear {} 1) }, ⟨true, 0, 1⟩,
     {}, 1, by unfold State.calm; decide⟩,
   ⟨{ up with fw.stage := some ⟨rf, .lift, false, 0, []⟩ }, ⟨rf, .lift, false, 0, []⟩, by decide⟩,
   ⟨{ up with fw.stage := some ⟨rf, .lift, true, 0, []⟩ }, ⟨rf, .lift, true, 0, []⟩, by decide⟩,
   ⟨{ up with fw.act := some { ref := rf, isl := .grind } }, { ref := rf, isl := .grind },
     by decide⟩,
   ⟨{ spared with fw.act := some { ref := rf, isl := .grind, phase := .restarting } },
     { ref := rf, isl := .grind, phase := .restarting }, by unfold State.calm; decide⟩,
   ⟨{ up with fw.act := some { ref := rf, isl := .grind, phase := .restarting } },
     { ref := rf, isl := .grind, phase := .restarting }, by unfold State.calm; decide⟩,
   ⟨{ up with fw.act := some { ref := rf, isl := .grind, phase := .restarting } },
     { ref := rf, isl := .grind, phase := .restarting }, by decide⟩⟩

theorem wit_StepRunsTheFront :
    (∃ (c : Instr) (rest : List Instr) (s : State), s.pending = c :: rest) ∧
    (∃ (s : State), s.pending = []) :=
  ⟨⟨.keepalive .grain, [.guardPass], { up with pending := [.keepalive .grain, .guardPass] }, by decide⟩,
   ⟨up, by decide⟩⟩

theorem wit_ResetLeaves :
    (∃ (i : Nat), i < 8) ∧
    (∃ (a : Nat), a < 5) :=
  ⟨⟨7, by decide⟩,
   ⟨4, by decide⟩⟩

theorem wit_StepKeepsLands :
    (∃ (s : State) (t : State), s.landsOk ∧ step s = .next t) :=
  ⟨{ up with pending := [.guardPass] }, after .guardPass up,
     by unfold State.landsOk; exact ⟨by decide, rfl⟩⟩

theorem wit_FramesRoundTrip :
    (∃ (g : GFrame), knownKind g.kind = true) ∧
    (∃ (h : HFrame), knownKind h.kind = true) :=
  ⟨⟨⟨5, 0, 0, 0, 0, 9, 3, 1, 0, 0, 0, 0, 0, 0, 0, 0, 0, 0, 0, 0, 0, 0⟩, by decide +kernel⟩,
   ⟨⟨5, 1, 0, 0, 9, 3, 0, 0, 0, 0, 0, 0, 0, 0, 0, 0, 0, 0, 0, 0, 0, 0, 0, 0, 24000, 0, 0, 0⟩,
     by decide +kernel⟩⟩

theorem wit_OneBadWordIsSeen :
    (∃ (i : Nat) (e : W24), i < 15 ∧ e ≠ 0#24) :=
  ⟨0, 1, by decide⟩

theorem wit_IndexWindowShowsStoredRecords :
    (∃ (s : State) (k : Nat) (r : _), s.log.seqMode = false ∧ k < 8 ∧ (if (s.log.cursor.toNat % 8192 + k) % 8192 <
      1024 then s.log.keep else s.log.roll).lookup ((s.log.cursor.toNat % 8192 + k) % 8192) = some r) ∧
    (∃ (s : State) (k : Nat), s.log.seqMode = false ∧ k < 8 ∧ (if (s.log.cursor.toNat % 8192 + k) % 8192 < 1024 then
      s.log.keep else s.log.roll).lookup ((s.log.cursor.toNat % 8192 + k) % 8192) = none) :=
  ⟨⟨{ up with log.roll := [(1024, rc)], log.cursor := 1020 }, 4, rc, by decide⟩,
   ⟨up, 7, by decide⟩⟩

theorem wit_RefusalsComplete :
    (∃ (s : State) (d : Desc), s.takes d ∧ formOk d false false m0 m0 m0 m0 m0 = false) ∧
    (∃ (s : State) (d : Desc), s.takes d ∧ formOk d false false m0 m0 m0 m0 m0 = true ∧ (s.isl 0 = .recovery ∨ s.isl 0
      = .held)) ∧
    (∃ (s : State) (d : Desc), s.takes d ∧ formOk d false false m0 m0 m0 m0 m0 = true ∧ s.isl 0 = .run ∧ s.isl 1 ≠
      .run) ∧
    (∃ (s : State) (d : Desc), s.takes d ∧ formOk d false false m0 m0 m0 m0 m0 = true ∧ s.isl 0 = .run ∧ s.haltedIsl 2
      = false ∧ s.isl 2 ≠ .run) ∧
    (∃ (s : State) (d : Desc), s.takes d ∧ formOk d false false m0 m0 m0 m0 m0 = true ∧ s.isl 0 = .run ∧ s.haltedIsl 3
      = false ∧ s.isl 3 ≠ .run) ∧
    (∃ (s : State) (d : Desc), s.takes d ∧ formOk d false false m0 m0 m0 m0 m0 = true ∧ s.isl 0 = .run ∧ s.haltedIsl 2
      = true) ∧
    (∃ (s : State) (d : Desc), s.takes d ∧ formOk d false false m0 m0 m0 m0 m0 = true ∧ s.isl 0 = .run ∧ s.haltedIsl 3
      = true) ∧
    (∃ (s : State) (d : Desc), s.takes d ∧ s.islandBars 0x40 = none ∧ formOk d false false mA mA 1 m0 m0 = true ∧
      (arg24 d.d4).toNat ≠ 0 ∧ ((arg24 d.d3).toNat = 0 ∨ (s.pn 0x2814 ≤ (arg24 d.d3).toNat ∧ (arg24 d.d3).toNat ≤ s.pn
      0x2818)) ∧ (1 ≤ s.sup.level.val ∨ s.sup.overV = true)) :=
  ⟨⟨up, ds 1 0 0, by unfold State.takes; decide⟩,
   ⟨{ up with glb.isl := up.glb.isl.set 0 .held }, {}, by unfold State.takes; decide⟩,
   ⟨{ up with glb.isl := up.glb.isl.set 1 .held }, {}, by unfold State.takes; decide⟩,
   ⟨{ up with glb.isl := up.glb.isl.set 2 .held }, {}, by unfold State.takes; decide⟩,
   ⟨{ up with glb.isl := up.glb.isl.set 3 .held }, {}, by unfold State.takes; decide⟩,
   ⟨{ up with dbg.halted := 2 }, {}, by unfold State.takes; decide⟩,
   ⟨{ up with dbg.haltReq := 4 }, {}, by unfold State.takes; decide⟩,
   ⟨{ up with sup.level := 1 }, ds 300 1 1, by unfold State.takes; decide⟩⟩

end Sys2Proof.Tests
end

section
/-! The register writes of BAR0 that have no row of their own (R4, R8, R123, R149, R496, R498): what REGISTER_WRITE completes as. -/

namespace Sys2Proof.Machine

theorem exec_registerWrite (off : Nat) (v : W32) (s : State) : exec (.registerWrite off v) s = execRegisterWrite off v s := rfl

/-- A row whose event can occur completes, apart from reports, as its effect. -/
theorem completesAs_of_doneIf {c : Instr} {p : Bool} {f : State → State} {s t : State} (hx : exec c s = doneIf p f s)
    (hp : p = true) (hq : (f s).quiet = t.quiet) : completesAs c s t :=
  ⟨sync (f s), by rw [hx, doneIf, if_pos hp, done], (quiet_sync (f s)).trans hq⟩

theorem quiet_writeIgnored (off : Nat) (s : State) : (writeIgnored off s).quiet = s.quiet := quiet_raise _ _ _ _ _

/-- Cutting bits 23:0 of a dword to a narrower register gives the lowest bits of the dword (R4). -/
theorem extractLsb'_arg24 (v : W32) (n : Nat) (hn : n ≤ 24) : (arg24 v).extractLsb' 0 n = v.extractLsb' 0 n := by
  ext i hi
  have h24 : i < 24 := by omega
  simp [arg24, h24]

section
variable {s : State} {off : Nat} (v : W32) (hup : s.barUp = true) (hlow : off < 0xF000) (halign : off % 4 = 0)
  (hrow : rowOffsets.contains off = false)
include hup hlow halign hrow

/-- A write that sets nothing up: the rings run, the offset is reserved, or it lies outside the HST_ block. -/
theorem completesAs_registerWrite_unchanged
    (h : s.host.run = true ∨ isReg off = false ∨ off < 0x400 ∨ 0x800 ≤ off) : completesAs (.registerWrite off v) s s := by
  refine completesAs_of_doneIf (exec_registerWrite off v s) (by simp only [hup, halign, hrow]; rfl) ?_
  rw [if_neg (by simp only [Bool.and_eq_true, decide_eq_true_eq]; omega)]
  by_cases hreg : isReg off = true
  · cases hrun : s.host.run with
    | true => simp only [hreg, Bool.not_true, Bool.false_eq_true, if_false, if_true]; exact quiet_writeIgnored off s
    | false =>
      have hout : ¬ (0x400 ≤ off ∧ off < 0x800) := by
        rw [hrun, hreg] at h
        simp only [Bool.false_eq_true, Bool.true_eq_false, false_or] at h; omega
      simp only [hreg, Bool.not_true, Bool.false_eq_true, if_false, Bool.and_eq_true, decide_eq_true_eq, hout]
  · simp only [Bool.not_eq_true] at hreg
    simp only [hreg, Bool.not_false, if_true]

/-- A write to a register of the HST_ block while RUN is clear. -/
theorem completesAs_registerWrite_setup (hrun : s.host.run = false) (hreg : isReg off = true) (hhst : 0x400 ≤ off ∧ off < 0x800) :
    completesAs (.registerWrite off v) s (setupWrite ((off - 0x400) / 4) (arg24 v) s) := by
  refine completesAs_of_doneIf (exec_registerWrite off v s) (by simp only [hup, halign, hrow]; rfl) ?_
  rw [if_neg (by simp only [Bool.and_eq_true, decide_eq_true_eq]; omega)]
  simp only [hreg, hrun, hhst, Bool.not_true, Bool.false_eq_true, decide_true, Bool.and_self, if_false, if_true]

end

theorem setupWrite_ringSize (v : W32) (s : State) : setupWrite 17 (arg24 v) s = { s with host.ringSize := v.extractLsb' 0 12 } := by
  rw [← extractLsb'_arg24 v 12 (by decide)]; rfl

theorem setupWrite_wakeEn (v : W32) (s : State) : setupWrite 25 (arg24 v) s = { s with keep.wakeEn := v.extractLsb' 0 6 } := by
  rw [← extractLsb'_arg24 v 6 (by decide)]; rfl

/-- Settles O13: either nothing is set up, or one register of the HST_ block takes the value. -/
theorem registerWriteRules : Obligations.RegisterWriteRules := by
  intro s v hup
  refine ⟨fun off hlow halign hrow h => completesAs_registerWrite_unchanged v hup hlow halign hrow h, fun hrun => ?_⟩
  have hset (off : Nat) (hhst : 0x400 ≤ off ∧ off < 0x800) (halign : off % 4 = 0) (hrow : rowOffsets.contains off = false)
      (hreg : isReg off = true) : completesAs (.registerWrite off v) s (setupWrite ((off - 0x400) / 4) (arg24 v) s) :=
    completesAs_registerWrite_setup v hup (by omega) halign hrow hrun hreg hhst
  refine ⟨?ringSize, ?pollFast, ?pollIdle, ?pollHold, ?vecMap, ?irqMod, ?wakeEn⟩
  case ringSize => rw [← setupWrite_ringSize]; exact hset 0x444 (by decide) rfl rfl rfl
  case pollFast => exact hset 0x448 (by decide) rfl rfl rfl
  case pollIdle => exact hset 0x44C (by decide) rfl rfl rfl
  case pollHold => exact hset 0x450 (by decide) rfl rfl rfl
  case vecMap => exact hset 0x45C (by decide) rfl rfl rfl
  case irqMod => exact hset 0x460 (by decide) rfl rfl rfl
  case wakeEn => rw [← setupWrite_wakeEn]; exact hset 0x464 (by decide) rfl rfl rfl

end Sys2Proof.Machine
end

section
/-! What the report of an event leaves of KEEP: PE_WAKE_N follows in `sync` alone (R148). -/

namespace Sys2Proof.Machine

theorem foldl_keeps {α β : Type} (g : State → β) (f : State → α → State) (h : ∀ s a, g (f s a) = g s) (l : List α) (s : State) :
    g (l.foldl f s) = g s := by
  induction l generalizing s with
  | nil => rfl
  | cons a t ih => rw [List.foldl_cons, ih, h]

@[simp] theorem keep_sendIrq (k : Nat) (s : State) : (sendIrq k s).keep = s.keep := by
  simp only [sendIrq, apply_ite State.keep, ite_self]

@[simp] theorem keep_putIrq (k : Nat) (s : State) : (putIrq k s).keep = s.keep := by
  simp only [putIrq, apply_ite State.keep, ite_self]

@[simp] theorem keep_irqMod (e u : Bool) (s : State) : (irqMod e u s).keep = s.keep := by
  simp only [irqMod, apply_ite State.keep, keep_sendIrq, ite_self]

@[simp] theorem keep_placeEvt (c : W16) (v : Nat) (q a b : W32) (u : Bool) (s : State) : (placeEvt c v q a b u s).keep = s.keep := by
  simp only [placeEvt, putEvt, apply_ite State.keep, keep_irqMod, ite_self]

@[simp] theorem keep_postEvt (c : W16) (v : Nat) (q a b : W32) (u : Bool) (s : State) : (postEvt c v q a b u s).keep = s.keep := by
  simp only [postEvt, apply_ite State.keep, keep_placeEvt, ite_self]

@[simp] theorem keep_putCpl (op : Byte) (tag : W32) (g : Bool) (st : Status) (q : W32) (r : W24) (x : Byte) (s : State) :
    (putCpl op tag g st q r x s).keep = s.keep := keep_irqMod _ _ _

@[simp] theorem keep_bumpWin (o s : State) : (bumpWin o s).keep = s.keep := by
  simp only [bumpWin, apply_ite State.keep, ite_self]

@[simp] theorem keep_stageAt (c : W16) (v i : Nat) (f : Byte) (a b x y : W24) (s : State) : (stageAt c v i f a b x y s).keep = s.keep :=
  keep_bumpWin _ _

@[simp] theorem keep_attention (n : Nat) (s : State) : (attention n s).keep = s.keep := by
  simp only [attention, apply_ite State.keep, ite_self]

theorem wakeN_stage (c : W16) (v i : Nat) (f : Byte) (a b x y : W24) (s : State) :
    (stage c v i f a b x y s).2.keep.wakeN = s.keep.wakeN := by
  simp only [stage, unstaged, apply_ite Prod.snd, apply_ite State.keep, apply_ite KeepSt.wakeN, keep_bumpWin, keep_stageAt, ite_self]

theorem wakeN_raiseCore (c : W16) (v i : Nat) (a b x y : W24) (s : State) :
    (raiseCore c v i a b x y s).keep.wakeN = s.keep.wakeN := by
  simp only [raiseCore, apply_ite State.keep, keep_postEvt, ite_self, wakeN_stage]

theorem wakeN_setCrit (n : Nat) (s : State) : (setCrit n s).keep.wakeN = s.keep.wakeN := by
  simp only [setCrit, wake, apply_ite State.keep, apply_ite KeepSt.wakeN, keep_attention, wakeN_raiseCore, ite_self]

theorem wakeN_writeRec (r : Rec) (n : Nat) (bad : List Nat) (s : State) : (writeRec r n bad s).keep.wakeN = s.keep.wakeN := by
  induction n generalizing s with
  | zero => unfold writeRec; split <;> simp only [wakeN_setCrit]
  | succ n ih =>
    unfold writeRec
    split
    · rw [wakeN_setCrit]
    · simp only [apply_ite State.keep, apply_ite KeepSt.wakeN, ih, wakeN_raiseCore, wakeN_setCrit, ite_self]

theorem wakeN_drain (bad : List Nat) (s : State) : (drain bad s).keep.wakeN = s.keep.wakeN :=
  foldl_keeps (·.keep.wakeN) _ (fun u r => by simp only [keep_bumpWin, wakeN_writeRec]) _ s

theorem wakeN_reportOverflow (s : State) : (reportOverflow s).keep.wakeN = s.keep.wakeN := by
  simp only [reportOverflow, apply_ite State.keep, apply_ite KeepSt.wakeN, wakeN_setCrit, wakeN_raiseCore, ite_self]

theorem wakeN_flush (s : State) : (flush s).keep.wakeN = s.keep.wakeN := by
  simp only [flush, flushBad, apply_ite State.keep, apply_ite KeepSt.wakeN, keep_sendIrq, wakeN_drain, wakeN_reportOverflow, ite_self]

theorem wakeN_raise (c : W16) (v : Nat) (a b : W24) (s : State) : (raise c v a b s).keep.wakeN = s.keep.wakeN := by
  simp only [raise, raiseBy, flushOn, apply_ite State.keep, apply_ite KeepSt.wakeN, wakeN_flush, wakeN_raiseCore, ite_self]

theorem keep_sync (s : State) : (sync s).keep = { s.keep with wakeN := s.wakeNow } := by
  have hdue (u : State) : (sendDue u).keep = u.keep := by
    have h := foldl_keeps State.keep (fun t k => if t.irqOpen then putIrq k t else t)
      (fun t k => by simp only [apply_ite State.keep, keep_putIrq, ite_self]) u.ring.irqDue { u with ring.irqDue := [] }
    simp only [sendDue, apply_ite State.keep, h, ite_self]
  simp only [sync, hdue, mirrorSync, apply_ite State.keep, writeMirror_keep, ite_self]

end Sys2Proof.Machine
end

section
/-! The register writes of BAR0 with rows of their own (R18, R91, R147, R217, R222, R454, R461). -/

namespace Sys2Proof.Machine

theorem exec_hstWakeCauseWrite (v : W32) (s : State) : exec (.hstWakeCauseWrite v) s = execHstWakeCauseWrite v s := rfl
theorem exec_glbCause (v : W32) (s : State) : exec (.glbCause v) s = execGlbCause v s := rfl
theorem exec_prmId (v : W32) (s : State) : exec (.prmId v) s = execPrmId v s := rfl
theorem exec_logCursor (v : W32) (s : State) : exec (.logCursor v) s = execLogCursor v s := rfl
theorem exec_logWinCtl (v : W32) (s : State) : exec (.logWinCtl v) s = execLogWinCtl v s := rfl
theorem exec_hstJrnCursor (v : W32) (s : State) : exec (.hstJrnCursor v) s = execHstJrnCursor v s := rfl

/-- Settles O12: each row is its access code's effect on one field, and the report of a discarded write. -/
theorem writesWithSideEffects : Obligations.WritesWithSideEffects := by
  intro s v hup
  refine ⟨⟨?wakeCause, ?wakeCauseOnly⟩, ?glbCause, ?prmId, ?logCursor, ?logWinCtl, ?jrnCursor⟩
  case wakeCause => exact ⟨_, (exec_hstWakeCauseWrite v s).trans (if_pos hup), congrArg KeepSt.cause (keep_sync _)⟩
  case wakeCauseOnly => exact completesAs_of_doneIf (exec_hstWakeCauseWrite v s) hup rfl
  case glbCause =>
    refine completesAs_of_doneIf (exec_glbCause v s) hup ?_
    cases s.host.run with
    | true => exact quiet_writeIgnored 0x0004 s
    | false => rfl
  case prmId => exact completesAs_of_doneIf (exec_prmId v s) hup rfl
  case logCursor => exact completesAs_of_doneIf (exec_logCursor v s) hup rfl
  case logWinCtl => exact completesAs_of_doneIf (exec_logWinCtl v s) hup rfl
  case jrnCursor => exact completesAs_of_doneIf (exec_hstJrnCursor v s) hup rfl

end Sys2Proof.Machine
end

section
/-! What the loss, the reset and the boot of HOST leave alone (R80, R107, R108, R114, R494). -/

namespace Sys2Proof.Machine

/-- What the reset of HOST, its boot and the end of a transaction leave alone: the state without reports, journal and rings, without
the transaction, the image banks, live values and LINK's shares, and without island states, the slots in use, the mark of D3cold and
the host-silence timer. -/
def State.outsideHost (s : State) : State :=
  { s.rest with
    txn := {}, prm.bankA := {}, prm.bankB := {}, prm.live := [], prm.due := [], awn.shadow := [], awn.discardDue := false, awn.writes := []
    glb.bankBad := false, glb.isl := Vector.replicate 8 .off, fw.slots := Vector.replicate 3 {}, host.d3cold := false, sil := {} }

theorem outsideHost_of_rest {s t : State} (h : t.rest = s.rest) : t.outsideHost = s.outsideHost := by
  simp only [State.outsideHost, h]

theorem outsideHost_of_quiet {s t : State} (h : t.quiet = s.quiet) : t.outsideHost = s.outsideHost :=
  outsideHost_of_rest (rest_of_quiet h)

theorem outsideHost_ite (c : Prop) [Decidable c] {a b s : State} (ha : a.outsideHost = s.outsideHost) (hb : b.outsideHost = s.outsideHost) :
    (if c then a else b).outsideHost = s.outsideHost := by split <;> assumption

theorem outsideHost_withHost {s t : State} (h : t.outsideHost = s.outsideHost) (x : HostSt) :
    ({ t with host := x } : State).outsideHost = ({ s with host := x } : State).outsideHost := by
  have hset (u : State) : ({ u with host := x } : State).outsideHost = ({ u.outsideHost with host := x } : State).outsideHost := rfl
  rw [hset t, h, ← hset s]

theorem outsideHost_withTxn (x : TxnSt) (s : State) : ({ s with txn := x } : State).outsideHost = s.outsideHost := rfl

theorem outsideHost_withSlots (x : Vector FwSlots 3) (s : State) : ({ s with fw.slots := x } : State).outsideHost = s.outsideHost := rfl

theorem outsideHost_setIsl (i : Nat) (v : IslState) (s : State) : (s.setIsl i v).outsideHost = s.outsideHost := rfl

theorem outsideHost_raise (c : W16) (v : Nat) (a b : W24) (s : State) : (raise c v a b s).outsideHost = s.outsideHost :=
  outsideHost_of_quiet (quiet_raise c v a b s)

/-! ### The end of a transaction and of HOST's commands -/

theorem rest_finishC (x : Byte) (r : Ref) (st : Status) (w : W24) (e : Byte) (s : State) : (finishC x r st w e s).rest = s.rest := by
  simp only [finishC]
  split
  · split
    · rfl
    · rw [rest_of_quiet (quiet_putDone _ _ _ _)]; rfl
  · rfl

theorem outsideHost_imageAbort (s : State) : (imageAbort s).outsideHost = s.outsideHost := rfl

theorem outsideHost_discardShares (s : State) : (discardShares s).outsideHost = s.outsideHost := by
  simp only [discardShares]; split <;> rfl

theorem outsideHost_txnTo (st : TxnState) (s : State) : (txnTo st s).outsideHost = s.outsideHost :=
  outsideHost_ite _ rfl (by rw [outsideHost_of_quiet (quiet_sendIrq _ _)]; rfl)

theorem outsideHost_rollback (x i : Nat) (s : State) : (rollback x i s).outsideHost = s.outsideHost := by
  have hshares : (discardShares (if s.committing = true then imageAbort s else s)).outsideHost = s.outsideHost :=
    (outsideHost_discardShares _).trans (outsideHost_ite _ (outsideHost_imageAbort s) rfl)
  simp only [rollback]
  rw [outsideHost_txnTo]
  split
  · rw [outsideHost_raise, outsideHost_withTxn, hshares]
  · rw [outsideHost_of_rest (rest_finishC _ _ _ _ _ _), outsideHost_raise, outsideHost_withTxn, hshares]

theorem outsideHost_txnHostStop (s : State) : (txnHostStop s).outsideHost = s.outsideHost :=
  outsideHost_ite _ (outsideHost_rollback 6 15 s) rfl

theorem outsideHost_dropBlock (s : State) : (dropBlock s).outsideHost = s.outsideHost := by
  simp only [dropBlock]; split <;> rfl

theorem rest_endBulk (s : State) : (endBulk s).rest = s.rest :=
  foldl_keeps State.rest _ (fun t r => rest_finishC 0 r .internal 0 2 t) _ _

/-! ### HOST lost, reset and booted -/

/-- HOST as the loss of its rings leaves it. -/
def HostSt.stopped (h : HostSt) : HostSt :=
  { h with run := false, running := false, stopping := false, paused := false, sleepReady := false }

theorem outsideHost_hostLost (s : State) : (hostLost s).outsideHost = ({ s with host := s.host.stopped } : State).outsideHost := by
  simp only [hostLost]
  rw [outsideHost_of_rest (rest_endBulk _), outsideHost_txnHostStop, outsideHost_dropBlock]
  rfl

/-- A reset with the reach of PE_PERST_N leaves HOST at its reset values with its generation (R114, R494). -/
theorem outsideHost_hostReset (l : LinkState) (s : State) :
    (hostReset l s).outsideHost = ({ s with host := { gen := s.host.gen, ids := (hostLost s).idsNow, link := l } } : State).outsideHost := by
  have hlost := outsideHost_hostLost s
  have hgen := congrArg (fun u : State => u.host.gen) hlost
  simp only [hostReset, hostRegisters]
  generalize hostLost s = t at hlost hgen ⊢
  rw [show t.host.gen = s.host.gen from hgen, ← outsideHost_withHost hlost]
  rfl

theorem isl_setIsl_same (s : State) (i : Nat) (v : IslState) (hi : i < 8) : (s.setIsl i v).isl i = v := by
  simp [State.isl, State.setIsl, List.getD_eq_getElem?_getD, hi]

theorem isl_hostReset (l : LinkState) (s : State) : (hostReset l s).isl 0 = .off := isl_setIsl_same _ 0 .off (by decide)

theorem outsideHost_bootFw (k : Nat) (s : State) : (bootFw k s).outsideHost = s.outsideHost := by
  have hbad (l : List (Fin 3)) : (l.foldl (fun (u : State) (j : Fin 3) => raise 0x6008 5 (w24 (fwIsl k)) (w24 j.val) u) s).outsideHost = s.outsideHost :=
    foldl_keeps State.outsideHost _ (fun u j => outsideHost_raise _ _ _ _ u) l s
  simp only [bootFw]
  split
  · rw [outsideHost_setIsl, hbad]
  · rw [outsideHost_setIsl, outsideHost_withSlots, hbad]

theorem outsideHost_backInD0 (s : State) : (backInD0 s).outsideHost = s.outsideHost := outsideHost_raise _ _ _ _ _

theorem outsideHost_hostBoot (s : State) : (hostBoot s).outsideHost = s.outsideHost :=
  outsideHost_ite _ rfl (outsideHost_ite _ ((outsideHost_backInD0 _).trans (outsideHost_bootFw 0 s)) (outsideHost_bootFw 0 s))

end Sys2Proof.Machine
end

section
/-! What follows a row after which the decoder may go on, and the opening of DMA (R113, R116, R124, R144). -/

namespace Sys2Proof.Machine

/-! ### What follows when the decoder may have become free -/

theorem answerPower_of_nothingDue (s : State) (h3 : s.host.d3Due = false) (hp : s.host.pmeDue = false) : answerPower s = s := by
  simp only [answerPower, h3, hp, Bool.false_eq_true, if_false, ite_self]

/-- Without a descriptor, a power request or a stop that waits, only SLEEP_READY may follow. -/
theorem resume_calm {s : State} (h : s.calm) : resume s = sleepSync s := by
  obtain ⟨hb, h3, hp, hs⟩ := h
  simp only [resume, answerPower_of_nothingDue s h3 hp, hs, hb, Bool.false_eq_true, if_false, List.length_nil, drainDesc]

theorem sleepSync_eq (s : State) : ∃ x, sleepSync s = { s with host.sleepReady := x } := by
  simp only [sleepSync]
  split
  · exact ⟨true, rfl⟩
  · exact ⟨s.host.sleepReady, rfl⟩

theorem drainDesc_of_not_canDecode {s : State} (h : s.canDecode = false) (n : Nat) : drainDesc n s = s := by
  cases n with
  | zero => rfl
  | succ n => simp only [drainDesc, h, Bool.not_false, if_true]

theorem canDecode_of_d3hot {s : State} (h : s.host.d3hot = true) : s.canDecode = false := by
  simp only [State.canDecode, State.dmaOpen, h, Bool.not_true, Bool.and_false, Bool.false_and]

theorem quiet_mirrorNowSent (s : State) : (mirrorNowSent s).quiet = s.quiet := quiet_ite _ _ _ _ rfl rfl

/-- The state with HOST's bits that the end of a stop, or SLEEP_READY, sets. -/
def State.withRunning (s : State) (running stopping sleepReady : Bool) : State :=
  { s with host.running := running, host.stopping := stopping, host.sleepReady := sleepReady }

theorem outsideHost_withRunning {s t : State} (h : t.outsideHost = s.outsideHost) (a b c : Bool) :
    (t.withRunning a b c).outsideHost = (s.withRunning a b c).outsideHost := by
  have hset (u : State) : (u.withRunning a b c).outsideHost = (u.outsideHost.withRunning a b c).outsideHost := rfl
  rw [hset t, h, ← hset s]

theorem outsideHost_endStop (s : State) : (endStop s).outsideHost = (s.withRunning false false false).outsideHost := by
  refine outsideHost_withRunning ?_ false false false
  rw [outsideHost_of_quiet (quiet_mirrorNowSent _), outsideHost_raise, outsideHost_txnHostStop]
  rfl

/-- In D3hot nothing is decoded: at most a stop that waited ends, or SLEEP_READY follows. -/
theorem outsideHost_resume_d3hot {s : State} (hd : s.host.d3hot = true) (h3 : s.host.d3Due = false) (hp : s.host.pmeDue = false) :
    ∃ a b c, (resume s).outsideHost = (s.withRunning a b c).outsideHost := by
  simp only [resume, answerPower_of_nothingDue s h3 hp, drainDesc_of_not_canDecode (canDecode_of_d3hot hd)]
  split
  · split
    · exact ⟨_, _, _, outsideHost_endStop s⟩
    · exact ⟨s.host.running, s.host.stopping, s.host.sleepReady, rfl⟩
  · obtain ⟨x, hx⟩ := sleepSync_eq s
    exact ⟨s.host.running, s.host.stopping, x, by rw [hx]; rfl⟩

/-! ### Entries and messages that waited for DMA -/

/-- The state without reports and without what a completion entry adds to its ring. -/
def State.sansCpl (s : State) : State := { s.quiet with ring.cpl := [], ring.cplProd := 0 }

theorem sansCpl_of_quiet {s t : State} (h : t.quiet = s.quiet) : t.sansCpl = s.sansCpl := by simp only [State.sansCpl, h]

theorem sansCpl_withCpl (l : List CplEntry) (p : W24) (s : State) :
    ({ s with ring.cpl := l, ring.cplProd := p } : State).sansCpl = s.sansCpl := rfl

theorem sansCpl_post (e : HeldEntry) (s : State) : (HeldEntry.post s e).sansCpl = s.sansCpl := by
  cases e with
  | cpl op tag urgent st jseq result extra =>
    exact (sansCpl_of_quiet (quiet_putCpl op tag urgent st jseq result extra s)).trans (sansCpl_withCpl _ _ s)
  | evt code sev seq w2 w3 urgent => exact sansCpl_of_quiet (quiet_placeEvt code sev seq w2 w3 urgent s)

/-- The pending message of one vector sent where nothing masks it: the step of `flushPba`. -/
def sendPending (s : State) (v : Nat) : State :=
  if s.vectorDue v then
    { s with host.pba := if s.host.cfg.msix then setB s.host.pba v false else s.host.pba
             host.msiPend := if s.host.cfg.msix then s.host.msiPend else setB s.host.msiPend v false
             ring.irqs := (8, v) :: s.ring.irqs } else s

theorem flushPba_eq (s : State) : flushPba s = if !s.irqOpen then s else (List.range 8).foldl sendPending s := rfl

theorem quiet_flushPba (s : State) : (flushPba s).quiet = s.quiet := by
  rw [flushPba_eq]
  exact quiet_ite _ _ _ _ rfl (quiet_foldl sendPending (fun u v => quiet_ite _ _ _ _ rfl rfl) _ s)

theorem keep_flushPba (s : State) : (flushPba s).keep = s.keep := by
  have hsend (u : State) (v : Nat) : (sendPending u v).keep = u.keep := by
    simp only [sendPending, apply_ite State.keep, ite_self]
  simp only [flushPba_eq, apply_ite State.keep, foldl_keeps State.keep sendPending hsend, ite_self]

theorem sansCpl_dmaBack (s : State) : (dmaBack s).sansCpl = s.sansCpl := by
  have hpost : (postWaiting s).sansCpl = s.sansCpl := by
    simp only [postWaiting]
    split
    · rw [foldl_keeps State.sansCpl HeldEntry.post (fun u e => sansCpl_post e u)]; rfl
    · rfl
  exact (sansCpl_of_quiet (quiet_flushPba _)).trans hpost

theorem calm_sansCpl (s : State) : s.sansCpl.calm ↔ s.calm := Iff.rfl

theorem calm_of_sansCpl {s t : State} (h : t.sansCpl = s.sansCpl) (hs : s.calm) : t.calm := by
  rw [← calm_sansCpl, h, calm_sansCpl]; exact hs

theorem keep_post (s : State) (e : HeldEntry) : (HeldEntry.post s e).keep = s.keep := by
  cases e with
  | cpl => exact keep_putCpl _ _ _ _ _ _ _ _
  | evt => exact keep_placeEvt _ _ _ _ _ _ _

theorem keep_dmaBack (s : State) : (dmaBack s).keep = s.keep := by
  simp only [dmaBack, keep_flushPba, postWaiting, apply_ite State.keep, foldl_keeps State.keep HeldEntry.post keep_post, ite_self]

/-- PE_WAKE_N is not driven low where it was released and the link is in L0 (R148). -/
theorem wakeN_sync_of_l0 {s : State} (hw : s.keep.wakeN = false) (hl : s.host.link = .l0) : (sync s).keep.wakeN = false := by
  rw [keep_sync]
  simp [State.wakeNow, hw, hl]

end Sys2Proof.Machine
end

section
/-! Resets, power states and link changes of the host link (R19, R80, R107, R114, R116, R144, R145, R148). -/

namespace Sys2Proof.Machine

/-! ### The rows -/

theorem exec_pePerstNFall (s : State) : exec .pePerstNFall s = execPePerstNFall s := rfl
theorem exec_pePerstNRise (s : State) : exec .pePerstNRise s = execPePerstNRise s := rfl
theorem exec_flr (s : State) : exec .flr s = execFlr s := rfl
theorem exec_referenceClockChange (p : Bool) (s : State) : exec (.referenceClockChange p) s = execReferenceClockChange p s := rfl
theorem exec_busMasterEnable (c : CfgBits) (s : State) : exec (.busMasterEnable c) s = execBusMasterEnable c s := rfl
theorem exec_d3hotEntry (s : State) : exec .d3hotEntry s = execD3hotEntry s := rfl
theorem exec_d0Return (s : State) : exec .d0Return s = execD0Return s := rfl
theorem exec_pmeTurnOff (s : State) : exec .pmeTurnOff s = execPmeTurnOff s := rfl
theorem exec_linkL0 (s : State) : exec .linkL0 s = execLinkL0 s := rfl
theorem exec_linkDown (s : State) : exec .linkDown s = execLinkDown s := rfl

/-- A row whose event can occur completes with what holds of its effect's state, brought into step with its lands and mirror. -/
theorem completes_of_doneIf {c : Instr} {p : Bool} {f : State → State} {s : State} {P : State → Prop} (hx : exec c s = doneIf p f s)
    (hp : p = true) (hP : P (sync (f s))) : completes c s P :=
  ⟨sync (f s), by rw [hx, doneIf, if_pos hp, done], hP⟩

/-- The same for a row after which the decoder goes on. -/
theorem completes_of_doneRIf {c : Instr} {p : Bool} {f : State → State} {s : State} {P : State → Prop} (hx : exec c s = doneRIf p f s)
    (hp : p = true) (hP : P (sync (resume (f s)))) : completes c s P :=
  ⟨sync (resume (f s)), by rw [hx, doneRIf, if_pos hp, doneR, done], hP⟩

theorem outsideHost_sync (s : State) : (sync s).outsideHost = s.outsideHost := outsideHost_of_quiet (quiet_sync s)

theorem isl_of_quiet {s t : State} (h : t.quiet = s.quiet) (i : Nat) : t.isl i = s.isl i := by
  have hi := congrArg (fun u : State => u.isl i) h
  exact hi

theorem cfgUp_ready {s : State} (h : s.cfgUp = true) : s.host.ready = true := by
  simp only [State.cfgUp, Bool.and_eq_true] at h; exact h.2

theorem configRequest_of_cfgUp {s : State} (f : State → State) (h : s.cfgUp = true) : configRequest f s = doneRIf s.cfgUp f s := by
  simp only [configRequest, cfgUp_ready h, Bool.not_true, Bool.and_false, Bool.false_eq_true, if_false]

theorem configRequest_of_not_ready {s : State} (f : State → State) (hs : s.cfgSeen = true) (hr : s.host.ready = false) :
    configRequest f s = .next { s with resp := .crs } := by
  simp only [configRequest, hs, hr, Bool.not_false, Bool.and_self, if_true]

/-! ### PE_PERST_N, FLR and the reference -/

/-- What a state that a reset of HOST left shows of HOST, and of what the reset does not reach. -/
theorem registers_of_hostReset {l : LinkState} {s t : State} (h : t.outsideHost = (hostReset l s).outsideHost) :
    (t.host.run = false ∧ t.host.ready = false ∧ t.host.gen = s.host.gen ∧ t.host.link = l ∧ t.host.ringSize = 0 ∧ t.host.pollFast = 0x32) ∧
      t.land = s.land ∧ t.clk = s.clk ∧ t.glb.cause = s.glb.cause ∧ t.grd = s.grd := by
  rw [outsideHost_hostReset] at h
  have hhost := congrArg State.host h
  refine ⟨⟨(congrArg HostSt.run hhost :), (congrArg HostSt.ready hhost :), (congrArg HostSt.gen hhost :), (congrArg HostSt.link hhost :),
    (congrArg HostSt.ringSize hhost :), (congrArg HostSt.pollFast hhost :)⟩, (congrArg State.land h :), (congrArg State.clk h :),
    (congrArg (fun u : State => u.glb.cause) h :), (congrArg State.grd h :)⟩

/-- The entry into D3cold marked and reported where it is one. -/
theorem quiet_d3cold (cold : Bool) (s : State) :
    ∃ x, (if cold then raise 0x030A 2 4 0 { s with host.d3cold := true } else s).quiet = ({ s with host.d3cold := x } : State).quiet := by
  cases cold with
  | true => exact ⟨true, quiet_raise _ _ _ _ _⟩
  | false => exact ⟨s.host.d3cold, rfl⟩

theorem outsideHost_withCold (x : Bool) (s : State) : ({ s with host.d3cold := x } : State).outsideHost = s.outsideHost := rfl

theorem getLsbD_setB {n : Nat} (x : BitVec n) (i j : Nat) (b : Bool) (hi : i < n) :
    (setB x i b).getLsbD j = if j = i then b else x.getLsbD j := by
  by_cases hj : j = i
  · subst hj; cases b <;> simp [setB, hi]
  · cases b with
    | true => simp [setB, BitVec.getLsbD_twoPow, hj, Ne.symm hj]
    | false => simpa [setB, BitVec.getLsbD_twoPow, hj, Ne.symm hj] using BitVec.lt_of_getLsbD

theorem pePerstNFall_resets {s : State} (h : s.land.perstN = true) : completes .pePerstNFall s (fun t =>
    t.land.perstN = false ∧ t.isl 0 = .off ∧ t.host.run = false ∧ t.host.ready = false ∧ t.host.gen = s.host.gen ∧
      t.host.ringSize = 0 ∧ t.host.pollFast = 0x32 ∧ t.glb.cause.getLsbD 2 = true ∧ t.grd.st = s.grd.st) := by
  refine completes_of_doneIf (exec_pePerstNFall s) h ?_
  dsimp only
  generalize hr : ({ s with land.perstN := false, glb.cause := setB s.glb.cause 2 true, sil.suspended := _ } : State) = r
  obtain ⟨x, hx⟩ := quiet_d3cold (s.host.d3hot || s.host.link = .l23) (hostReset .down r)
  have hq := (quiet_sync _).trans hx
  generalize sync _ = t at hq ⊢
  have hf : t.outsideHost = (hostReset .down r).outsideHost := (outsideHost_of_quiet hq).trans (outsideHost_withCold x _)
  obtain ⟨⟨hrun, hready, hgen, -, hsize, hpoll⟩, hland, -, hcause, hgrd⟩ := registers_of_hostReset hf
  have hisl : t.isl 0 = .off := (isl_of_quiet hq 0).trans (isl_hostReset .down r)
  subst hr
  exact ⟨by rw [hland], hisl, hrun, hready, hgen, hsize, hpoll, by rw [hcause]; exact getLsbD_setB _ 2 2 true (by decide), by rw [hgrd]⟩

theorem outsideHost_sync_hostBoot (s : State) : (sync (hostBoot s)).outsideHost = s.outsideHost :=
  (outsideHost_sync _).trans (outsideHost_hostBoot s)

theorem pePerstNRise_recorded {s : State} (h : s.land.perstN = false) : completes .pePerstNRise s (fun t =>
    t.land.perstN = true ∧ t.host.run = s.host.run ∧ t.host.gen = s.host.gen) := by
  refine completes_of_doneIf (exec_pePerstNRise s) (by rw [h]; rfl) ?_
  have hf := outsideHost_sync_hostBoot { s with land.perstN := true }
  generalize sync _ = t at hf ⊢
  exact ⟨(congrArg (fun u : State => u.land.perstN) hf :), (congrArg (fun u : State => u.host.run) hf :), (congrArg (fun u : State => u.host.gen) hf :)⟩

theorem unsuspend_eq (s : State) : ∃ x, unsuspend s = { s with sil := x } ∧ x.suspended = false := by
  simp only [unsuspend]
  split
  · exact ⟨_, rfl, rfl⟩
  · next h => exact ⟨s.sil, rfl, by simpa using h⟩

theorem outsideHost_unsuspend (s : State) : (unsuspend s).outsideHost = s.outsideHost := outsideHost_ite _ rfl rfl

theorem flr_resets {s : State} (h : s.cfgUp = true) : completes .flr s (fun t =>
    t.host.run = false ∧ t.host.ready = false ∧ t.host.gen = s.host.gen ∧ t.host.link = (if s.host.d3hot = true then .l0 else s.host.link) ∧
      t.host.ringSize = 0 ∧ t.land.perstN = s.land.perstN) := by
  have hx : exec .flr s = doneIf s.cfgUp _ s := (exec_flr s).trans (if_neg (by simp [cfgUp_ready h]))
  refine completes_of_doneIf hx h ?_
  dsimp only
  generalize (if s.host.d3hot = true then LinkState.l0 else s.host.link) = l
  have hd0 (u : State) : (sync (if s.host.d3hot = true then unsuspend (backInD0 u) else u)).outsideHost = u.outsideHost :=
    (outsideHost_sync _).trans (outsideHost_ite _ ((outsideHost_unsuspend _).trans (outsideHost_backInD0 u)) rfl)
  have hf := (hd0 _).trans (outsideHost_hostBoot (hostReset l s))
  obtain ⟨⟨hrun, hready, hgen, hlink, hsize, -⟩, hland, -⟩ := registers_of_hostReset hf
  exact ⟨hrun, hready, hgen, hlink, hsize, by rw [hland]⟩

theorem good_clockBad (i j : Nat) (s : State) (hi : i < 11) :
    (clockBad i s).clk.good.getLsbD j = if j = i then false else s.clk.good.getLsbD j := getLsbD_setB _ i j false hi

theorem referenceLost_resets {s : State} (h : s.clk.refclk = true) (hon : s.isl 0 ≠ .off) :
    completes (.referenceClockChange false) s (fun t =>
      t.clk.refclk = false ∧ t.isl 0 = .off ∧ t.host.link = .down ∧ t.clk.good.getLsbD 5 = false ∧ t.clk.good.getLsbD 6 = false) := by
  refine completes_of_doneIf (exec_referenceClockChange false s) (by rw [h]; rfl) ?_
  dsimp only
  generalize hr : clockBad 5 (clockBad 6 { s with clk.refclk := false }) = r
  have hron : r.isl 0 ≠ .off := by subst hr; exact hon
  simp only [Bool.false_eq_true, if_false, hron]
  have hq := quiet_sync (hostReset .down r)
  generalize sync _ = t at hq ⊢
  obtain ⟨⟨-, -, -, hlink, -⟩, -, hclk, -⟩ := registers_of_hostReset (outsideHost_of_quiet hq)
  have hisl : t.isl 0 = .off := (isl_of_quiet hq 0).trans (isl_hostReset .down r)
  rw [hclk]
  subst hr
  exact ⟨rfl, hisl, hlink, good_clockBad 5 5 _ (by decide), (good_clockBad 5 6 _ (by decide)).trans (good_clockBad 6 6 _ (by decide))⟩

theorem referenceBack_recorded {s : State} (h : s.clk.refclk = false) :
    completes (.referenceClockChange true) s (fun t => t.clk.refclk = true) := by
  refine completes_of_doneIf (exec_referenceClockChange true s) (by rw [h]; rfl) ?_
  have hf := outsideHost_sync_hostBoot { s with clk.refclk := true, clk.good := if s.glb.step.val < 3 then s.clk.good else s.clk.good ||| 0x060#11 }
  exact (congrArg (fun u : State => u.clk.refclk) hf :)

/-! ### Power states and the link -/

/-- A row that leaves nothing for the decoder ends, apart from reports, with its own effect and at most SLEEP_READY. -/
theorem quiet_sync_resume_calm {s : State} (h : s.calm) : ∃ x, (sync (resume s)).quiet = ({ s with host.sleepReady := x } : State).quiet := by
  obtain ⟨x, hx⟩ := sleepSync_eq s
  exact ⟨x, by rw [resume_calm h, hx, quiet_sync]⟩

theorem wakeN_sync_resume_calm {s : State} (h : s.calm) (hw : s.keep.wakeN = false) (hl : s.host.link = .l0) :
    (sync (resume s)).keep.wakeN = false := by
  obtain ⟨x, hx⟩ := sleepSync_eq s
  rw [resume_calm h, hx]
  exact wakeN_sync_of_l0 hw hl

theorem busMasterEnable_sets {s : State} (c : CfgBits) (h : s.cfgUp = true) (hcalm : s.calm) :
    completes (.busMasterEnable c) s (fun t => t.host.cfg = c ∧ t.host.run = s.host.run) := by
  refine completes_of_doneRIf ((exec_busMasterEnable c s).trans (configRequest_of_cfgUp _ h)) h ?_
  have hback := sansCpl_dmaBack { s with host.cfg := c }
  obtain ⟨x, hq⟩ := quiet_sync_resume_calm (calm_of_sansCpl hback hcalm)
  exact ⟨(congrArg (fun v : State => v.host.cfg) hq :).trans (congrArg (fun v : State => v.host.cfg) hback :),
    (congrArg (fun v : State => v.host.run) hq :).trans (congrArg (fun v : State => v.host.run) hback :)⟩

theorem host_of_quiet {s t : State} (h : t.quiet = s.quiet) : t.host.d3hot = s.host.d3hot ∧ t.host.d3Due = s.host.d3Due ∧
    t.host.pmeDue = s.host.pmeDue ∧ t.host.link = s.host.link ∧ t.host.run = s.host.run ∧ t.host.cfg = s.host.cfg := by
  have hhost := congrArg State.host h
  exact ⟨(congrArg HostSt.d3hot hhost :), (congrArg HostSt.d3Due hhost :), (congrArg HostSt.pmeDue hhost :), (congrArg HostSt.link hhost :),
    (congrArg HostSt.run hhost :), (congrArg HostSt.cfg hhost :)⟩

/-- D3hot entered (R144): the link in L1, the request answered, RUN as it was. -/
theorem host_enterD3 (s : State) : (enterD3 s).host.d3hot = true ∧ (enterD3 s).host.d3Due = false ∧
    (enterD3 s).host.pmeDue = s.host.pmeDue ∧ (enterD3 s).host.link = .l1 ∧ (enterD3 s).host.run = s.host.run := by
  obtain ⟨hd3, hdue, hpme, hlink, hrun, -⟩ := host_of_quiet (quiet_raise 0x030A 2 3 0 { s with
    host.d3Due := false, host.d3hot := true, host.link := .l1, sil.suspended := s.sil.suspended || (s.host.sleepReady && s.sil.armed && !s.sil.active) })
  exact ⟨hd3, hdue, hpme, hlink, hrun⟩

theorem answerPower_d3Due {s : State} (hi : s.decoderIdle = true) (hd : s.host.d3Due = true) (hp : s.host.pmeDue = false) :
    answerPower s = enterD3 s := by
  obtain ⟨-, -, hpme, -⟩ := host_enterD3 s
  simp only [answerPower, hi, hd, hpme, hp, Bool.not_true, Bool.false_eq_true, if_false, if_true]

theorem answerPower_pmeDue {s : State} (hi : s.decoderIdle = true) (hd : s.host.d3Due = false) (hp : s.host.pmeDue = true) :
    answerPower s = answerPme s := by
  simp only [answerPower, hi, hd, hp, Bool.not_true, Bool.false_eq_true, if_false, if_true]

theorem d3hotEntry_enters {s : State} (h : s.cfgUp = true) (hd : s.host.d3hot = false) (hi : s.decoderIdle = true) (hp : s.host.pmeDue = false) :
    completes .d3hotEntry s (fun t => t.host.d3hot = true ∧ t.host.d3Due = false ∧ t.host.link = .l1 ∧ t.host.run = s.host.run) := by
  refine completes_of_doneRIf ((exec_d3hotEntry s).trans (configRequest_of_cfgUp _ h)) h ?_
  have hnot : ¬ s.host.d3hot = true := by rw [hd]; decide
  have he : answerPower { s with host.d3Due := true } = enterD3 { s with host.d3Due := true } := answerPower_d3Due hi rfl hp
  dsimp only
  rw [if_neg hnot]
  generalize answerPower _ = u at he ⊢
  obtain ⟨hd3, hdue, hpme, hlink, hrun⟩ := host_enterD3 { s with host.d3Due := true }
  rw [← he] at hd3 hdue hpme hlink hrun
  obtain ⟨a, b, c, hr⟩ := outsideHost_resume_d3hot hd3 hdue (hpme.trans hp)
  have hf := (outsideHost_sync (resume u)).trans hr
  generalize sync (resume u) = t at hf ⊢
  have hhost := congrArg State.host hf
  exact ⟨(congrArg HostSt.d3hot hhost :).trans hd3, (congrArg HostSt.d3Due hhost :).trans hdue, (congrArg HostSt.link hhost :).trans hlink,
    (congrArg HostSt.run hhost :).trans hrun⟩

theorem d0Return_enters {s : State} (h : s.cfgUp = true) (hd : s.host.d3hot = true) (hcalm : s.calm) :
    completes .d0Return s (fun t => t.host.d3hot = false ∧ t.host.link = .l0 ∧ t.keep.wakeN = false ∧ t.sil.suspended = false) := by
  refine completes_of_doneRIf ((exec_d0Return s).trans (configRequest_of_cfgUp _ h)) h ?_
  simp only [hd, Bool.not_true, Bool.false_eq_true, if_false]
  generalize ht : ({ s with host.d3hot := false, host.link := .l0, host.pmePending := false, keep.wakeN := false } : State) = t
  have hback : (raise 0x030A 2 0 0 (dmaBack t)).sansCpl = t.sansCpl := (sansCpl_of_quiet (quiet_raise _ _ _ _ _)).trans (sansCpl_dmaBack t)
  have hwake : (raise 0x030A 2 0 0 (dmaBack t)).keep.wakeN = t.keep.wakeN := by rw [wakeN_raise, keep_dmaBack]
  generalize raise 0x030A 2 0 0 (dmaBack t) = u at hback hwake ⊢
  have hu : u.calm := calm_of_sansCpl hback (by subst ht; exact hcalm)
  have hlink : u.host.link = .l0 := (congrArg (fun v : State => v.host.link) hback :).trans (by subst ht; rfl)
  have hd3 : u.host.d3hot = false := (congrArg (fun v : State => v.host.d3hot) hback :).trans (by subst ht; rfl)
  have hw : u.keep.wakeN = false := hwake.trans (by subst ht; rfl)
  obtain ⟨x, hsil, hsus⟩ := unsuspend_eq u
  rw [hsil]
  have hc : ({ u with sil := x } : State).calm := hu
  obtain ⟨y, hq⟩ := quiet_sync_resume_calm hc
  exact ⟨(congrArg (fun v : State => v.host.d3hot) hq :).trans hd3, (congrArg (fun v : State => v.host.link) hq :).trans hlink,
    wakeN_sync_resume_calm hc hw hlink, (congrArg (fun v : State => v.sil.suspended) hq :).trans hsus⟩

theorem pmeTurnOff_ends {s : State} (hl : s.host.link = .l0 ∨ s.host.link = .l1) (hi : s.decoderIdle = true) (hd : s.host.d3Due = false) :
    completes .pmeTurnOff s (fun t => t.host.link = .l23 ∧ t.host.pmeDue = false) := by
  refine completes_of_doneIf (exec_pmeTurnOff s) (by simpa using hl) ?_
  have hanswer : answerPower { s with host.pmeDue := true } = answerPme { s with host.pmeDue := true } := answerPower_pmeDue hi hd rfl
  simp only [hanswer]
  have hq := quiet_sync (answerPme { s with host.pmeDue := true })
  exact ⟨(congrArg (fun v : State => v.host.link) hq :), (congrArg (fun v : State => v.host.pmeDue) hq :)⟩

theorem linkL0_trains {s : State} (hon : s.isl 0 ≠ .off) (ha : s.hostAllowed = true) (hl : s.host.link ≠ .l23) (hs : s.sup.level.val < 4)
    (hd : s.host.d3hot = false) (hcalm : s.calm) : completes .linkL0 s (fun t => t.host.link = .l0 ∧ t.keep.wakeN = false) := by
  refine completes_of_doneRIf (exec_linkL0 s) (by simp [hon, ha, hl, hs]) ?_
  have hnot : ¬ s.host.d3hot = true := by rw [hd]; decide
  obtain ⟨x, hsil, -⟩ := unsuspend_eq { s with host.link := .l0, keep.wakeN := false }
  dsimp only at hsil ⊢
  rw [if_neg hnot, if_neg hnot]
  generalize unsuspend _ = u at hsil ⊢
  have hback := sansCpl_dmaBack u
  have hkeep := keep_dmaBack u
  generalize dmaBack u = v at hback hkeep ⊢
  have hc : v.calm := calm_of_sansCpl hback (by subst hsil; exact hcalm)
  have hlink : v.host.link = .l0 := (congrArg (fun w : State => w.host.link) hback :).trans (by subst hsil; rfl)
  have hw : v.keep.wakeN = false := by rw [hkeep]; subst hsil; rfl
  obtain ⟨y, hq⟩ := quiet_sync_resume_calm hc
  exact ⟨(congrArg (fun w : State => w.host.link) hq :).trans hlink, wakeN_sync_resume_calm hc hw hlink⟩

theorem configRequest_retries {c : Instr} {s : State} {f : State → State} (hx : exec c s = configRequest f s) (hs : s.cfgSeen = true)
    (hr : s.host.ready = false) : completesAs c s { s with resp := .crs } :=
  ⟨_, hx.trans (configRequest_of_not_ready f hs hr), rfl⟩

theorem flr_retries {s : State} (hs : s.cfgSeen = true) (hr : s.host.ready = false) : completesAs .flr s { s with resp := .crs } :=
  ⟨_, (exec_flr s).trans (if_pos (by simp [hs, hr])), rfl⟩

theorem linkDown_leaves_down {s : State} (h : s.host.link ≠ .down) :
    completesAs .linkDown s { s with host.link := .down, host.pmeDue := false } :=
  completesAs_of_doneIf (exec_linkDown s) (by simpa using h) rfl

/-- Settles O19, clause by clause: what a reset of HOST leaves, what a boot leaves alone, and what the power and link rows set. -/
theorem linkEventsComplete : Obligations.LinkEventsComplete := by
  refine ⟨fun s h => pePerstNFall_resets h, fun s h => pePerstNRise_recorded h, fun s h => flr_resets h, fun s h hon => referenceLost_resets h hon,
    fun s h => referenceBack_recorded h, fun s c h hb h3 hp hs => busMasterEnable_sets c h ⟨hb, h3, hp, hs⟩,
    fun s h hd hi hp => d3hotEntry_enters h hd hi hp, fun s h hd h3 hb hp hs => d0Return_enters h hd ⟨hb, h3, hp, hs⟩,
    fun s hl hi hd => pmeTurnOff_ends hl hi hd,
    fun s hon ha hl hv hd hb h3 hp hs => linkL0_trains hon ha hl hv hd ⟨hb, h3, hp, hs⟩, ?retry, fun s h => linkDown_leaves_down h⟩
  intro s c hs hr
  exact ⟨configRequest_retries (exec_busMasterEnable c s) hs hr, configRequest_retries (exec_d3hotEntry s) hs hr,
    configRequest_retries (exec_d0Return s) hs hr, flr_retries hs hr⟩

end Sys2Proof.Machine
end

section
/-! What the steps of a start decide, and what the reports, the reactions of the guard and the boots leave of it (R96 to R101). -/

namespace Sys2Proof.Machine

theorem isl_setIsl (s : State) {i : Nat} (hi : i < 8) (v : IslState) (j : Nat) : (s.setIsl i v).isl j = if j = i then v else s.isl j := by
  by_cases hj : j = i
  · subst hj; rw [isl_setIsl_same s j v hi, if_pos rfl]
  · simp [State.isl, State.setIsl, List.getD_eq_getElem?_getD, List.getElem?_set_ne (Ne.symm hj), hj]

/-- What the steps of a start decide and what decides them: times, straps, what holds the reset, the guard with its ESTOP channels, and the
islands that hold no firmware. -/
structure StartView where
  now : Nat
  step : Fin 8
  startAt : Nat
  bootSel : Bool
  twAdr : BitVec 3
  held : BitVec 3
  waitCrystal : Bool
  crystal : Bool
  land : LandSt
  estopA : Bool
  estopB : Bool
  guardSt : GuardState
  guardCause : Fin 32
  mounted : Bool
  motion : IslState
  guard : IslState
  log : IslState
  link : IslState
  keep : IslState

def State.startView (s : State) : StartView where
  now := s.now
  step := s.glb.step
  startAt := s.glb.startAt
  bootSel := s.glb.bootSel
  twAdr := s.glb.twAdr
  held := s.glb.held
  waitCrystal := s.glb.waitCrystal
  crystal := s.clk.crystal
  land := s.land
  estopA := s.grd.estopA
  estopB := s.grd.estopB
  guardSt := s.grd.st
  guardCause := s.grd.cause
  mounted := s.log.mounted
  motion := s.isl 1
  guard := s.isl 4
  log := s.isl 5
  link := s.isl 6
  keep := s.isl 7

/-! ### Reports, outcomes and island states -/

theorem startView_of_quiet {s t : State} (h : t.quiet = s.quiet) : t.startView = s.startView := (congrArg State.startView h :)

theorem startView_of_rest {s t : State} (h : t.rest = s.rest) : t.startView = s.startView := (congrArg State.startView h :)

@[simp] theorem startView_sync (s : State) : (sync s).startView = s.startView := startView_of_quiet (quiet_sync s)

@[simp] theorem startView_raise (c : W16) (v : Nat) (a b : W24) (s : State) : (raise c v a b s).startView = s.startView :=
  startView_of_quiet (quiet_raise c v a b s)

@[simp] theorem startView_lateRec (c : W16) (v : Nat) (a b : W24) (s : State) : (lateRec c v a b s).startView = s.startView :=
  startView_of_quiet (quiet_lateRec c v a b s)

@[simp] theorem startView_setCrit (n : Nat) (s : State) : (setCrit n s).startView = s.startView := startView_of_quiet (quiet_setCrit n s)

@[simp] theorem startView_sendIrq (k : Nat) (s : State) : (sendIrq k s).startView = s.startView := startView_of_quiet (quiet_sendIrq k s)

@[simp] theorem startView_finish (r : Ref) (st : Status) (w : W24) (e : Byte) (s : State) : (finish r st w e s).startView = s.startView :=
  startView_of_rest (rest_finishC 0 r st w e s)

@[simp] theorem startView_finishAll (l : List Ref) (st : Status) (w : W24) (e : Byte) (s : State) :
    (finishAll l st w e s).startView = s.startView :=
  foldl_keeps State.startView _ (fun t r => startView_finish r st w e t) l s

theorem startView_setIsl (s : State) {i : Nat} (hi : i < 8) (v : IslState) : (s.setIsl i v).startView = { s.startView with
    motion := if 1 = i then v else s.isl 1, guard := if 4 = i then v else s.isl 4, log := if 5 = i then v else s.isl 5
    link := if 6 = i then v else s.isl 6, keep := if 7 = i then v else s.isl 7 } := by
  simp only [State.startView, isl_setIsl s hi v]; rfl

theorem startView_setIsl_fwIsl {k : Nat} (hk : k < 3) (v : IslState) (s : State) : (s.setIsl (fwIsl k) v).startView = s.startView := by
  match k, hk with
  | 0, _ => exact startView_setIsl s (by decide) v
  | 1, _ => exact startView_setIsl s (by decide) v
  | 2, _ => exact startView_setIsl s (by decide) v

end Sys2Proof.Machine
end

section
/-! What the guard's stop and trip reactions leave of a start: axes, doors, car, grinder, field commands and a waiting activation (Table 10-1). -/

namespace Sys2Proof.Machine

/-! ### Axes and outputs -/

@[simp] theorem startView_axMod (a : Nat) (f : Axis → Axis) (s : State) : (axMod a f s).startView = s.startView := rfl

@[simp] theorem startView_axStop (emg : Bool) (a : Nat) (st : Status) (e : Byte) (s : State) : (axStop emg a st e s).startView = s.startView := by
  simp only [axStop, apply_ite State.startView, startView_finishAll, startView_axMod, ite_self]

@[simp] theorem startView_axDisable (a : Nat) (st : Status) (e : Byte) (s : State) : (axDisable a st e s).startView = s.startView := by
  simp only [axDisable, startView_finishAll, startView_axMod]; rfl

@[simp] theorem startView_driveOut (c : Option Nat) (on : Bool) (s : State) : (driveOut c on s).startView = s.startView := by
  cases c <;> rfl

/-! ### The car -/

@[simp] theorem startView_brakeSet (on : Bool) (s : State) : (brakeSet on s).startView = s.startView := startView_driveOut _ _ _

@[simp] theorem startView_endCalls (st : Status) (e : Byte) (s : State) : (endCalls st e s).startView = s.startView := by
  simp only [endCalls, apply_ite State.startView, startView_raise, startView_finishAll]; exact ite_self _

@[simp] theorem startView_enterHold (c : Nat) (s : State) : (enterHold c s).startView = s.startView := by
  simp only [enterHold, startView_finishAll, startView_raise]; rfl

@[simp] theorem startView_toIdle (s : State) : (toIdle s).startView = s.startView := by
  unfold toIdle; split
  · exact startView_enterHold _ s
  · rfl

@[simp] theorem startView_carLost (s : State) : (carLost s).startView = s.startView := startView_endCalls _ _ _

@[simp] theorem startView_liftFaultEnd (s : State) : (liftFaultEnd s).startView = s.startView := by
  simp only [liftFaultEnd, apply_ite State.startView, startView_carLost, startView_axMod, startView_axDisable, startView_brakeSet, ite_self]

@[simp] theorem startView_liftFault (c : Nat) (s : State) : (liftFault c s).startView = s.startView := by
  simp only [liftFault, apply_ite State.startView, startView_liftFaultEnd, startView_axStop, startView_finishAll, startView_endCalls,
    startView_raise]
  exact ite_self _

@[simp] theorem startView_homeFail (why c : Nat) (s : State) : (homeFail why c s).startView = s.startView := by
  simp only [homeFail, startView_liftFault, startView_raise]

@[simp] theorem startView_undispatch (s : State) : (undispatch s).startView = s.startView := by
  simp only [undispatch, startView_toIdle, startView_brakeSet]; rfl

@[simp] theorem startView_liftAbandon (s : State) : (liftAbandon s).startView = s.startView := by
  have hstop : (axStop true 0 .interlock 0 { s with lift.abandon := true }).startView = s.startView := startView_axStop _ _ _ _ _
  unfold liftAbandon
  split
  · rfl
  · split
    · exact startView_undispatch s
    · exact hstop
    · exact hstop
    · simp only [apply_ite State.startView, hstop, ite_self]
    · simp only [apply_ite State.startView, startView_homeFail, ite_self]
    · rfl

/-! ### Doors -/

@[simp] theorem startView_drMod (k : Nat) (f : Door → Door) (s : State) : (drMod k f s).startView = s.startView := rfl

@[simp] theorem startView_lockOut (k : Nat) (on : Bool) (s : State) : (lockOut k on s).startView = s.startView := startView_driveOut _ _ _

@[simp] theorem startView_buzz (k : Nat) (on : Bool) (s : State) : (buzz k on s).startView = s.startView := startView_driveOut _ _ _

@[simp] theorem startView_endOpen (k : Nat) (st : Status) (e : Byte) (s : State) : (endOpen k st e s).startView = s.startView :=
  startView_finishAll _ _ _ _ _

@[simp] theorem startView_endClose (k : Nat) (st : Status) (e : Byte) (s : State) : (endClose k st e s).startView = s.startView :=
  startView_finishAll _ _ _ _ _

@[simp] theorem startView_cycleEnd (k : Nat) (ok : Bool) (s : State) : (cycleEnd k ok s).startView = s.startView := by
  simp only [cycleEnd, apply_ite State.startView, startView_toIdle, startView_enterHold, startView_finishAll]
  exact (congrArg _ (ite_self _)).trans (ite_self _)

@[simp] theorem startView_doorFault (k c : Nat) (st : Status) (e : Byte) (s : State) : (doorFault k c st e s).startView = s.startView := by
  simp only [doorFault, apply_ite State.startView, startView_cycleEnd, startView_endClose, startView_endOpen, startView_axMod, startView_axStop,
    startView_raise, startView_buzz, startView_lockOut, startView_drMod, ite_self]

@[simp] theorem startView_doorHalt (k : Nat) (st : Status) (e : Byte) (s : State) : (doorHalt k st e s).startView = s.startView := by
  simp only [doorHalt, apply_ite State.startView, startView_doorFault, ite_self]

/-! ### The grinder -/

@[simp] theorem startView_grindEnable (s : State) : (grindEnable s).startView = s.startView := by
  unfold grindEnable; split
  · rfl
  · split <;> rfl

@[simp] theorem startView_grindEnd (st : Status) (e : Byte) (s : State) : (grindEnd st e s).startView = s.startView := startView_finishAll _ _ _ _ _

@[simp] theorem startView_grindStopsDone (s : State) : (grindStopsDone s).startView = s.startView := startView_finishAll _ _ _ _ _

@[simp] theorem startView_grindCoastCause (st : Status) (e : Byte) (s : State) : (grindCoastCause st e s).startView = s.startView := by
  have hend := startView_grindEnd st e s
  unfold grindCoastCause
  split
  · rw [startView_grindStopsDone, startView_grindEnable]; exact hend
  · split
    case h_6 => split <;> exact hend -- COAST, where a retry may have been due
    all_goals exact hend

/-! ### Field commands -/

@[simp] theorem startView_endWrite (id : Nat) (st : Status) (e : Byte) (s : State) : (endWrite id st e s).startView = s.startView := by
  unfold endWrite
  split
  · rfl
  · split
    · exact startView_finish _ _ _ _ _
    · rfl

@[simp] theorem startView_endPulses (m : BitVec 24) (st : Status) (e : Byte) (s : State) : (endPulses m st e s).startView = s.startView :=
  startView_finishAll _ _ _ _ _

@[simp] theorem startView_endField (fl : Bool) (m : BitVec 24) (st : Status) (e : Byte) (s : State) :
    (endField fl m st e s).startView = s.startView := by
  simp only [endField, endWrites]
  rw [foldl_keeps State.startView _ (fun t i => startView_endWrite i st e t), startView_endPulses]

@[simp] theorem startView_dropOutputs (m : BitVec 17) (s : State) : (dropOutputs m s).startView = s.startView := startView_endField _ _ _ _ _

/-! ### A firmware activation -/

theorem startView_enterMain {k : Nat} (hk : k < 3) (s : State) : (enterMain k s).startView = s.startView := by
  unfold enterMain
  split
  · exact startView_setIsl_fwIsl hk _ s
  · rw [startView_sendIrq, startView_raise, startView_setIsl_fwIsl hk]

/-- One HELD island checked again: the step of `readmit`. -/
def readmitOne (s : State) (k : Nat) : State :=
  if s.isl (fwIsl k) = .held && (s.badPeer k (s.slots k).image).isNone then raise 0x6007 3 (w24 (fwIsl k)) 0 (s.setIsl (fwIsl k) .run) else s

theorem readmit_eq (s : State) : readmit s = readmitOne (readmitOne (readmitOne s 0) 1) 2 := rfl

theorem startView_readmitOne {k : Nat} (hk : k < 3) (s : State) : (readmitOne s k).startView = s.startView := by
  simp only [readmitOne, apply_ite State.startView, startView_raise, startView_setIsl_fwIsl hk, ite_self]

@[simp] theorem startView_readmit (s : State) : (readmit s).startView = s.startView := by
  rw [readmit_eq, startView_readmitOne (by decide), startView_readmitOne (by decide), startView_readmitOne (by decide)]

@[simp] theorem startView_endAct (st : Status) (ms : Nat) (s : State) : (endAct st ms s).startView = s.startView := by
  unfold endAct; split
  · rfl
  · simp only [startView_readmit, startView_sendIrq, startView_finish]; rfl

@[simp] theorem startView_abandonAct (why : Nat) (st : Status) (s : State) : (abandonAct why st s).startView = s.startView := by
  unfold abandonAct; split
  · rfl
  · simp only [apply_ite State.startView, startView_endAct, startView_raise, ite_self]

/-! ### Permits withdrawn and the guard's states -/

@[simp] theorem startView_withdrawAll (s : State) : (withdrawAll s).startView = s.startView := by
  have hlost (m : BitVec 17) (u : State) (c : Nat) :
      (if m.getLsbD c then lostEvent c 1 0x3F 0 u else u).startView = u.startView := by
    simp only [lostEvent, apply_ite State.startView, startView_raise, ite_self]
  simp only [withdrawAll, startView_dropOutputs]
  rw [foldl_keeps State.startView _ (hlost _)]; rfl

/-- TRIP acts on the machine; the guard's state, the steps of a start and the islands without firmware stand (Table 10-1). -/
theorem startView_tripMachine (s : State) : (tripMachine s).startView = s.startView := by
  have hdoors := foldl_keeps State.startView (fun u k => doorHalt k .interlock 0 u) (fun u k => startView_doorHalt k .interlock 0 u)
  have haxes := foldl_keeps State.startView (fun u a => axDisable a .interlock 0 u) (fun u a => startView_axDisable a .interlock 0 u)
  simp only [tripMachine, startView_abandonAct, startView_endField, startView_grindCoastCause, apply_ite State.startView, startView_brakeSet,
    startView_liftFaultEnd, startView_liftFault, startView_liftAbandon, haxes, hdoors, startView_withdrawAll, ite_self]

/-- A guard state entered: apart from reports, the guard's state and cause, the stage-enable lines, and the mark of RUN or RESTRICT. -/
theorem quiet_enterGuard (g : GuardState) (c : Nat) (s : State) : ∃ l, (enterGuard g c s).quiet = ({ s with
    grd.st := g, grd.cause := if c = 0 then s.grd.cause else Fin.ofNat 32 c, glb.guardSeen := s.glb.guardSeen || g.grants
    mot.lines := l } : State).quiet := by
  have hlines (l : Bool) {u v : State} (h : u.quiet = v.quiet) :
      ({ u with mot.lines := l } : State).quiet = ({ v with mot.lines := l } : State).quiet := (congrArg (fun w : State => { w with mot.lines := l }) h :)
  simp only [enterGuard, apply_ite State.quiet, quiet_attention, quiet_wake, quiet_sendIrq, ite_self]
  exact ⟨_, hlines _ (quiet_raise _ _ _ _ _)⟩

theorem startView_enterGuard (g : GuardState) (c : Nat) (s : State) : (enterGuard g c s).startView =
    { s.startView with guardSt := g, guardCause := if c = 0 then s.grd.cause else Fin.ofNat 32 c } := by
  obtain ⟨l, hq⟩ := quiet_enterGuard g c s
  exact startView_of_quiet hq

/-- A trip from a state other than TRIP (R328). -/
theorem startView_guardTrip {c : Nat} (hc : c ≠ 0) {s : State} (h : s.grd.st ≠ .trip) :
    (guardTrip c s).startView = { s.startView with guardSt := .trip, guardCause := Fin.ofNat 32 c } := by
  rw [guardTrip, if_neg h, startView_tripMachine, startView_enterGuard, if_neg hc]

end Sys2Proof.Machine
end

section
/-! The steps of a start one by one (R96, R97, R101, R107): what each sets of `StartView`. -/

namespace Sys2Proof.Machine

/-! ### Steps 2 and 3 -/

theorem startView_sampleStraps (c : StartIn) (s : State) : (sampleStraps c s).startView =
    { s.startView with bootSel := c.bootSel, twAdr := (sampleStraps c s).glb.twAdr } := rfl

theorem getLsbD_straps : ∀ b2 b1 b0 : Bool, (BitVec.ofBool b2 ++ BitVec.ofBool b1 ++ BitVec.ofBool b0).getLsbD 0 = b0 ∧
    (BitVec.ofBool b2 ++ BitVec.ofBool b1 ++ BitVec.ofBool b0).getLsbD 1 = b1 ∧
    (BitVec.ofBool b2 ++ BitVec.ofBool b1 ++ BitVec.ofBool b0).getLsbD 2 = b2 := by decide

/-- A strap of TW_ADR that is not open is sampled at its level (R47). -/
theorem twAdr_sampleStraps (c : StartIn) (s : State) :
    (∀ b, c.adr0 = some b → (sampleStraps c s).glb.twAdr.getLsbD 0 = b) ∧
    (∀ b, c.adr1 = some b → (sampleStraps c s).glb.twAdr.getLsbD 1 = b) ∧
    (∀ b, c.adr2 = some b → (sampleStraps c s).glb.twAdr.getLsbD 2 = b) := by
  obtain ⟨h0, h1, h2⟩ := getLsbD_straps (strapBit c.adr2 (Config.freeBit (s.free + 2))) (strapBit c.adr1 (Config.freeBit (s.free + 1)))
    (strapBit c.adr0 (Config.freeBit (s.free + 0)))
  exact ⟨fun b hb => h0.trans (by rw [hb]; rfl), fun b hb => h1.trans (by rw [hb]; rfl), fun b hb => h2.trans (by rw [hb]; rfl)⟩

theorem startView_clocksUp (s : State) : (clocksUp s).startView = s.startView := rfl

/-- Step 3: GUARD and KEEP run, the guard in SAFE_STOP, or tripped by an ESTOP channel that is low (R44, R101). -/
theorem startView_startGuard (s : State) : (startGuard s).startView = { s.startView with
    step := 3, guard := .run, keep := .run
    guardSt := if s.grd.estopA && s.grd.estopB then .safeStop else .trip
    guardCause := if s.grd.estopA && s.grd.estopB then 20 else 1 } := by
  have hstop : (enterGuard .safeStop 20 (clocksUp ({ s with glb.step := 3 }.setIsl 4 .run |>.setIsl 7 .run))).startView =
      { s.startView with step := 3, guard := .run, keep := .run, guardSt := .safeStop, guardCause := 20 } := by
    rw [startView_enterGuard, startView_clocksUp, startView_setIsl _ (by decide), startView_setIsl _ (by decide)]
    simp only [isl_setIsl _ (show 4 < 8 by decide)]; rfl
  unfold startGuard
  generalize enterGuard .safeStop 20 _ = t at hstop ⊢
  have ha : t.grd.estopA = s.grd.estopA := (congrArg StartView.estopA hstop :)
  have hb : t.grd.estopB = s.grd.estopB := (congrArg StartView.estopB hstop :)
  have hst : t.grd.st = .safeStop := (congrArg StartView.guardSt hstop :)
  dsimp only
  rw [ha, hb]
  split
  · exact hstop
  · generalize hr : raise 0x3802 6 _ 0 t = r
    have hview : r.startView = t.startView := by subst hr; exact startView_raise _ _ _ _ t
    have hrst : r.grd.st = .safeStop := (congrArg StartView.guardSt hview).trans hst
    rw [startView_guardTrip (by decide) (by rw [hrst]; decide), hview, hstop]; rfl

/-! ### Step 4: the ferroelectric memory -/

theorem startView_clearRegions (c : ClearRun) (f : Byte) (s : State) : (clearRegions c f s).startView = s.startView := by
  have hrec (r : Rec) (u : State) : (writeRec r 1 [] u).startView = u.startView := startView_of_quiet (quiet_writeRec r 1 [] u)
  have hpost (c : W16) (v : Nat) (q a b : W32) (g : Bool) (u : State) : (postEvt c v q a b g u).startView = u.startView :=
    startView_of_quiet (quiet_postEvt c v q a b g u)
  refine (startView_of_quiet (quiet_bumpWin _ _)).trans ?_
  show (if _ then _ else _ : State).startView = _
  simp only [apply_ite State.startView, hpost, hrec, ite_self]; rfl

theorem startView_mountLog (s : State) : (mountLog s).startView = { s.startView with log := .run, mounted := true } := by
  have hlog (h : Nat) (k : Vector Nat 16) : (({ s with log.head := h, log.mounted := true, log.tokens := k } : State).setIsl 5 .run).startView =
      { s.startView with log := .run, mounted := true } := by
    rw [startView_setIsl _ (by decide)]; rfl
  simp only [mountLog, startView_raise]
  split
  · exact hlog _ _
  · exact (startView_clearRegions _ _ _).trans (hlog _ _)

theorem startView_lostRecord (n c : W24) (s : State) : (lostRecord n c s).startView = s.startView := by
  simp only [lostRecord, startView_setCrit, startView_lateRec]; rfl

theorem startView_reportLost (b : Bool) (s : State) : (reportLost b s).startView = s.startView := by
  have hlost (t : State) : ({ t with keep.lostCount := none, keep.lostThermal := false } : State).startView = t.startView := rfl
  refine (hlost _).trans ?_
  split
  · rfl
  · exact startView_lostRecord _ _ s
  · split
    · rfl
    · exact startView_lostRecord _ _ s

theorem startView_loadImage (s : State) : (loadImage s).startView = s.startView := by
  simp only [loadImage, apply_ite State.startView, startView_raise]
  exact (ite_congr rfl (fun _ => rfl) (fun _ => ite_self _)).trans (ite_self _)

theorem startView_loadTables (s : State) : (loadTables s).startView = s.startView := by
  refine foldl_keeps State.startView _ (fun t k => ?_) _ s
  dsimp only
  split
  · split <;> rfl
  · rw [startView_raise]; split <;> rfl

theorem startView_loadIdent (s : State) : (loadIdent s).startView = s.startView := rfl

theorem startView_repairJournal (s : State) : (repairJournal s).startView = s.startView := by
  refine foldl_keeps State.startView _ (fun t e => ?_) _ s
  rw [startView_raise]; rfl

theorem startView_lateRecords (s : State) : (lateRecords s).startView = s.startView := by
  refine (foldl_keeps State.startView _ (fun t l => ?_) _ _).trans rfl
  exact startView_of_quiet ((quiet_flushOn _ _ _).trans (quiet_stage _ _ _ _ _ _ _ _ _))

/-- Step 4: LOG runs with its memory mounted. -/
theorem startView_startMount (s : State) : (startMount s).startView = { s.startView with step := 4, log := .run, mounted := true } := by
  have hmount : (lateRecords (repairJournal (loadIdent (loadTables (loadImage (reportLost s.log.clean (mountLog s))))))).startView =
      { s.startView with log := .run, mounted := true } := by
    rw [startView_lateRecords, startView_repairJournal, startView_loadIdent, startView_loadTables, startView_loadImage, startView_reportLost,
      startView_mountLog]
  simp only [startMount, startView_grindEnable]
  generalize lateRecords _ = t at hmount ⊢
  exact (congrArg (fun v : StartView => { v with step := 4 }) hmount :)

/-! ### Steps 5 and 6 -/

theorem startView_startLink (s : State) : (startLink s).startView = { s.startView with step := 5, link := .run } := by
  have hlink : (s.setIsl 6 .run).startView = { s.startView with link := .run } := startView_setIsl s (by decide) .run
  exact (congrArg (fun v : StartView => { v with step := 5 }) hlink :)

/-- What steps 3 to 5 make of a start (R44, R96, R101): GUARD, LOG, LINK and KEEP in RUN, the memory mounted, the guard in SAFE_STOP, or in
TRIP where an ESTOP channel is low. -/
def StartView.linked (v : StartView) : StartView :=
  { v with
    step := 5, guard := .run, log := .run, link := .run, keep := .run, mounted := true
    guardSt := if v.estopA && v.estopB then .safeStop else .trip
    guardCause := if v.estopA && v.estopB then 20 else 1 }

theorem startView_startFrom4 (s : State) : (startFrom4 s).startView = s.startView.linked := by
  rw [startFrom4, startView_startLink, startView_startMount, startView_startGuard]; rfl

/-- The start from the end of step 2 on, with the straps sampled and the reference time taken (R45, R96). -/
theorem startView_endStep2 (c : StartIn) (s : State) : (endStep2 c s).startView = StartView.linked { s.startView with
    startAt := if s.glb.resumeAt = 1 then s.glb.startAt else s.now, waitCrystal := false
    bootSel := c.bootSel, twAdr := (sampleStraps c s).glb.twAdr } := by
  rw [endStep2, startView_startFrom4, startView_sampleStraps]; rfl

theorem startView_bootFw {k : Nat} (hk : k < 3) (s : State) : (bootFw k s).startView = s.startView := by
  have hbad (l : List (Fin 3)) :
      (l.foldl (fun (u : State) (j : Fin 3) => raise 0x6008 5 (w24 (fwIsl k)) (w24 j.val) u) s).startView = s.startView :=
    foldl_keeps State.startView _ (fun u j => startView_raise _ _ _ _ u) l s
  simp only [bootFw]
  split
  · rw [startView_setIsl_fwIsl hk, hbad]
  · rw [startView_setIsl_fwIsl hk]; exact hbad _

theorem startView_enterFw {k : Nat} (hk : k < 3) (s : State) : (enterFw k s).startView = s.startView := by
  simp only [enterFw, apply_ite State.startView, startView_setIsl_fwIsl hk, startView_enterMain hk, ite_self]

theorem startView_bootNow {k : Nat} (hk : k < 3) (s : State) : (bootNow k s).startView = s.startView := by
  simp only [bootNow, apply_ite State.startView, startView_enterFw hk, startView_bootFw hk, ite_self]

theorem startView_restoreAxis (a : Nat) (r : Retained) (nv : Bool) (s : State) : (restoreAxis a r nv s).startView = s.startView := rfl

theorem startView_restoreAxes (s : State) : (restoreAxes s).startView = s.startView := by
  have hgood (l : List (Nat × Retained × Bool)) : (l.foldl (fun u p => restoreAxis p.1 p.2.1 p.2.2 u) s).startView = s.startView :=
    foldl_keeps State.startView _ (fun u p => startView_restoreAxis _ _ _ u) l s
  simp only [restoreAxes]
  show (if _ then _ else _ : State).startView = _
  simp only [apply_ite State.startView, startView_raise, hgood, ite_self]

theorem startView_limitHit (a side : Nat) (s : State) : (limitHit a side s).startView = s.startView := by
  simp only [limitHit, apply_ite State.startView, startView_axMod, startView_axStop, startView_raise, ite_self]

theorem startView_limitScan (s : State) : (limitScan s).startView = s.startView := by
  refine foldl_keeps State.startView _ (fun t a => ?_) _ s
  simp only [apply_ite State.startView, startView_limitHit, startView_axMod, ite_self]

/-- Step 6: MOTION runs; the firmware islands boot as they may (R97). -/
theorem startView_startBoots (s : State) : (startBoots s).startView = { s.startView with step := 6, motion := .run } := by
  have hmotion : (s.setIsl 1 .run).startView = { s.startView with motion := .run } := startView_setIsl s (by decide) .run
  have hstep : ({ s.setIsl 1 .run with glb.step := 6 } : State).startView = { s.startView with step := 6, motion := .run } :=
    (congrArg (fun v : StartView => { v with step := 6 }) hmotion :)
  simp only [startBoots, startView_limitScan, startView_restoreAxes, startView_bootNow (show 1 < 3 by decide),
    startView_bootNow (show 2 < 3 by decide), apply_ite State.startView, startView_bootNow (show 0 < 3 by decide), ite_self]
  exact hstep

theorem startView_measure (s : State) : (measure s).startView = s.startView := by
  have hclocks (u : State) : (measureClocks u).startView = u.startView := rfl
  simp only [measure]
  rw [apply_ite State.startView, hclocks, ite_self]
  split <;> rfl

theorem startView_aspm (s : State) : (aspm s).startView = s.startView := by
  unfold aspm
  split
  · split <;> rfl
  · rfl

end Sys2Proof.Machine
end

section
/-! The rows of power-on, RESET_N, the cold start and READY (R44, R54, R85, R88, R90, R91, R96, R97, R98, R101, R107). -/

namespace Sys2Proof.Machine

/-! ### The rows -/

theorem exec_powerOn (s : State) : exec .powerOn s = execPowerOn s := rfl
theorem exec_coldStart (c : StartIn) (s : State) : exec (.coldStart c) s = execColdStart c s := rfl
theorem exec_resetNFall (n : Nat) (s : State) : exec (.resetNFall n) s = execResetNFall n s := rfl
theorem exec_resetNRise (c : StartIn) (s : State) : exec (.resetNRise c) s = execResetNRise c s := rfl
theorem exec_crystalLock (c : StartIn) (s : State) : exec (.crystalLock c) s = execCrystalLock c s := rfl
theorem exec_hstStatusReady (s : State) : exec .hstStatusReady s = execHstStatusReady s := rfl

/-! ### Power-on and RESET_N -/

theorem log_sync (s : State) : (sync s).log = s.log := by
  have hirq (k : Nat) (u : State) : (putIrq k u).log = u.log := by simp only [putIrq, apply_ite State.log, ite_self]
  have hdue (u : State) : (sendDue u).log = u.log := by
    have h := foldl_keeps State.log (fun t k => if t.irqOpen then putIrq k t else t)
      (fun t k => by simp only [apply_ite State.log, hirq, ite_self]) u.ring.irqDue { u with ring.irqDue := [] }
    simp only [sendDue, apply_ite State.log, h, ite_self]
  simp only [sync, hdue, mirrorSync, apply_ite State.log, writeMirror_log, ite_self]

/-- A staging cut short leaves all but its slot (R474). -/
theorem cutStage_eq (s : State) : ∃ n f, cutStage s = { s with free := n, fw := f } := by
  unfold cutStage
  split
  · exact ⟨s.free, s.fw, rfl⟩
  · exact ⟨_, _, rfl⟩

theorem isl_of_allOff {s : State} (h : s.glb.isl = Vector.replicate 8 .off) (i : Nat) : s.isl i = .off := by
  rw [State.isl, h, Vector.toList_replicate, List.getD_eq_getElem?_getD, List.getElem?_getD_replicate_default_eq]

section
variable (at_ : Fin 5) (bits : W24) (thermal : Bool) (s : State)

theorem fullReset_cause : (fullReset at_ bits thermal s).glb.cause = s.glb.cause ||| bits := by
  obtain ⟨n, f, hcut⟩ := cutStage_eq s
  simp only [fullReset, hcut]

theorem fullReset_land : (fullReset at_ bits thermal s).land = s.land := by
  obtain ⟨n, f, hcut⟩ := cutStage_eq s
  simp only [fullReset, hcut]

theorem fullReset_ret : (fullReset at_ bits thermal s).keep.ret = s.keep.ret := by
  obtain ⟨n, f, hcut⟩ := cutStage_eq s
  simp only [fullReset, hcut, KeepSt.held]

theorem fullReset_prm : (fullReset at_ bits thermal s).prm = s.prm.kept := by
  obtain ⟨n, f, hcut⟩ := cutStage_eq s
  simp only [fullReset, hcut]

theorem fullReset_jrn : (fullReset at_ bits thermal s).jrn = s.jrn := by
  obtain ⟨n, f, hcut⟩ := cutStage_eq s
  simp only [fullReset, hcut]

theorem fullReset_log : (fullReset at_ bits thermal s).log = s.log.kept := by
  obtain ⟨n, f, hcut⟩ := cutStage_eq s
  simp only [fullReset, hcut]

end

/-- KEEP as a power-on leaves it: no wake cause stands, so PE_WAKE_N stays released. -/
theorem keep_sync_of_anew {s : State} (h : s.keep = {}) : (sync s).keep = {} := by
  rw [keep_sync, State.wakeNow, State.wakeDue, h]
  simp

/-- POWER_ON: a reset of all but the ferroelectric memory, held by a low RESET_N (R54, R88, R91). -/
theorem powerOn_resets (s : State) : completes .powerOn s (fun t => t.glb.step = 0 ∧ t.glb.cause = 1 ∧ t.keep = {} ∧ t.sup = {} ∧
    (∀ i < 8, t.isl i = .off) ∧ (t.glb.held = 0#3 ↔ s.land.resetN = true) ∧ t.prm.bankA = s.prm.bankA ∧ t.prm.bankB = s.prm.bankB ∧
    t.prm.highEpoch = s.prm.highEpoch ∧ t.jrn = s.jrn ∧ t.log.keep = s.log.keep ∧ t.log.roll = s.log.roll ∧ t.log.head = s.log.head ∧
    t.dbg.unlocked = false) := by
  refine ⟨_, exec_powerOn s, ?_⟩
  dsimp only
  have hprm : (powerOnReset s).prm = s.prm.kept := fullReset_prm 1 0 false s
  have hjrn : (powerOnReset s).jrn = s.jrn := fullReset_jrn 1 0 false s
  have hlog : (powerOnReset s).log = s.log.kept := fullReset_log 1 0 false s
  generalize hu : ({ powerOnReset s with glb.held := if s.land.resetN then 0 else 1 } : State) = u
  have hq := quiet_sync u
  have hl := log_sync u
  have hk : (sync u).keep = {} := keep_sync_of_anew (by subst hu; rfl)
  generalize sync u = t at hq hl hk ⊢
  subst hu
  have htprm : t.prm = s.prm.kept := (congrArg State.prm hq :).trans hprm
  have htlog : t.log = s.log.kept := hl.trans hlog
  refine ⟨(congrArg (fun v : State => v.glb.step) hq :), (congrArg (fun v : State => v.glb.cause) hq :), hk, (congrArg State.sup hq :), ?_, ?_,
    by rw [htprm]; rfl, by rw [htprm]; rfl, by rw [htprm]; rfl, (congrArg State.jrn hq :).trans hjrn, by rw [htlog]; rfl, by rw [htlog]; rfl,
    by rw [htlog]; rfl, (congrArg (fun v : State => v.dbg.unlocked) hq :)⟩
  · exact fun i _ => isl_of_allOff (congrArg (fun v : State => v.glb.isl) hq :) i
  · have hheld : t.glb.held = if s.land.resetN then 0 else 1 := (congrArg (fun v : State => v.glb.held) hq :)
    rw [hheld]
    cases s.land.resetN <;> decide

/-- RESET_N low for 10 µs or more: a full reset that is held (R90, R91). -/
theorem resetNFall_acts {s : State} (n : Nat) (h : s.land.resetN = true) (hn : 100 ≤ n) : completes (.resetNFall n) s (fun t =>
    t.land.resetN = false ∧ t.glb.held.getLsbD 0 = true ∧ t.glb.step = 0 ∧ t.glb.cause = s.glb.cause ||| 2 ∧ (∀ i < 8, t.isl i = .off) ∧
    t.keep.ret = s.keep.ret ∧ t.jrn = s.jrn) := by
  refine completes_of_doneIf (exec_resetNFall n s) h ?_
  simp only [hn, decide_true, Bool.true_or, Bool.not_true, Bool.false_eq_true, if_false]
  generalize hr : fullReset 2 2 false { s.tick with land.resetN := false } = r
  have hq := quiet_sync { r with glb.held := setB r.glb.held 0 true }
  have hk : (sync { r with glb.held := setB r.glb.held 0 true }).keep.ret = r.keep.ret := by rw [keep_sync]
  generalize sync _ = t at hq hk ⊢
  have hland : t.land = r.land := (congrArg State.land hq :)
  have hheld : t.glb.held = setB r.glb.held 0 true := (congrArg (fun v : State => v.glb.held) hq :)
  have hcause : t.glb.cause = r.glb.cause := (congrArg (fun v : State => v.glb.cause) hq :)
  have hjrn : t.jrn = r.jrn := (congrArg State.jrn hq :)
  have hstep : t.glb.step = r.glb.step := (congrArg (fun v : State => v.glb.step) hq :)
  have hisl : t.glb.isl = r.glb.isl := (congrArg (fun v : State => v.glb.isl) hq :)
  subst hr
  refine ⟨by rw [hland, fullReset_land], by rw [hheld]; exact getLsbD_setB _ 0 0 true (by decide), hstep, hcause.trans (fullReset_cause ..),
    fun i _ => isl_of_allOff hisl i, hk.trans (fullReset_ret ..), hjrn.trans (fullReset_jrn ..)⟩

/-- A low pulse on RESET_N under 1 µs is none (R90). -/
theorem resetNFall_ignored {s : State} (n : Nat) (h : s.land.resetN = true) (hn : n < 10) :
    completesAs (.resetNFall n) s { s with free := s.free + 1 } := by
  refine completesAs_of_doneIf (exec_resetNFall n s) h ?_
  have hshort : decide (100 ≤ n) = false ∧ decide (10 ≤ n) = false := by simp only [decide_eq_false_iff_not]; omega
  simp only [hshort, Bool.false_and, Bool.or_self, Bool.not_false, if_true]; rfl

/-! ### The start -/

/-- The start from step 2 with the crystal good passes steps 2 to 5 (R96). -/
theorem startView_startFrom2 (c : StartIn) {s : State} (h : s.clk.crystal = true) : (startFrom2 c s).startView =
    StartView.linked { s.startView with
      startAt := s.now, waitCrystal := false, bootSel := c.bootSel, twAdr := (sampleStraps c s).glb.twAdr } := by
  have hgo : startFrom2 c s = endStep2 c { s with glb.step := 2, glb.startAt := s.now, sup.level := 0 } := if_pos h
  rw [hgo, startView_endStep2, ite_self]; rfl

/-- The start from step 2 with the crystal bad waits there (R85). -/
theorem startFrom2_waits (c : StartIn) {s : State} (h : s.clk.crystal = false) :
    startFrom2 c s = { s with glb.step := 2, glb.startAt := s.now, sup.level := 0, glb.waitCrystal := true } := if_neg (by simp [h])

/-- COLD_START with the crystal good: what step 5 finds, and the guard as ESTOP leaves it (R44, R96, R101). -/
theorem coldStart_starts (c : StartIn) {s : State} (hheld : s.glb.held = 0#3) (hstep : s.glb.step = 0) (hx : s.clk.crystal = true) :
    completes (.coldStart c) s (fun t => t.glb.step = 5 ∧ t.isl 1 = s.isl 1 ∧
      t.isl 4 = .run ∧ t.isl 5 = .run ∧ t.isl 6 = .run ∧ t.isl 7 = .run ∧ t.glb.bootSel = c.bootSel ∧ t.log.mounted = true ∧
      (∀ b, c.adr0 = some b → t.glb.twAdr.getLsbD 0 = b) ∧ (∀ b, c.adr1 = some b → t.glb.twAdr.getLsbD 1 = b) ∧
      (∀ b, c.adr2 = some b → t.glb.twAdr.getLsbD 2 = b) ∧
      (s.grd.estopA = true → s.grd.estopB = true → t.grd.st = .safeStop ∧ t.grd.cause = 20) ∧
      (s.grd.estopA = false ∨ s.grd.estopB = false → t.grd.st = .trip ∧ t.grd.cause = 1)) := by
  refine completes_of_doneIf (exec_coldStart c s) (by rw [hheld, hstep]; rfl) ?_
  have hv := (startView_sync _).trans (startView_startFrom2 c hx)
  obtain ⟨hadr0, hadr1, hadr2⟩ := twAdr_sampleStraps c s
  generalize sync _ = t at hv ⊢
  have hadr : t.glb.twAdr = (sampleStraps c s).glb.twAdr := (congrArg StartView.twAdr hv :)
  rw [← hadr] at hadr0 hadr1 hadr2
  have hst := (congrArg StartView.guardSt hv :)
  have hcause := (congrArg StartView.guardCause hv :)
  refine ⟨(congrArg StartView.step hv :), (congrArg StartView.motion hv :), (congrArg StartView.guard hv :), (congrArg StartView.log hv :),
    (congrArg StartView.link hv :), (congrArg StartView.keep hv :), (congrArg StartView.bootSel hv :), (congrArg StartView.mounted hv :),
    hadr0, hadr1, hadr2, fun ha hb => ?_, fun hlow => ?_⟩
  · have hboth : (s.grd.estopA && s.grd.estopB) = true := by rw [ha, hb]; rfl
    exact ⟨hst.trans (if_pos hboth), hcause.trans (if_pos hboth)⟩
  · have hnot : ¬ (s.grd.estopA && s.grd.estopB) = true := by obtain h | h := hlow <;> simp [h]
    exact ⟨hst.trans (if_neg hnot), hcause.trans (if_neg hnot)⟩

theorem coldStart_waits (c : StartIn) {s : State} (hheld : s.glb.held = 0#3) (hstep : s.glb.step = 0) (hx : s.clk.crystal = false) :
    completes (.coldStart c) s (fun t => t.glb.step = 2 ∧ t.glb.waitCrystal = true ∧ t.glb.isl = s.glb.isl) := by
  refine completes_of_doneIf (exec_coldStart c s) (by rw [hheld, hstep]; rfl) ?_
  have hq := (quiet_sync _).trans (congrArg State.quiet (startFrom2_waits c hx))
  generalize sync _ = t at hq ⊢
  exact ⟨(congrArg (fun v : State => v.glb.step) hq :), (congrArg (fun v : State => v.glb.waitCrystal) hq :),
    (congrArg (fun v : State => v.glb.isl) hq :)⟩

/-- Step 5 ends 35 ms after the start at the latest (R97). -/
theorem idle_endsStep5 {s : State} (hp : s.pending = []) (hstep : s.glb.step = 5) (hlate : s.glb.startAt + 35000 ≤ s.now + 1) :
    ∃ t, step s = .next t ∧ t.glb.step = 6 ∧ t.isl 1 = .run ∧ t.now = s.now + 1 := by
  have hidle : step s = execIdle s := by unfold step; rw [hp]
  refine ⟨_, hidle, ?_⟩
  generalize hm : (if (s.now + 1) % 1000 = 0 then measure { s with now := s.now + 1 } else { s with now := s.now + 1 } : State) = m
  have hmv : m.startView = { s.startView with now := s.now + 1 } := by
    subst hm; rw [apply_ite State.startView, startView_measure, ite_self]; rfl
  have hmstep : m.glb.step = 5 := (congrArg StartView.step hmv :).trans hstep
  have hmstart : m.glb.startAt = s.glb.startAt := (congrArg StartView.startAt hmv :)
  have hmnow : m.now = s.now + 1 := (congrArg StartView.now hmv :)
  have hboots : linkStep m = startBoots m := if_pos (by simp [hmstep, hmstart, hmnow, hlate])
  rw [hboots]
  have hv := (startView_sync _).trans ((startView_aspm _).trans (startView_startBoots m))
  generalize sync _ = t at hv ⊢
  exact ⟨(congrArg StartView.step hv :), (congrArg StartView.motion hv :), (congrArg StartView.now hv :).trans hmnow⟩

/-- RESET_N as it rises, with nothing else holding the reset (R90). -/
def State.released (s : State) : State := { s with land.resetN := true, glb.held := 0#3 }

theorem exec_resetNRise_of_alone (c : StartIn) {s : State} (hlow : s.land.resetN = false) (hheld : s.glb.held = 1#3) :
    exec (.resetNRise c) s = done (if s.glb.resumeAt != 1 && s.glb.step.val = 0 then startFrom2 c s.released else s.released) := by
  have hfree : setB s.glb.held 0 false = 0#3 := by rw [hheld]; decide
  rw [exec_resetNRise, execResetNRise, doneIf, if_pos (by rw [hlow]; rfl)]
  dsimp only
  rw [hfree]; rfl

theorem resetNRise_resumes (c : StartIn) {s : State} (hlow : s.land.resetN = false) (hheld : s.glb.held = 1#3) (hstep : s.glb.step = 0)
    (hx : s.clk.crystal = true) (hat : s.glb.resumeAt ≠ 1) : completes (.resetNRise c) s (fun t =>
      t.land.resetN = true ∧ t.glb.held = 0#3 ∧ t.glb.step = 5 ∧ t.glb.bootSel = c.bootSel ∧ t.isl 4 = .run) := by
  have hexec : exec (.resetNRise c) s = done (startFrom2 c s.released) := by
    rw [exec_resetNRise_of_alone c hlow hheld, if_pos (by simp [hat, hstep])]
  refine ⟨_, hexec, ?_⟩
  have hv := (startView_sync _).trans (startView_startFrom2 c (s := s.released) hx)
  generalize sync _ = t at hv ⊢
  exact ⟨(congrArg (fun v : StartView => v.land.resetN) hv :), (congrArg StartView.held hv :), (congrArg StartView.step hv :),
    (congrArg StartView.bootSel hv :), (congrArg StartView.guard hv :)⟩

theorem resetNRise_waits (c : StartIn) {s : State} (hlow : s.land.resetN = false) (hheld : s.glb.held = 1#3) (hstep : s.glb.step = 0)
    (hat : s.glb.resumeAt = 1) : completes (.resetNRise c) s (fun t => t.land.resetN = true ∧ t.glb.held = 0#3 ∧ t.glb.step = 0) := by
  have hexec : exec (.resetNRise c) s = done s.released := by
    rw [exec_resetNRise_of_alone c hlow hheld, if_neg (by simp [hat])]
  refine ⟨_, hexec, ?_⟩
  have hv := startView_sync s.released
  generalize sync _ = t at hv ⊢
  exact ⟨(congrArg (fun v : StartView => v.land.resetN) hv :), (congrArg StartView.held hv :), (congrArg StartView.step hv :).trans hstep⟩

theorem crystalLock_resumes (c : StartIn) {s : State} (hx : s.clk.crystal = false) (hw : s.glb.waitCrystal = true) :
    completes (.crystalLock c) s (fun t => t.clk.crystal = true ∧ t.glb.step = 5 ∧ t.glb.waitCrystal = false ∧ t.glb.bootSel = c.bootSel ∧
      t.isl 4 = .run) := by
  refine completes_of_doneIf (exec_crystalLock c s) (by rw [hx]; rfl) ?_
  dsimp only
  rw [if_pos hw]
  have hv := (startView_sync _).trans (startView_endStep2 c { s with clk.crystal := true })
  generalize sync _ = t at hv ⊢
  exact ⟨(congrArg StartView.crystal hv :), (congrArg StartView.step hv :), (congrArg StartView.waitCrystal hv :),
    (congrArg StartView.bootSel hv :), (congrArg StartView.guard hv :)⟩

theorem crystalLock_recorded (c : StartIn) {s : State} (hx : s.clk.crystal = false) (hw : s.glb.waitCrystal = false) :
    completesAs (.crystalLock c) s { s with clk.crystal := true } := by
  refine completesAs_of_doneIf (exec_crystalLock c s) (by rw [hx]; rfl) ?_
  dsimp only
  rw [if_neg (by simp [hw])]

/-! ### READY -/

/-- HST_STATUS_READY of a HOST in RUN sets READY; at step 6 the start is complete (R97, R107). -/
theorem exec_hstStatusReady_of_run {s : State} (ha : s.hostAllowed = true) (hrun : s.isl 0 = .run) (hr : s.host.ready = false) :
    exec .hstStatusReady s =
      done (if s.glb.step.val = 6 then endStart { s with host.ready := true } else { s with host.ready := true }) := by
  rw [exec_hstStatusReady, execHstStatusReady, doneIf, if_pos (by rw [ha, hrun, hr]; rfl)]
  simp only [hrun, reduceCtorEq, if_false]

/-- The end of a start (R98, R328): step 7 with its time, and the guard in LOCKOUT, or in TRIP while its cause is held. -/
theorem quiet_endStart (s : State) : ∃ l, (endStart s).quiet = ({ s with
    glb.step := 7, glb.bootTime := sat24 (s.now - s.glb.startAt), mot.lines := l
    grd.st := if s.grd.st = .trip ∧ s.tripHeld = true then .trip else .lockout } : State).quiet := by
  dsimp only [endStart]
  generalize hr : raise _ _ _ _ _ = r
  have hq : r.quiet = ({ s with glb.step := 7, glb.bootTime := sat24 (s.now - s.glb.startAt) } : State).quiet := by
    subst hr; exact quiet_raise _ _ _ _ _
  have hst : r.grd.st = s.grd.st := (congrArg (fun v : State => v.grd.st) hq :)
  have hheld : r.tripHeld = s.tripHeld := (congrArg State.tripHeld hq :)
  rw [hst, hheld]
  by_cases h : s.grd.st = .trip ∧ s.tripHeld = true
  · rw [if_pos (by simpa using h), if_pos h]
    refine ⟨r.linesNow, ?_⟩
    rw [← h.1]
    exact (congrArg (fun v : State => { v with mot.lines := r.linesNow }) hq :)
  · rw [if_neg (by simpa using h), if_neg h]
    obtain ⟨l, hg⟩ := quiet_enterGuard .lockout 0 r
    have hseen : (r.glb.guardSeen || GuardState.lockout.grants) = r.glb.guardSeen := Bool.or_false _
    rw [hseen] at hg
    exact ⟨l, hg.trans (congrArg (fun v : State => { v with grd.st := .lockout, mot.lines := l }) hq :)⟩

theorem hstStatusReady_early {s : State} (ha : s.hostAllowed = true) (hrun : s.isl 0 = .run) (hr : s.host.ready = false) (hs : s.glb.step ≠ 6) :
    completesAs .hstStatusReady s { s with host.ready := true } := by
  have hne : ¬ s.glb.step.val = 6 := fun h => hs (Fin.ext h)
  have hexec : exec .hstStatusReady s = done { s with host.ready := true } := by
    rw [exec_hstStatusReady_of_run ha hrun hr, if_neg hne]
  exact ⟨_, hexec, quiet_sync _⟩

theorem hstStatusReady_ends {s : State} (ha : s.hostAllowed = true) (hrun : s.isl 0 = .run) (hr : s.host.ready = false) (hs : s.glb.step = 6) :
    completes .hstStatusReady s (fun t => t.host.ready = true ∧ t.glb.step = 7 ∧ t.glb.bootTime = sat24 (s.now - s.glb.startAt) ∧
      (if s.grd.st = .trip ∧ s.tripHeld = true then t.grd.st = .trip else t.grd.st = .lockout)) := by
  have hexec : exec .hstStatusReady s = done (endStart { s with host.ready := true }) := by
    rw [exec_hstStatusReady_of_run ha hrun hr, if_pos (by rw [hs]; rfl)]
  refine ⟨_, hexec, ?_⟩
  obtain ⟨l, hend⟩ := quiet_endStart { s with host.ready := true }
  have hq := (quiet_sync _).trans hend
  generalize sync _ = t at hq ⊢
  have hst : t.grd.st = if s.grd.st = .trip ∧ s.tripHeld = true then .trip else .lockout := (congrArg (fun v : State => v.grd.st) hq :)
  refine ⟨(congrArg (fun v : State => v.host.ready) hq :), (congrArg (fun v : State => v.glb.step) hq :),
    (congrArg (fun v : State => v.glb.bootTime) hq :), ?_⟩
  split
  · next h => exact hst.trans (if_pos h)
  · next h => exact hst.trans (if_neg h)

/-- Settles O36, row by row: what a reset leaves, what a start from step 2 sets in one command (log 70), and how steps 5 and 6 end, with TRIP
kept while its cause is held (log 71). -/
theorem startsAndResets : Obligations.StartsAndResets := by
  refine ⟨powerOn_resets, fun s c hheld hstep => ⟨coldStart_starts c hheld hstep, coldStart_waits c hheld hstep⟩,
    fun s hp hstep hlate => idle_endsStep5 hp hstep hlate, fun s n h => ⟨resetNFall_acts n h, resetNFall_ignored n h⟩,
    fun s c hlow hheld hstep hx => ⟨resetNRise_resumes c hlow hheld hstep hx, resetNRise_waits c hlow hheld hstep⟩,
    fun s c hx => ⟨crystalLock_resumes c hx, crystalLock_recorded c hx⟩,
    fun s ha hrun hr => ⟨hstStatusReady_early ha hrun hr, hstStatusReady_ends ha hrun hr⟩⟩

end Sys2Proof.Machine
end

section
/-! Refused descriptors (R62, R161, R166, R170, R471, R481, R482, R487): which check of `gate` refuses, and what a refusal leaves. -/

namespace Sys2Proof.Machine

/-! ### The refusals that stand before a command's own checks -/

theorem gate_of_form {op : Byte} {d : Desc} {form : Bool} (s : State) (k : State → State) (h : form = false) :
    gate op d form s k = refuse op d .badArg 0 s := by
  simp only [gate, h, Bool.not_false, if_true]

theorem gate_of_bars {op : Byte} {d : Desc} {form : Bool} {st : Status} {s : State} (k : State → State) (hform : form = true)
    (h : s.islandBars op = some st) : gate op d form s k = refuse op d st 0 s := by
  simp only [gate, hform, h, Bool.not_true, Bool.false_eq_true, if_false]

theorem gate_of_sheds {op : Byte} {d : Desc} {form : Bool} {s : State} (k : State → State) (hform : form = true)
    (hbars : s.islandBars op = none) (h : s.sheds op = true) : gate op d form s k = refuse op d .shed 0 s := by
  simp only [gate, hform, hbars, h, Bool.not_true, Bool.false_eq_true, if_false, if_true]

/-- What a refused descriptor leaves: its completion with journal sequence 0 (R166), and the consumer index past it. -/
theorem refusedAs_of_gate {c : Instr} {op : Byte} {d : Desc} {st : Status} {s : State} (hx : exec c s = command op d s) (ht : s.takes d)
    (hst : st.accepted = false) {form : Bool} (hop : ∃ k, decodeOp op d (s.fetched d) = gate op d form (s.fetched d) k)
    (hgate : ∀ k, gate op d form (s.fetched d) k = refuse op d st 0 (s.fetched d)) : refusedAs c op d st s := by
  have hd : decodeOp op d (s.fetched d) = refuse op d st 0 (s.fetched d) := by
    obtain ⟨k, hk⟩ := hop
    rw [hk, hgate]
  have hrun : (s.fetched d).host.running = true := takes_running (s := s) ht
  have hopen : (s.fetched d).dmaOpen = true := takes_open (s := s) ht
  have hput : refuse op d st 0 (s.fetched d) = putCpl op d.tag (dUrgent d) st 0 0 0 (s.fetched d) := by
    simp only [refuse, postCpl, hst, hrun, hopen, Bool.and_false, Bool.not_true, Bool.or_self, Bool.false_eq_true, if_false, if_true]; rfl
  have hq := quiet_putCpl op d.tag (dUrgent d) st 0 0 0 (s.fetched d)
  rw [← hput, ← hd] at hq
  have hawake : (decodeOp op d (s.fetched d)).ring.sleepReq = false :=
    (congrArg (fun u : State => u.ring.sleepReq) hq :).trans (takes_awake (s := s) ht)
  refine ⟨_, by rw [hx, command_takes op d s ht, sleepSync_false _ hawake], ?_⟩
  have hsync := (quiet_sync _).trans hq
  generalize sync _ = t at hsync ⊢
  exact ⟨(congrArg (fun u : State => u.ring.cplProd) hsync :), (congrArg (fun u : State => u.ring.cpl) hsync :), (congrArg State.jrn hsync :),
    (congrArg (fun u : State => u.ring.outstanding) hsync :), (rest_of_quiet hsync).trans rfl⟩

/-! ### Form and owner -/

theorem eq_zero_of_within_none {x : W32} (h : within x m0 = true) : x = 0#32 := by
  have hand : x &&& ~~~ m0 = 0#32 := of_decide_eq_true h
  rwa [show ~~~ m0 = BitVec.allOnes 32 by decide, BitVec.and_allOnes] at hand

theorem within_of_none {x : W32} (h : within x m0 = true) (m : W32) : within x m = true := by
  rw [eq_zero_of_within_none h]; simp [within]

/-- A descriptor without arguments has the form of every command that names no transaction and allows no TXN. -/
theorem formOk_of_none {d : Desc} (h : formOk d false false m0 m0 m0 m0 m0 = true) (m3 m4 m5 m6 m7 : W32) :
    formOk d false false m3 m4 m5 m6 m7 = true := by
  simp only [formOk, Bool.and_eq_true] at h ⊢
  obtain ⟨⟨⟨⟨⟨hhead, h3⟩, h4⟩, h5⟩, h6⟩, h7⟩ := h
  exact ⟨⟨⟨⟨⟨hhead, within_of_none h3 m3⟩, within_of_none h4 m4⟩, within_of_none h5 m5⟩, within_of_none h6 m6⟩, within_of_none h7 m7⟩

theorem axNum_of_none {d : Desc} (h : formOk d false false m0 m0 m0 m0 m0 = true) : axNum d = 0 := by
  simp only [formOk, Bool.and_eq_true] at h
  obtain ⟨⟨⟨⟨⟨-, h3⟩, -⟩, -⟩, -⟩, -⟩ := h
  simp [axNum, fld, eq_zero_of_within_none h3]

/-- HOST in RECOVERY or HELD serves the restricted set alone (R482). -/
theorem islandBars_of_restricted {s : State} {op : Byte} (h : s.isl 0 = .recovery ∨ s.isl 0 = .held) (hop : recoveryOps.contains op = false) :
    s.islandBars op = some .islandHeld := by
  have hres : (s.isl 0 = .recovery || s.isl 0 = .held) = true := by simpa using h
  simp only [State.islandBars, hres, hop, Bool.not_false, Bool.and_self, if_true]

section
variable {s : State} {op : Byte} (hrun : s.isl 0 = .run)
include hrun

/-- A command of MOTION while MOTION is not in RUN (R170). -/
theorem islandBars_of_motion (hop : opOwner op = 1) (h : s.isl 1 ≠ .run) : s.islandBars op = some .islandHeld := by
  simp [State.islandBars, hrun, hop, h]

/-- A command of LIFT or GRIND while its island is not in RUN (R170, R471, R481). -/
theorem islandBars_of_firmware {o : Nat} (hop : opOwner op = o) (ho : o = 2 ∨ o = 3) (hh : s.haltedIsl o = false) (h : s.isl o ≠ .run) :
    s.islandBars op = some .islandHeld := by
  simp [State.islandBars, hrun, hop, ho, hh, h, show o ≠ 1 by omega]

/-- A command of LIFT or GRIND while its core is halted or halting (R487). -/
theorem islandBars_of_halted {o : Nat} (hop : opOwner op = o) (ho : o = 2 ∨ o = 3) (hh : s.haltedIsl o = true) :
    s.islandBars op = some .debugLocked := by
  simp [State.islandBars, hrun, hop, ho, hh, show o ≠ 1 by omega]

end

/-- Any level from L1 on and an over-voltage refuse GRIND_RUN (R62, Table 3-3). -/
theorem sheds_grindRun {s : State} (h : 1 ≤ s.sup.level.val ∨ s.sup.overV = true) : s.sheds 0x40 = true := by
  have hfrom : shedFrom 0x40 = 1 := by decide
  have hlevel : 1 ≤ s.effLevel := by
    simp only [State.effLevel]
    split
    · omega
    · next hov => exact h.resolve_right hov
  rw [State.sheds, hfrom]; exact decide_eq_true hlevel

/-! ### What each command asks of a descriptor's form before its own checks -/

theorem decodeOp_nop (d : Desc) (s : State) : ∃ k, decodeOp 0x01 d s = gate 0x01 d (formOk d false false m0 m0 m0 m0 m0) s k := by
  dsimp only [decodeOp, decNop]; exact ⟨_, rfl⟩

theorem decodeOp_liftRelease (d : Desc) (s : State) : ∃ k, decodeOp 0x24 d s = gate 0x24 d (formOk d false false m0 m0 m0 m0 m0) s k := by
  dsimp only [decodeOp, decLiftRelease, liftGate]; exact ⟨_, rfl⟩

theorem decodeOp_grindStop (d : Desc) (s : State) : ∃ k, decodeOp 0x41 d s = gate 0x41 d (formOk d false false 1 m0 m0 m0 m0) s k := by
  dsimp only [decodeOp, decGrindStop]; exact ⟨_, rfl⟩

theorem decodeOp_axisStop (d : Desc) (s : State) : ∃ k, decodeOp 0x33 d s = gate 0x33 d (formOk d false false 0x10F m0 m0 m0 m0 &&
    (axNum d < 5 || axNum d = 15)) s k := by
  dsimp only [decodeOp, decAxisStop]; exact ⟨_, rfl⟩

theorem decodeOp_fieldRead (d : Desc) (s : State) : ∃ k, decodeOp 0x4A d s = gate 0x4A d (formOk d false false 3 m0 m0 m0 m0) s k := by
  dsimp only [decodeOp, decFieldRead]; exact ⟨_, rfl⟩

theorem decodeOp_guardAck (d : Desc) (s : State) : ∃ k, decodeOp 0x50 d s = gate 0x50 d (formOk d false false m0 m0 m0 m0 m0) s k := by
  dsimp only [decodeOp, decGuardAck]; exact ⟨_, rfl⟩

theorem decodeOp_logMark (d : Desc) (s : State) : ∃ k, decodeOp 0x58 d s = gate 0x58 d (formOk d false false mA mA mA m0 m0) s k := by
  dsimp only [decodeOp, decLogMark]; exact ⟨_, rfl⟩

theorem decodeOp_grindRun (d : Desc) (s : State) : ∃ k, decodeOp 0x40 d s = gate 0x40 d (formOk d false false mA mA 1 m0 m0 &&
    (arg24 d.d4).toNat != 0 && ((arg24 d.d3).toNat = 0 || (s.pn 0x2814 ≤ (arg24 d.d3).toNat && (arg24 d.d3).toNat ≤ s.pn 0x2818))) s k := by
  dsimp only [decodeOp, decGrindRun]; exact ⟨_, rfl⟩

/-! ### The refused commands -/

section
variable {s : State} {d : Desc} (ht : s.takes d)
include ht

section
variable (h : formOk d false false m0 m0 m0 m0 m0 = false)
include h

theorem nop_refused_form : refusedAs (.nop d) 0x01 d .badArg s :=
  refusedAs_of_gate rfl ht rfl (decodeOp_nop _ _) (gate_of_form _ · h)

theorem liftRelease_refused_form : refusedAs (.liftRelease d) 0x24 d .badArg s :=
  refusedAs_of_gate rfl ht rfl (decodeOp_liftRelease _ _) (gate_of_form _ · h)

theorem guardAck_refused_form : refusedAs (.guardAck d) 0x50 d .badArg s :=
  refusedAs_of_gate rfl ht rfl (decodeOp_guardAck _ _) (gate_of_form _ · h)

end

section
variable {st : Status} (hform : formOk d false false m0 m0 m0 m0 m0 = true) (hst : st.accepted = false)
include hform hst

theorem liftRelease_refused_of_bars (h : s.islandBars 0x24 = some st) : refusedAs (.liftRelease d) 0x24 d st s :=
  refusedAs_of_gate rfl ht hst (decodeOp_liftRelease _ _) (gate_of_bars · hform h)

theorem grindStop_refused_of_bars (h : s.islandBars 0x41 = some st) : refusedAs (.grindStop d) 0x41 d st s :=
  refusedAs_of_gate rfl ht hst (decodeOp_grindStop _ _) (gate_of_bars · (formOk_of_none hform 1 m0 m0 m0 m0) h)

theorem axisStop_refused_of_bars (h : s.islandBars 0x33 = some st) : refusedAs (.axisStop d) 0x33 d st s :=
  refusedAs_of_gate rfl ht hst (decodeOp_axisStop _ _) (gate_of_bars ·
    (by rw [formOk_of_none hform 0x10F m0 m0 m0 m0, axNum_of_none hform]; rfl) h)

theorem fieldRead_refused_of_bars (h : s.islandBars 0x4A = some st) : refusedAs (.fieldRead d) 0x4A d st s :=
  refusedAs_of_gate rfl ht hst (decodeOp_fieldRead _ _) (gate_of_bars · (formOk_of_none hform 3 m0 m0 m0 m0) h)

theorem guardAck_refused_of_bars (h : s.islandBars 0x50 = some st) : refusedAs (.guardAck d) 0x50 d st s :=
  refusedAs_of_gate rfl ht hst (decodeOp_guardAck _ _) (gate_of_bars · hform h)

theorem logMark_refused_of_bars (h : s.islandBars 0x58 = some st) : refusedAs (.logMark d) 0x58 d st s :=
  refusedAs_of_gate rfl ht hst (decodeOp_logMark _ _) (gate_of_bars · (formOk_of_none hform mA mA mA m0 m0) h)

end

theorem grindRun_refused_of_sheds (hbars : s.islandBars 0x40 = none) (hform : formOk d false false mA mA 1 m0 m0 = true)
    (hdose : (arg24 d.d4).toNat ≠ 0)
    (hspeed : (arg24 d.d3).toNat = 0 ∨ (s.pn 0x2814 ≤ (arg24 d.d3).toNat ∧ (arg24 d.d3).toNat ≤ s.pn 0x2818)) (h : s.sheds 0x40 = true) :
    refusedAs (.grindRun d) 0x40 d .shed s := by
  refine refusedAs_of_gate rfl ht rfl (decodeOp_grindRun _ _) (gate_of_sheds · ?_ hbars h)
  have hpn (p : Nat) : (s.fetched d).pn p = s.pn p := rfl
  simp only [hform, hpn]
  simpa [hdose] using hspeed

end

/-- Settles O60: each descriptor is refused by the check of `gate` that its case names (form, island, debug lock, level; log 22). -/
theorem refusalsComplete : Obligations.RefusalsComplete := by
  refine ⟨fun s d ht h => ?form, fun s d ht hform h => ?restricted, fun s d ht hform hrun => ?owner,
    fun s d ht hbars hform hdose hspeed h => grindRun_refused_of_sheds ht hbars hform hdose hspeed (sheds_grindRun h)⟩
  case form => exact ⟨nop_refused_form ht h, liftRelease_refused_form ht h, guardAck_refused_form ht h⟩
  case restricted =>
    have hbars (op : Byte) (hop : recoveryOps.contains op = false) : s.islandBars op = some .islandHeld := islandBars_of_restricted h hop
    exact ⟨liftRelease_refused_of_bars ht hform rfl (hbars _ (by decide)), grindStop_refused_of_bars ht hform rfl (hbars _ (by decide)),
      axisStop_refused_of_bars ht hform rfl (hbars _ (by decide)), fieldRead_refused_of_bars ht hform rfl (hbars _ (by decide)),
      guardAck_refused_of_bars ht hform rfl (hbars _ (by decide)), logMark_refused_of_bars ht hform rfl (hbars _ (by decide))⟩
  case owner =>
    exact ⟨fun h => axisStop_refused_of_bars ht hform rfl (islandBars_of_motion hrun (by decide) h),
      fun hh h => liftRelease_refused_of_bars ht hform rfl (islandBars_of_firmware hrun (by decide) (.inl rfl) hh h),
      fun hh h => grindStop_refused_of_bars ht hform rfl (islandBars_of_firmware hrun (by decide) (.inr rfl) hh h),
      fun hh => liftRelease_refused_of_bars ht hform rfl (islandBars_of_halted hrun (by decide) (.inl rfl) hh),
      fun hh => grindStop_refused_of_bars ht hform rfl (islandBars_of_halted hrun (by decide) (.inr rfl) hh)⟩

end Sys2Proof.Machine
end

section
/-! The state after the power-on reset (R53, R75, R98, R102, R110, R137, R149, R150, R221). -/

namespace Sys2Proof.Machine

/-- Settles O50: the values that `State.reset` gives, island by island, register by register and axis by axis. -/
theorem resetLeaves : Obligations.ResetLeaves := by
  unfold Obligations.ResetLeaves
  have hisl : ∀ i < 8, State.reset.isl i = .off := fun i _ => isl_of_allOff rfl i
  have haxes : ∀ a < 5, (State.reset.axis a).stage = false ∧ (State.reset.axis a).st = .off := by decide
  refine ⟨hisl, rfl, rfl, rfl, ?_, rfl, by decide, rfl, ?_, ?_, ?_, ?_, ?_, rfl, rfl, rfl, rfl, haxes, rfl, rfl, rfl, rfl⟩
  all_goals decide
end Sys2Proof.Machine
end

section
/-! The idle microsecond that ends step 5 can end a command, and so it can write the journal (R97, R212, R306, R308). -/

namespace Sys2Proof.Machine

/-- The AXIS_GEAR command of an armed gear switch. -/
def armedSwitch : Ref := ⟨1, 0, 0x35, 0, 0⟩

/-- Axis 0 in step 5, following ENCM with an armed switch and heading for its negative limit, which is on an input that is STALE and so
counts as active. The handshake has completed, so the next microsecond looks at the limits. -/
def gearedInStep5 : State := { State.reset with
  glb.step := 5
  awn.up := true
  prm.committed := [(axP 0 0x20, 0)]
  ring.outstanding := [armedSwitch]
  mot.ax := State.reset.mot.ax.set 0
    { st := .geared, v := -1, gear := some { master := 5, ratio := 0, origin := 0, offset := 0, armed := some (0, 0, armedSwitch) } } }

/-- The journal's head after a step. -/
def headAfterStep (s : State) : Option Nat := match step s with
  | .next t => some t.jrn.head
  | _ => none

theorem headAfterStep_gearedInStep5 : headAfterStep gearedInStep5 = some 1 := by decide

/-- Refutes O49: its clause that an idle step leaves the journal as it was has no exception for step 5, as the clause after it has. As
step 5 ends, the limit stops the geared axis, whose armed switch ends with an outcome entry (R167, R308). -/
theorem not_stepRunsTheFront : ¬ Obligations.StepRunsTheFront := by
  rintro ⟨-, hidle⟩
  obtain ⟨t, hstep, -, -, hjrn, -⟩ := hidle gearedInStep5 rfl
  have hhead : headAfterStep gearedInStep5 = some t.jrn.head := by rw [headAfterStep, hstep]
  rw [headAfterStep_gearedInStep5, hjrn] at hhead
  exact absurd hhead (by decide)

end Sys2Proof.Machine
end

section
/-! What the machine's reactions to supply, heat and the guard leave alone: stops, trips, doors, car, grinder, field commands, the end of an
activation or of a transaction (Tables 3-2 and 10-1, R206, R261). -/

namespace Sys2Proof.Machine

/-- The state without reports, journal, rings but the descriptors that wait, transaction, image banks, firmware slots and firmware islands,
and without what the machine's drives hold: axes, car, doors, grinder, permits, retained axes and LINK's field commands. Whatever supply, heat
and start decide on stands in it, as do the parameters in force and HOST. -/
def State.offMachine (s : State) : State :=
  { s.quiet with
    free := 0, jrn := {}, ring := { backlog := s.ring.backlog }, txn := {}, prm.bankA := {}, prm.bankB := {}, fw := {}
    lift := {}, door := Vector.replicate 2 {}, grind := {}, mot := { lines := s.mot.lines }
    grd.permits := 0, grd.ramped := 0, keep.ret := Vector.replicate 5 none, glb.awaiting := 0, glb.bankBad := false
    glb.isl := #v[.off, s.isl 1, .off, .off, s.isl 4, s.isl 5, s.isl 6, s.isl 7]
    awn := { hAir := s.awn.hAir, stale := s.awn.stale, huskHot := s.awn.huskHot } }

/-! ### Reports, outcomes and firmware islands -/

theorem offMachine_of_quiet {s t : State} (h : t.quiet = s.quiet) : t.offMachine = s.offMachine := (congrArg State.offMachine h :)

@[simp] theorem offMachine_sync (s : State) : (sync s).offMachine = s.offMachine := offMachine_of_quiet (quiet_sync s)

@[simp] theorem offMachine_raise (c : W16) (v : Nat) (a b : W24) (s : State) : (raise c v a b s).offMachine = s.offMachine :=
  offMachine_of_quiet (quiet_raise c v a b s)

@[simp] theorem offMachine_sendIrq (k : Nat) (s : State) : (sendIrq k s).offMachine = s.offMachine := offMachine_of_quiet (quiet_sendIrq k s)

@[simp] theorem offMachine_finishC (x : Byte) (r : Ref) (st : Status) (w : W24) (e : Byte) (s : State) :
    (finishC x r st w e s).offMachine = s.offMachine := by
  simp only [finishC]
  split
  · split
    · rfl
    · rw [offMachine_of_quiet (quiet_putDone _ _ _ _)]; rfl
  · rfl

@[simp] theorem offMachine_finish (r : Ref) (st : Status) (w : W24) (e : Byte) (s : State) : (finish r st w e s).offMachine = s.offMachine :=
  offMachine_finishC 0 r st w e s

@[simp] theorem offMachine_finishAll (l : List Ref) (st : Status) (w : W24) (e : Byte) (s : State) :
    (finishAll l st w e s).offMachine = s.offMachine :=
  foldl_keeps State.offMachine _ (fun t r => offMachine_finish r st w e t) l s

theorem offMachine_setIsl_fwIsl {k : Nat} (hk : k < 3) (v : IslState) (s : State) : (s.setIsl (fwIsl k) v).offMachine = s.offMachine := by
  have hisl {i : Nat} (hi : i = 0 ∨ i = 2 ∨ i = 3) (j : Nat) (hj : j = 1 ∨ 4 ≤ j) : (s.setIsl i v).isl j = s.isl j := by
    rw [isl_setIsl s (by omega) v j, if_neg (by omega)]
  have hfw : fwIsl k = 0 ∨ fwIsl k = 2 ∨ fwIsl k = 3 := by
    match k, hk with
    | 0, _ => exact .inl rfl
    | 1, _ => exact .inr (.inl rfl)
    | 2, _ => exact .inr (.inr rfl)
  simp only [State.offMachine, hisl hfw _ (.inl rfl), hisl hfw _ (.inr (Nat.le_refl 4)), hisl hfw 5 (by omega), hisl hfw 6 (by omega),
    hisl hfw 7 (by omega)]
  rfl

/-! ### Axes and outputs -/

@[simp] theorem offMachine_axMod (a : Nat) (f : Axis → Axis) (s : State) : (axMod a f s).offMachine = s.offMachine := rfl

@[simp] theorem offMachine_axStop (emg : Bool) (a : Nat) (st : Status) (e : Byte) (s : State) : (axStop emg a st e s).offMachine = s.offMachine := by
  simp only [axStop, apply_ite State.offMachine, offMachine_finishAll, offMachine_axMod, ite_self]

@[simp] theorem offMachine_axDisable (a : Nat) (st : Status) (e : Byte) (s : State) : (axDisable a st e s).offMachine = s.offMachine := by
  simp only [axDisable, offMachine_finishAll, offMachine_axMod]; rfl

@[simp] theorem offMachine_driveOut (c : Option Nat) (on : Bool) (s : State) : (driveOut c on s).offMachine = s.offMachine := by
  cases c <;> rfl

/-! ### The car -/

@[simp] theorem offMachine_brakeSet (on : Bool) (s : State) : (brakeSet on s).offMachine = s.offMachine := offMachine_driveOut _ _ _

@[simp] theorem offMachine_endCalls (st : Status) (e : Byte) (s : State) : (endCalls st e s).offMachine = s.offMachine := by
  simp only [endCalls, apply_ite State.offMachine, offMachine_raise, offMachine_finishAll]; exact ite_self _

@[simp] theorem offMachine_enterHold (c : Nat) (s : State) : (enterHold c s).offMachine = s.offMachine := by
  simp only [enterHold, offMachine_finishAll, offMachine_raise]; rfl

@[simp] theorem offMachine_toIdle (s : State) : (toIdle s).offMachine = s.offMachine := by
  unfold toIdle; split
  · exact offMachine_enterHold _ s
  · rfl

@[simp] theorem offMachine_carLost (s : State) : (carLost s).offMachine = s.offMachine := offMachine_endCalls _ _ _

@[simp] theorem offMachine_liftFaultEnd (s : State) : (liftFaultEnd s).offMachine = s.offMachine := by
  simp only [liftFaultEnd, apply_ite State.offMachine, offMachine_carLost, offMachine_axMod, offMachine_axDisable, offMachine_brakeSet, ite_self]

@[simp] theorem offMachine_liftFault (c : Nat) (s : State) : (liftFault c s).offMachine = s.offMachine := by
  simp only [liftFault, apply_ite State.offMachine, offMachine_liftFaultEnd, offMachine_axStop, offMachine_finishAll, offMachine_endCalls,
    offMachine_raise]
  exact ite_self _

@[simp] theorem offMachine_homeFail (why c : Nat) (s : State) : (homeFail why c s).offMachine = s.offMachine := by
  simp only [homeFail, offMachine_liftFault, offMachine_raise]

@[simp] theorem offMachine_undispatch (s : State) : (undispatch s).offMachine = s.offMachine := by
  simp only [undispatch, offMachine_toIdle, offMachine_brakeSet]; rfl

@[simp] theorem offMachine_liftAbandon (s : State) : (liftAbandon s).offMachine = s.offMachine := by
  have hstop : (axStop true 0 .interlock 0 { s with lift.abandon := true }).offMachine = s.offMachine := offMachine_axStop _ _ _ _ _
  unfold liftAbandon
  split
  · rfl
  · split
    · exact offMachine_undispatch s
    · exact hstop
    · exact hstop
    · simp only [apply_ite State.offMachine, hstop, ite_self]
    · simp only [apply_ite State.offMachine, offMachine_homeFail, ite_self]
    · rfl

/-! ### Doors -/

@[simp] theorem offMachine_drMod (k : Nat) (f : Door → Door) (s : State) : (drMod k f s).offMachine = s.offMachine := rfl

@[simp] theorem offMachine_lockOut (k : Nat) (on : Bool) (s : State) : (lockOut k on s).offMachine = s.offMachine := offMachine_driveOut _ _ _

@[simp] theorem offMachine_buzz (k : Nat) (on : Bool) (s : State) : (buzz k on s).offMachine = s.offMachine := offMachine_driveOut _ _ _

@[simp] theorem offMachine_endOpen (k : Nat) (st : Status) (e : Byte) (s : State) : (endOpen k st e s).offMachine = s.offMachine :=
  offMachine_finishAll _ _ _ _ _

@[simp] theorem offMachine_endClose (k : Nat) (st : Status) (e : Byte) (s : State) : (endClose k st e s).offMachine = s.offMachine :=
  offMachine_finishAll _ _ _ _ _

@[simp] theorem offMachine_cycleEnd (k : Nat) (ok : Bool) (s : State) : (cycleEnd k ok s).offMachine = s.offMachine := by
  simp only [cycleEnd, apply_ite State.offMachine, offMachine_toIdle, offMachine_enterHold, offMachine_finishAll]
  exact (congrArg _ (ite_self _)).trans (ite_self _)

@[simp] theorem offMachine_doorFault (k c : Nat) (st : Status) (e : Byte) (s : State) : (doorFault k c st e s).offMachine = s.offMachine := by
  simp only [doorFault, apply_ite State.offMachine, offMachine_cycleEnd, offMachine_endClose, offMachine_endOpen, offMachine_axMod, offMachine_axStop,
    offMachine_raise, offMachine_buzz, offMachine_lockOut, offMachine_drMod, ite_self]

@[simp] theorem offMachine_doorHalt (k : Nat) (st : Status) (e : Byte) (s : State) : (doorHalt k st e s).offMachine = s.offMachine := by
  simp only [doorHalt, apply_ite State.offMachine, offMachine_doorFault, ite_self]

/-! ### The grinder -/

@[simp] theorem offMachine_grindEnable (s : State) : (grindEnable s).offMachine = s.offMachine := by
  unfold grindEnable; split
  · rfl
  · split <;> rfl

@[simp] theorem offMachine_grindEnd (st : Status) (e : Byte) (s : State) : (grindEnd st e s).offMachine = s.offMachine := offMachine_finishAll _ _ _ _ _

@[simp] theorem offMachine_grindStopsDone (s : State) : (grindStopsDone s).offMachine = s.offMachine := offMachine_finishAll _ _ _ _ _

@[simp] theorem offMachine_grindCoastCause (st : Status) (e : Byte) (s : State) : (grindCoastCause st e s).offMachine = s.offMachine := by
  have hend := offMachine_grindEnd st e s
  unfold grindCoastCause
  split
  · rw [offMachine_grindStopsDone, offMachine_grindEnable]; exact hend
  · split
    case h_6 => split <;> exact hend -- COAST, where a retry may have been due
    all_goals exact hend

/-! ### Field commands -/

@[simp] theorem offMachine_endWrite (id : Nat) (st : Status) (e : Byte) (s : State) : (endWrite id st e s).offMachine = s.offMachine := by
  unfold endWrite
  split
  · rfl
  · split
    · exact offMachine_finish _ _ _ _ _
    · rfl

@[simp] theorem offMachine_endPulses (m : BitVec 24) (st : Status) (e : Byte) (s : State) : (endPulses m st e s).offMachine = s.offMachine :=
  offMachine_finishAll _ _ _ _ _

@[simp] theorem offMachine_endField (fl : Bool) (m : BitVec 24) (st : Status) (e : Byte) (s : State) :
    (endField fl m st e s).offMachine = s.offMachine := by
  simp only [endField, endWrites]
  rw [foldl_keeps State.offMachine _ (fun t i => offMachine_endWrite i st e t), offMachine_endPulses]

@[simp] theorem offMachine_dropOutputs (m : BitVec 17) (s : State) : (dropOutputs m s).offMachine = s.offMachine := offMachine_endField _ _ _ _ _

/-! ### A firmware activation -/

theorem offMachine_enterMain {k : Nat} (hk : k < 3) (s : State) : (enterMain k s).offMachine = s.offMachine := by
  unfold enterMain
  split
  · exact offMachine_setIsl_fwIsl hk _ s
  · rw [offMachine_sendIrq, offMachine_raise, offMachine_setIsl_fwIsl hk]


theorem offMachine_readmitOne {k : Nat} (hk : k < 3) (s : State) : (readmitOne s k).offMachine = s.offMachine := by
  simp only [readmitOne, apply_ite State.offMachine, offMachine_raise, offMachine_setIsl_fwIsl hk, ite_self]

@[simp] theorem offMachine_readmit (s : State) : (readmit s).offMachine = s.offMachine := by
  rw [readmit_eq, offMachine_readmitOne (by decide), offMachine_readmitOne (by decide), offMachine_readmitOne (by decide)]

@[simp] theorem offMachine_endAct (st : Status) (ms : Nat) (s : State) : (endAct st ms s).offMachine = s.offMachine := by
  unfold endAct; split
  · rfl
  · simp only [offMachine_readmit, offMachine_sendIrq, offMachine_finish]; rfl

@[simp] theorem offMachine_abandonAct (why : Nat) (st : Status) (s : State) : (abandonAct why st s).offMachine = s.offMachine := by
  unfold abandonAct; split
  · rfl
  · simp only [apply_ite State.offMachine, offMachine_endAct, offMachine_raise, ite_self]

/-! ### Permits withdrawn and the guard's states -/

@[simp] theorem offMachine_withdrawAll (s : State) : (withdrawAll s).offMachine = s.offMachine := by
  have hlost (m : BitVec 17) (u : State) (c : Nat) :
      (if m.getLsbD c then lostEvent c 1 0x3F 0 u else u).offMachine = u.offMachine := by
    simp only [lostEvent, apply_ite State.offMachine, offMachine_raise, ite_self]
  simp only [withdrawAll, offMachine_dropOutputs]
  rw [foldl_keeps State.offMachine _ (hlost _)]; rfl

@[simp] theorem offMachine_brakeOffStill (s : State) : (brakeOffStill s).offMachine = s.offMachine := by
  simp only [brakeOffStill, apply_ite State.offMachine, offMachine_brakeSet, ite_self]

@[simp] theorem offMachine_brakeAtRest (s : State) : (brakeAtRest s).offMachine = s.offMachine := by
  simp only [brakeAtRest, apply_ite State.offMachine, offMachine_brakeSet, ite_self]

/-- What the guard's stop and its trip do to the machine leaves the guard's own state as it is (Table 10-1). -/
theorem offMachine_stopMachine (s : State) : (stopMachine s).offMachine = s.offMachine := by
  have hdoors := foldl_keeps State.offMachine (fun u k => doorHalt k .interlock 0 u) (fun u k => offMachine_doorHalt k .interlock 0 u)
  have haxes := foldl_keeps State.offMachine (fun u a => axStop true a .interlock 0 u) (fun u a => offMachine_axStop true a .interlock 0 u)
  simp only [stopMachine, offMachine_abandonAct, offMachine_brakeAtRest, offMachine_brakeOffStill, offMachine_grindCoastCause, haxes, hdoors,
    offMachine_liftAbandon, offMachine_withdrawAll]

theorem offMachine_tripMachine (s : State) : (tripMachine s).offMachine = s.offMachine := by
  have hdoors := foldl_keeps State.offMachine (fun u k => doorHalt k .interlock 0 u) (fun u k => offMachine_doorHalt k .interlock 0 u)
  have haxes := foldl_keeps State.offMachine (fun u a => axDisable a .interlock 0 u) (fun u a => offMachine_axDisable a .interlock 0 u)
  simp only [tripMachine, offMachine_abandonAct, offMachine_endField, offMachine_grindCoastCause, apply_ite State.offMachine, offMachine_brakeSet,
    offMachine_liftFaultEnd, offMachine_liftFault, offMachine_liftAbandon, haxes, hdoors, offMachine_withdrawAll, ite_self]

/-! ### The shedding levels -/

@[simp] theorem offMachine_holdCause (c : Nat) (s : State) : (holdCause c s).offMachine = s.offMachine := by
  unfold holdCause
  split
  · exact offMachine_enterHold c s
  all_goals rfl

@[simp] theorem offMachine_shedStage (s : State) : (shedStage s).offMachine = s.offMachine := by
  obtain ⟨n, f, hcut⟩ := cutStage_eq s
  simp only [shedStage, offMachine_finishAll, hcut]; rfl

@[simp] theorem offMachine_actL1 (s : State) : (actL1 s).offMachine = s.offMachine := by
  simp only [actL1, offMachine_abandonAct, apply_ite State.offMachine, offMachine_liftAbandon, offMachine_grindCoastCause, ite_self]

@[simp] theorem offMachine_actL2 (s : State) : (actL2 s).offMachine = s.offMachine := by
  have hdoor (u : State) (k : Nat) : (doorShed k u).offMachine = u.offMachine := by
    simp only [doorShed, apply_ite State.offMachine, offMachine_drMod, offMachine_doorHalt, ite_self]
  have hdoors := foldl_keeps State.offMachine (fun u k => doorShed k u) hdoor
  have hstops := foldl_keeps State.offMachine (fun u a => axStop true a .shed 0 u) (fun u a => offMachine_axStop true a .shed 0 u)
  have hholds := foldl_keeps State.offMachine (fun u a => axMod a (fun x => { x with hold := x.hold || x.stage }) u)
    (fun u a => offMachine_axMod a _ u)
  simp only [actL2, offMachine_shedStage, hholds, hstops, hdoors, offMachine_liftAbandon]

@[simp] theorem offMachine_rollback (c i : Nat) (s : State) : (rollback c i s).offMachine = s.offMachine := by
  have hto (st : TxnState) (u : State) : (txnTo st u).offMachine = u.offMachine := by
    simp only [txnTo, apply_ite State.offMachine, offMachine_sendIrq]; exact ite_self _
  have hshares (u : State) : (discardShares u).offMachine = u.offMachine := by
    simp only [discardShares]; split <;> rfl
  have habort (u : State) : (imageAbort u).offMachine = u.offMachine := rfl
  have hended : (discardShares (if s.committing then imageAbort s else s)).offMachine = s.offMachine := by
    rw [hshares, apply_ite State.offMachine, habort, ite_self]
  simp only [rollback, hto]
  split
  · rw [offMachine_raise]; exact hended
  · rw [offMachine_finishC, offMachine_raise]; exact hended

@[simp] theorem offMachine_txnShed (s : State) : (txnShed s).offMachine = s.offMachine := by
  simp only [txnShed, apply_ite State.offMachine, offMachine_rollback, ite_self]

@[simp] theorem offMachine_actL3 (v : W24) (s : State) : (actL3 v s).offMachine = s.offMachine := by
  have haxes := foldl_keeps State.offMachine (fun u a => axDisable a .shed 0 u) (fun u a => offMachine_axDisable a .shed 0 u)
  have hnv (u : State) : ({ u with mot.nv := u.keep.ret } : State).offMachine = u.offMachine := rfl
  have hclean (u : State) : (markClean u).quiet = u.quiet := rfl
  have hreports (u : State) (n : W24) : (mirrorNowSent (markClean (raise 0x0203 5 v n (flush u)))).offMachine = u.offMachine :=
    offMachine_of_quiet (by rw [quiet_mirrorNowSent, hclean, quiet_raise, quiet_flush])
  have hcall (n : Nat) (u : State) : (attention n u).offMachine = u.offMachine := offMachine_of_quiet (quiet_attention n u)
  simp only [actL3, hreports, hcall, offMachine_txnShed, offMachine_endField, apply_ite State.offMachine, offMachine_liftFaultEnd,
    offMachine_liftFault, offMachine_holdCause, hnv, haxes, offMachine_brakeSet, ite_self]

/-! ### Frames from the Husk, and their absence -/

@[simp] theorem offMachine_limitScan (s : State) : (limitScan s).offMachine = s.offMachine := by
  have hhit (a side : Nat) (u : State) : (limitHit a side u).offMachine = u.offMachine := by
    simp only [limitHit, apply_ite State.offMachine, offMachine_axMod, offMachine_axStop, offMachine_raise, ite_self]
  refine foldl_keeps State.offMachine _ (fun t a => ?_) _ s
  simp only [apply_ite State.offMachine, hhit, offMachine_axMod, ite_self]

@[simp] theorem offMachine_latchScan (old : BitVec 16) (s : State) : (latchScan old s).offMachine = s.offMachine := by
  refine foldl_keeps State.offMachine _ (fun t a => ?_) _ s
  unfold latchEdge
  split
  · rfl
  · simp only [apply_ite State.offMachine, offMachine_axMod, ite_self]

theorem offMachine_postCpl (op : Byte) (d : Desc) (st : Status) (q : Nat) (r : W24) (x : Byte) (s : State) :
    (postCpl op d st q r x s).offMachine = s.offMachine := by
  obtain ⟨l, p, h⟩ := quiet_postCpl op d st q r x s
  exact (offMachine_of_quiet h).trans rfl

@[simp] theorem offMachine_acceptOk (op : Byte) (d : Desc) (r : W24) (x : Byte) (s : State) : (acceptOk op d r x s).offMachine = s.offMachine :=
  offMachine_postCpl _ _ _ _ _ _ _

@[simp] theorem offMachine_acceptRun (op : Byte) (d : Desc) (st : Status) (r : W24) (x : Byte) (s : State) :
    (acceptRun op d st r x s).offMachine = s.offMachine :=
  offMachine_postCpl _ _ _ _ _ _ _

@[simp] theorem offMachine_refuse (op : Byte) (d : Desc) (st : Status) (x : Byte) (s : State) : (refuse op d st x s).offMachine = s.offMachine :=
  offMachine_postCpl _ _ _ _ _ _ _

@[simp] theorem offMachine_failClear (s : State) : (failClear s).offMachine = s.offMachine := by
  unfold failClear
  split
  · split
    · exact offMachine_acceptOk _ _ _ _ _
    · exact offMachine_refuse _ _ _ _ _
  · rfl

@[simp] theorem offMachine_endWrites (p : FieldCmd → Bool) (st : Status) (e : Byte) (s : State) : (endWrites p st e s).offMachine = s.offMachine :=
  foldl_keeps State.offMachine _ (fun t i => offMachine_endWrite i st e t) _ s

@[simp] theorem offMachine_endAllField (st : Status) (e : Byte) (s : State) : (endAllField st e s).offMachine = s.offMachine := by
  simp only [endAllField, offMachine_endWrites, endPulsesIf, offMachine_finishAll]; rfl

/-- The inputs as they become STALE (R52, R261). -/
theorem offMachine_goStale {s : State} (h : s.awn.stale = false) :
    (goStale s).offMachine = ({ s with awn.stale := true, sup.f24 := 0xFFFFFF } : State).offMachine := by
  simp only [goStale, h, Bool.false_eq_true, if_false, offMachine_limitScan, offMachine_failClear, offMachine_endAllField, offMachine_raise]
  rfl

@[simp] theorem offMachine_settleWrites (s : State) : (settleWrites s).offMachine = s.offMachine := offMachine_finishAll _ _ _ _ _

@[simp] theorem offMachine_journalWrite (d : Desc) (id : Nat) (s : State) : (journalWrite d id s).offMachine = s.offMachine := by
  unfold journalWrite
  split
  · rfl
  · split
    · rw [offMachine_finish]; exact offMachine_acceptRun _ _ _ _ _ _
    · split
      · exact offMachine_acceptOk _ _ _ _ _
      · exact offMachine_acceptRun _ _ _ _ _ _

@[simp] theorem offMachine_ackJournal (s : State) : (ackJournal s).offMachine = s.offMachine := by
  unfold ackJournal
  split
  · simp only [apply_ite State.offMachine, offMachine_settleWrites, offMachine_journalWrite, ite_self]
  · rfl

end Sys2Proof.Machine
end

section
/-! The shedding ladder (R56 to R63, Table 3-2): what each level entered, left or recovered from leaves. -/

namespace Sys2Proof.Machine

/-- A row completes with what holds of every state that shows its effect apart from reports. -/
theorem completes_of_doneIf_quiet {c : Instr} {p : Bool} {f : State → State} {s u : State} {P : State → Prop} (hx : exec c s = doneIf p f s)
    (hp : p = true) (hq : (f s).quiet = u.quiet) (hP : ∀ t : State, t.quiet = u.quiet → P t) : completes c s P :=
  completes_of_doneIf hx hp (hP _ ((quiet_sync _).trans hq))

/-! ### Axes under a fold over all five -/

theorem axis_axMod {a : Nat} (ha : a < 5) (f : Axis → Axis) (s : State) (b : Nat) :
    (axMod a f s).axis b = if b = a then f (s.axis a) else s.axis b := by
  by_cases hb : b = a
  · subst hb; simp [State.axis, axMod, List.getD_eq_getElem?_getD, ha]
  · simp [State.axis, axMod, List.getD_eq_getElem?_getD, List.getElem?_set_ne (Ne.symm hb), hb]

/-- A property that an operation gives its axis and takes from none holds of every axis after the operation on all five. -/
theorem axis_foldl_range {P : Axis → Prop} {f : State → Nat → State} (hset : ∀ s, ∀ a < 5, P ((f s a).axis a))
    (hkeep : ∀ s a b, P (s.axis b) → P ((f s a).axis b)) (s : State) : ∀ a < 5, P (((List.range 5).foldl f s).axis a) := by
  intro a ha
  show P ((f (f (f (f (f s 0) 1) 2) 3) 4).axis a)
  match a, ha with
  | 0, _ => exact hkeep _ _ _ (hkeep _ _ _ (hkeep _ _ _ (hkeep _ _ _ (hset _ 0 (by decide)))))
  | 1, _ => exact hkeep _ _ _ (hkeep _ _ _ (hkeep _ _ _ (hset _ 1 (by decide))))
  | 2, _ => exact hkeep _ _ _ (hkeep _ _ _ (hset _ 2 (by decide)))
  | 3, _ => exact hkeep _ _ _ (hset _ 3 (by decide))
  | 4, _ => exact hset _ 4 (by decide)

/-- A property that a map of one axis keeps holds of every axis that had it. -/
theorem axis_axMod_keeps {P : Axis → Prop} {f : Axis → Axis} (hf : ∀ x, P x → P (f x)) (a : Nat) {s : State} {b : Nat} (h : P (s.axis b)) :
    P ((axMod a f s).axis b) := by
  by_cases ha : a < 5
  · rw [axis_axMod ha]
    split
    · next hb => subst hb; exact hf _ h
    · exact h
  · have hsame : axMod a f s = s := by
      simp [axMod, Vector.setIfInBounds_eq_of_size_le (Nat.le_of_not_lt ha)]
    rw [hsame]; exact h

theorem fw_of_quiet {s t : State} (h : t.quiet = s.quiet) : t.fw = s.fw := (congrArg State.fw h :)

theorem axis_of_quiet {s t : State} (h : t.quiet = s.quiet) (a : Nat) : t.axis a = s.axis a := (congrArg (fun u : State => u.axis a) h :)

/-! ### Stages and brake off -/

/-- Every stage disabled, and, where `b` says so, the brake output off. -/
def DrivesOff (b : Bool) (s : State) : Prop := (∀ a < 5, (s.axis a).stage = false) ∧ (b = true → s.lift.brake = false)

/-- What `DrivesOff` is about: the axes and the brake output. -/
def State.drives (s : State) : Vector Axis 5 × Bool := (s.mot.ax, s.lift.brake)

theorem drivesOff_of_drives {b : Bool} {s t : State} (h : t.drives = s.drives) (hs : DrivesOff b s) : DrivesOff b t := by
  have hax : t.mot.ax = s.mot.ax := congrArg Prod.fst h
  have hbrake : t.lift.brake = s.lift.brake := congrArg Prod.snd h
  simp only [DrivesOff, State.axis, hax, hbrake]; exact hs

theorem rest_finishAll (l : List Ref) (st : Status) (w : W24) (e : Byte) (s : State) : (finishAll l st w e s).rest = s.rest :=
  foldl_keeps State.rest _ (fun t r => rest_finishC 0 r st w e t) l s

theorem drives_of_rest {s t : State} (h : t.rest = s.rest) : t.drives = s.drives := (congrArg State.drives h :)

theorem drives_of_quiet {s t : State} (h : t.quiet = s.quiet) : t.drives = s.drives := drives_of_rest (rest_of_quiet h)

@[simp] theorem drives_raise (c : W16) (v : Nat) (a b : W24) (s : State) : (raise c v a b s).drives = s.drives :=
  drives_of_quiet (quiet_raise c v a b s)

@[simp] theorem drives_finish (r : Ref) (st : Status) (w : W24) (e : Byte) (s : State) : (finish r st w e s).drives = s.drives :=
  drives_of_rest (rest_finishC 0 r st w e s)

@[simp] theorem drives_finishAll (l : List Ref) (st : Status) (w : W24) (e : Byte) (s : State) : (finishAll l st w e s).drives = s.drives :=
  drives_of_rest (rest_finishAll l st w e s)

@[simp] theorem drives_endCalls (st : Status) (e : Byte) (s : State) : (endCalls st e s).drives = s.drives := by
  simp only [endCalls, apply_ite State.drives, drives_raise, drives_finishAll]; exact ite_self _

@[simp] theorem drives_holdCause (c : Nat) (s : State) : (holdCause c s).drives = s.drives := by
  unfold holdCause
  split
  · simp only [enterHold, drives_finishAll, drives_raise]; rfl
  all_goals rfl

@[simp] theorem drives_carLost (s : State) : (carLost s).drives = s.drives := drives_endCalls _ _ _

@[simp] theorem drives_endField (fl : Bool) (m : BitVec 24) (st : Status) (e : Byte) (s : State) : (endField fl m st e s).drives = s.drives := by
  have hwrite (u : State) (i : Nat) : (endWrite i st e u).drives = u.drives := by
    unfold endWrite
    split
    · rfl
    · split
      · exact drives_finish _ _ _ _ _
      · rfl
  exact (foldl_keeps State.drives _ hwrite _ _).trans (drives_finishAll _ _ _ _ _)

@[simp] theorem drives_txnShed (s : State) : (txnShed s).drives = s.drives := by
  unfold txnShed
  split
  · exact (congrArg (fun u : State => (u.mot.ax, u.lift.brake)) (outsideHost_rollback 5 15 s) :)
  · rfl

section
variable {b : Bool} {s : State}

theorem drivesOff_axMod {f : Axis → Axis} (hf : ∀ x, x.stage = false → (f x).stage = false) (a : Nat) (h : DrivesOff b s) :
    DrivesOff b (axMod a f s) :=
  ⟨fun c hc => axis_axMod_keeps (P := fun x => x.stage = false) hf a (h.1 c hc), h.2⟩

theorem drivesOff_axStop (emg : Bool) (a : Nat) (st : Status) (e : Byte) (h : DrivesOff b s) : DrivesOff b (axStop emg a st e s) := by
  dsimp only [axStop]
  split
  · exact h
  · refine drivesOff_of_drives (drives_finishAll _ _ _ _ _) ?_
    exact drivesOff_axMod (by exact fun _ hx => hx) a h

/-- The disabling of a stage maps its axis to one with the stage off. -/
theorem drives_axDisable (a : Nat) (st : Status) (e : Byte) (s : State) :
    ∃ (f : Axis → Axis) (u : State), (axDisable a st e s).drives = (axMod a f u).drives ∧ u.drives = s.drives ∧ ∀ x, (f x).stage = false := by
  refine ⟨_, _, (drives_finishAll _ _ _ _ _).trans ((drives_finishAll _ _ _ _ _).trans (drives_finishAll _ _ _ _ _)), rfl, fun x => rfl⟩

theorem drivesOff_axDisable (a : Nat) (st : Status) (e : Byte) (h : DrivesOff b s) : DrivesOff b (axDisable a st e s) := by
  obtain ⟨f, u, hd, hu, hf⟩ := drives_axDisable a st e s
  exact drivesOff_of_drives hd (drivesOff_axMod (fun x _ => hf x) a (drivesOff_of_drives hu h))

theorem drivesOff_brakeSet (h : ∀ a < 5, (s.axis a).stage = false) : DrivesOff b (brakeSet false s) := by
  refine ⟨?_, fun _ => ?_⟩
  · unfold brakeSet driveOut; split <;> exact h
  · unfold brakeSet driveOut; split <;> rfl

theorem drivesOff_liftFaultEnd (h : DrivesOff b s) : DrivesOff b (liftFaultEnd s) := by
  unfold liftFaultEnd
  split
  · have hoff : DrivesOff b (axDisable 0 .notHomed 0 (brakeSet false s)) := drivesOff_axDisable 0 _ _ (drivesOff_brakeSet h.1)
    refine drivesOff_of_drives (drives_carLost _) ?_
    exact drivesOff_axMod (by exact fun _ hx => hx) 0 hoff
  · exact h

theorem drivesOff_liftFault (c : Nat) (h : DrivesOff b s) : DrivesOff b (liftFault c s) := by
  unfold liftFault
  split
  · exact h
  · refine drivesOff_liftFaultEnd (drivesOff_axStop true 0 _ _ ?_)
    refine drivesOff_of_drives ?_ h
    rw [drives_finishAll, drives_endCalls, drives_raise]; rfl

end

/-! ### The actions of L2 and L3 -/

/-- The levels from L2 on leave no staging in flight or waiting (R474), and the axes as they are. -/
theorem shedStage_ends (s : State) : (shedStage s).fw.stage = none ∧ (shedStage s).fw.stageNext = none ∧ (shedStage s).mot = s.mot := by
  have hrest : (shedStage s).rest = ({ cutStage s with fw.stageNext := none } : State).rest := rest_finishAll _ _ _ _ _
  have hfw : (shedStage s).fw = { (cutStage s).fw with stageNext := none } := (congrArg State.fw hrest :)
  have hmot : (shedStage s).mot = (cutStage s).mot := (congrArg State.mot hrest :)
  obtain ⟨n, f, hcut⟩ := cutStage_eq s
  refine ⟨?_, by rw [hfw], by rw [hmot, hcut]⟩
  rw [hfw]
  show (cutStage s).fw.stage = none
  unfold cutStage
  split
  · next h => exact h
  · rfl

/-- After the actions of L2 every enabled stage stands on its hold current, and no staging is left (R474, Table 3-2). -/
theorem actL2_acts (s : State) : (actL2 s).fw.stage = none ∧ (actL2 s).fw.stageNext = none ∧
    ∀ a < 5, ((actL2 s).axis a).stage = true → ((actL2 s).axis a).hold = true := by
  unfold actL2
  dsimp only
  generalize (List.range 5).foldl (fun u a => axStop true a .shed 0 u) _ = t
  generalize hu : (List.range 5).foldl (fun u a => axMod a (fun x => { x with hold := x.hold || x.stage }) u) t = u
  obtain ⟨hstage, hnext, hmot⟩ := shedStage_ends u
  refine ⟨hstage, hnext, ?_⟩
  have haxis (a : Nat) : (shedStage u).axis a = u.axis a := by rw [State.axis, State.axis, hmot]
  simp only [haxis]
  subst hu
  refine axis_foldl_range (P := fun x => x.stage = true → x.hold = true) (fun w a ha => ?_) (fun w a b => ?_) t
  · rw [axis_axMod ha, if_pos rfl]
    exact fun h => by simp [show (w.axis a).stage = true from h]
  · exact axis_axMod_keeps (P := fun x => x.stage = true → x.hold = true) (fun x hx h => by simp [hx h]) a

theorem axDisable_all (st : Status) (e : Byte) (s : State) :
    ∀ a < 5, (((List.range 5).foldl (fun u a => axDisable a st e u) s).axis a).stage = false := by
  have hax {a : Nat} {f : Axis → Axis} {u v w : State} (hd : u.drives = (axMod a f v).drives) (hv : v.drives = w.drives) (b : Nat) :
      u.axis b = (axMod a f w).axis b := by
    have hu : u.mot.ax = (axMod a f v).mot.ax := congrArg Prod.fst hd
    have hw : v.mot.ax = w.mot.ax := congrArg Prod.fst hv
    simp only [State.axis, hu, axMod, hw]
  refine axis_foldl_range (P := fun x => x.stage = false) (fun w a ha => ?_) (fun w a b hb => ?_) s
  · obtain ⟨f, v, hd, hv, hf⟩ := drives_axDisable a st e w
    rw [hax hd hv, axis_axMod ha, if_pos rfl]
    exact hf _
  · obtain ⟨f, v, hd, hv, hf⟩ := drives_axDisable a st e w
    rw [hax hd hv]
    exact axis_axMod_keeps (P := fun x => x.stage = false) (fun x _ => hf x) a hb

/-- After the actions of L3 no stage is enabled, and the brake of an enabled lift is off (R366, Table 3-2). -/
theorem actL3_drivesOff (v : W24) (s : State) : DrivesOff s.liftEn (actL3 v s) := by
  have hbrake (u : State) : ((List.range 5).foldl (fun u a => axDisable a .shed 0 u) u).lift.brake = u.lift.brake :=
    foldl_keeps (fun w : State => w.lift.brake) _ (fun w a => by
      obtain ⟨f, x, hd, hx, -⟩ := drives_axDisable a .shed 0 w
      exact (congrArg Prod.snd hd).trans (congrArg Prod.snd hx)) _ u
  have hclean (u : State) : (markClean u).quiet = u.quiet := rfl
  have hends (u : State) (n : W24) : (mirrorNowSent (markClean (raise 0x0203 5 v n (flush u)))).drives = u.drives :=
    drives_of_quiet (by rw [quiet_mirrorNowSent, hclean, quiet_raise, quiet_flush])
  have hattention (n : Nat) (u : State) : (attention n u).drives = u.drives := drives_of_quiet (quiet_attention n u)
  unfold actL3
  dsimp only
  refine drivesOff_of_drives (hends _ _) (drivesOff_of_drives (hattention _ _) (drivesOff_of_drives (drives_txnShed _)
    (drivesOff_of_drives (drives_endField _ _ _ _ _) ?_)))
  generalize hw : (List.range 5).foldl (fun u a => axDisable a .shed 0 u) (if s.liftEn then brakeSet false s else s) = w
  have hoff : DrivesOff s.liftEn w := by
    subst hw
    refine ⟨axDisable_all .shed 0 _, fun hen => ?_⟩
    rw [hbrake, if_pos hen]
    unfold brakeSet driveOut; split <;> rfl
  generalize hx : ({ w with mot.nv := w.keep.ret } : State) = x
  have hxoff : DrivesOff s.liftEn x := by subst hx; exact drivesOff_of_drives rfl hoff
  split
  · exact hxoff
  · split
    · exact drivesOff_liftFaultEnd (drivesOff_liftFault 6 hxoff)
    · exact drivesOff_of_drives (drives_holdCause 6 x) hxoff

/-! ### Levels entered in ladder order -/

/-- The state of a level just entered, before its record and its actions. -/
def State.entered (s : State) (j : Fin 6) : State :=
  { s with
    sup.level := j, sup.deepest := max s.sup.deepest j, sup.recovering := false
    sup.latch := if 1 ≤ j.val && j.val ≤ 4 then setB s.sup.latch (j.val - 1) true else s.sup.latch }

/-- What stands in `offMachine` and no level changes on its way in. -/
def State.offLadder (s : State) : State :=
  ({ s with sup.level := 0, sup.deepest := 0, sup.recovering := false, sup.latch := 0 } : State).offMachine

/-- A level above L5 entered changes, apart from its actions on the machine, its own marks alone. -/
theorem offMachine_enterLevel (v : W24) (s : State) {j : Fin 6} (hj : j ≠ 5) : (enterLevel v s j).offMachine = (s.entered j).offMachine := by
  have hwake (u : State) : (wake 3 u).offMachine = u.offMachine := offMachine_of_quiet (quiet_wake 3 u)
  unfold enterLevel
  rw [offMachine_sendIrq]
  match j, hj with
  | 0, _ => rfl
  | 1, _ => exact (offMachine_actL1 _).trans ((hwake _).trans (offMachine_raise _ _ _ _ _))
  | 2, _ => exact (offMachine_actL2 _).trans ((hwake _).trans (offMachine_raise _ _ _ _ _))
  | 3, _ => exact (offMachine_actL3 v _).trans (hwake _)
  | 4, _ => exact (hwake _).trans (offMachine_raise _ _ _ _ _)
  | 5, h => exact absurd rfl h

/-- The levels that a fall of VBUS crosses end with the one it reaches, and none before it is L5 (R57). -/
theorem crossed_eq : ∀ l k : Fin 6, l < k →
    ([1, 2, 3, 4, 5] : List (Fin 6)).filter (fun j => l < j && j ≤ k) =
      (([1, 2, 3, 4, 5] : List (Fin 6)).filter (fun j => l < j && j ≤ k)).dropLast ++ [k] ∧
    ∀ j ∈ (([1, 2, 3, 4, 5] : List (Fin 6)).filter (fun j => l < j && j ≤ k)).dropLast, j ≠ 5 := by decide

/-- A fall of VBUS ends with the entry into the level it reaches, from a state in which VBUS is noted (R57). -/
theorem shedTo_enters {k : Fin 6} (v : W24) {s : State} (h : s.sup.level < k) :
    ∃ u, shedTo k v s = enterLevel v u k ∧ u.offLadder = (noteVbus v s).offLadder := by
  obtain ⟨hlist, hmem⟩ := crossed_eq s.sup.level k h
  refine ⟨_, by rw [shedTo, hlist, List.foldl_append]; rfl, ?_⟩
  refine List.foldlRecOn (motive := fun u : State => u.offLadder = (noteVbus v s).offLadder) _ _ rfl (fun u hu j hj => ?_)
  have hoff (w : State) : w.offLadder = w.offMachine.offLadder := rfl
  rw [hoff, offMachine_enterLevel v u (hmem j hj), ← hoff]
  exact hu

/-! ### The rows -/

theorem exec_shedL1 (v : W24) (s : State) : exec (.shedL1 v) s = shed 1 v s := rfl
theorem exec_shedL2 (v : W24) (s : State) : exec (.shedL2 v) s = shed 2 v s := rfl
theorem exec_shedL3 (v : W24) (s : State) : exec (.shedL3 v) s = shed 3 v s := rfl
theorem exec_shedL4 (v : W24) (s : State) : exec (.shedL4 v) s = shed 4 v s := rfl
theorem exec_shedL5 (v : W24) (s : State) : exec (.shedL5 v) s = shed 5 v s := rfl
theorem exec_shedStepUp (v : W24) (s : State) : exec (.shedStepUp v) s = execShedStepUp v s := rfl
theorem exec_shedRecover (v : W24) (s : State) : exec (.shedRecover v) s = execShedRecover v s := rfl
theorem exec_vbusOver (v : W24) (s : State) : exec (.vbusOver v) s = execVbusOver v s := rfl
theorem exec_ovEnd (v : W24) (s : State) : exec (.ovEnd v) s = execOvEnd v s := rfl

section
variable {s : State} (v : W24) (hstart : s.started = true)
include hstart

/-- A fall of VBUS below a level's threshold: what holds after the entry into that level, from any state with the same ladder-free view. -/
theorem completes_shed {c : Instr} {k : Fin 6} {P : State → Prop} (hx : exec c s = shed k v s) (hlevel : s.sup.level < k)
    (hv : v.toNat < s.levelMv k.val)
    (hP : ∀ u : State, u.offLadder = (noteVbus v s).offLadder → P (sync (enterLevel v u k))) : completes c s P := by
  obtain ⟨u, hu, hoff⟩ := shedTo_enters v hlevel
  refine completes_of_doneIf hx (by simp [hstart, hlevel, hv]) ?_
  rw [hu]
  exact hP u hoff

/-- What every level from L1 to L4 leaves: itself, the measured VBUS, its latch bit, and the start as it was. -/
theorem entered_leaves {k : Fin 6} (hk : k ≠ 5) (hk0 : k ≠ 0) {u t : State} (hoff : u.offLadder = (noteVbus v s).offLadder)
    (ht : t.quiet = (enterLevel v u k).quiet) :
    t.sup.level = k ∧ t.sup.vbus = v ∧ t.sup.latch.getLsbD (k.val - 1) = true ∧ t.glb.cause = s.glb.cause ∧ t.glb.step = 7 := by
  have htm := (offMachine_of_quiet ht).trans (offMachine_enterLevel v u hk)
  have hvbus : u.sup.vbus = v := (congrArg (fun w : State => w.sup.vbus) hoff :)
  have hcause : u.glb.cause = s.glb.cause := (congrArg (fun w : State => w.glb.cause) hoff :)
  have hstep : u.glb.step = s.glb.step := (congrArg (fun w : State => w.glb.step) hoff :)
  have hseven : s.glb.step = 7 := Fin.ext (of_decide_eq_true hstart)
  have hlatch : t.sup.latch = (u.entered k).sup.latch := (congrArg (fun w : State => w.sup.latch) htm :)
  refine ⟨(congrArg (fun w : State => w.sup.level) htm :), (congrArg (fun w : State => w.sup.vbus) htm :).trans hvbus, ?_,
    (congrArg (fun w : State => w.glb.cause) htm :).trans hcause, ((congrArg (fun w : State => w.glb.step) htm :).trans hstep).trans hseven⟩
  have hrange : ∀ k : Fin 6, k ≠ 5 → k ≠ 0 → (1 ≤ k.val && k.val ≤ 4) = true := by decide
  rw [hlatch, State.entered, if_pos (hrange k hk hk0), getLsbD_setB _ _ _ _ (by have := k.isLt; omega), if_pos rfl]

theorem shedL1_enters (hlevel : s.sup.level.val < 1) (hv : v.toNat < s.levelMv 1) : completes (.shedL1 v) s (fun t =>
    t.sup.level = 1 ∧ t.sup.vbus = v ∧ t.sup.latch.getLsbD 0 = true ∧ t.glb.cause = s.glb.cause ∧ t.glb.step = 7) :=
  completes_shed v hstart (exec_shedL1 v s) hlevel hv fun _ hoff => entered_leaves v hstart (k := 1) (by decide) (by decide) hoff (quiet_sync _)

theorem shedL2_enters (hlevel : s.sup.level.val < 2) (hv : v.toNat < s.levelMv 2) : completes (.shedL2 v) s (fun t =>
    t.sup.level = 2 ∧ t.sup.vbus = v ∧ t.sup.latch.getLsbD 1 = true ∧
      t.fw.stage = none ∧ t.fw.stageNext = none ∧ ∀ a < 5, (t.axis a).stage = true → (t.axis a).hold = true) := by
  refine completes_shed v hstart (exec_shedL2 v s) hlevel hv fun u hoff => ?_
  obtain ⟨hl, hvbus, hlatch, -, -⟩ := entered_leaves v hstart (k := 2) (by decide) (by decide) hoff (quiet_sync _)
  have hq : (sync (enterLevel v u 2)).quiet = (actL2 (wake 3 (raise 0x0202 4 v 0 (u.entered 2)))).quiet := (quiet_sync _).trans (quiet_sendIrq _ _)
  have hacts := actL2_acts (wake 3 (raise 0x0202 4 v 0 (u.entered 2)))
  rw [← fw_of_quiet hq] at hacts
  simp only [← axis_of_quiet hq] at hacts
  exact ⟨hl, hvbus, hlatch, hacts⟩

theorem shedL3_enters (hlevel : s.sup.level.val < 3) (hv : v.toNat < s.levelMv 3) : completes (.shedL3 v) s (fun t =>
    t.sup.level = 3 ∧ t.sup.vbus = v ∧ t.sup.latch.getLsbD 2 = true ∧
      (∀ a < 5, (t.axis a).stage = false) ∧ t.safeNow = true ∧ (s.liftEn = true → t.lift.brake = false)) := by
  refine completes_shed v hstart (exec_shedL3 v s) hlevel hv fun u hoff => ?_
  obtain ⟨hl, hvbus, hlatch, -, -⟩ := entered_leaves v hstart (k := 3) (by decide) (by decide) hoff (quiet_sync _)
  have hq : (sync (enterLevel v u 3)).quiet = (actL3 v (wake 3 (u.entered 3))).quiet := (quiet_sync _).trans (quiet_sendIrq _ _)
  have hen : (wake 3 (u.entered 3)).liftEn = s.liftEn :=
    (congrArg State.liftEn (quiet_wake 3 (u.entered 3)) :).trans (congrArg State.liftEn hoff :)
  obtain ⟨hstages, hbrake⟩ := drivesOff_of_drives (drives_of_quiet hq) (actL3_drivesOff v (wake 3 (u.entered 3)))
  refine ⟨hl, hvbus, hlatch, hstages, ?_, fun h => hbrake (hen.trans h)⟩
  rw [State.safeNow, hl]; rfl

theorem shedL4_enters (hlevel : s.sup.level.val < 4) (hv : v.toNat < s.levelMv 4) : completes (.shedL4 v) s (fun t =>
    t.sup.level = 4 ∧ t.sup.vbus = v ∧ t.sup.latch.getLsbD 3 = true ∧ t.dmaOpen = false) := by
  refine completes_shed v hstart (exec_shedL4 v s) hlevel hv fun u hoff => ?_
  obtain ⟨hl, hvbus, hlatch, -, -⟩ := entered_leaves v hstart (k := 4) (by decide) (by decide) hoff (quiet_sync _)
  refine ⟨hl, hvbus, hlatch, ?_⟩
  have hclosed : ¬ (sync (enterLevel v u 4)).sup.level.val < 4 := by rw [hl]; decide
  simp [State.dmaOpen, hclosed]

end

/-- L5 is a full reset that is held, with its cause bit (R56, R91). -/
theorem enterL5_resets (v : W24) (u : State) {t : State} (ht : t.quiet = (enterLevel v u 5).quiet) :
    t.sup.level = 5 ∧ t.glb.held.getLsbD 1 = true ∧ t.glb.cause.getLsbD 5 = true ∧ t.glb.step = 0 ∧ ∀ i < 8, t.isl i = .off := by
  generalize hr : fullReset 1 0x20 false (u.entered 5) = r
  have hq : t.quiet = ({ r with sup.level := 5, glb.held := setB r.glb.held 1 true } : State).quiet := by
    subst hr
    exact ht.trans ((quiet_sendIrq _ _).trans ((quiet_wake _ _).trans (quiet_raise _ _ _ _ _)))
  have hheld : t.glb.held = setB r.glb.held 1 true := (congrArg (fun w : State => w.glb.held) hq :)
  have hcause : t.glb.cause = r.glb.cause := (congrArg (fun w : State => w.glb.cause) hq :)
  have hstep : t.glb.step = r.glb.step := (congrArg (fun w : State => w.glb.step) hq :)
  have hisl : t.glb.isl = r.glb.isl := (congrArg (fun w : State => w.glb.isl) hq :)
  subst hr
  refine ⟨(congrArg (fun w : State => w.sup.level) hq :), by rw [hheld]; exact getLsbD_setB _ 1 1 true (by decide), ?_, hstep,
    fun i _ => isl_of_allOff hisl i⟩
  rw [hcause, fullReset_cause, BitVec.getLsbD_or, show (0x20 : W24).getLsbD 5 = true by decide, Bool.or_true]

theorem shedL5_enters {s : State} (v : W24) (hstart : s.started = true) (hlevel : s.sup.level.val < 5) (hv : v.toNat < 18000) :
    completes (.shedL5 v) s (fun t => t.sup.level = 5 ∧ t.glb.held.getLsbD 1 = true ∧ t.glb.cause.getLsbD 5 = true ∧ t.glb.step = 0 ∧
      ∀ i < 8, t.isl i = .off) :=
  completes_shed v hstart (exec_shedL5 v s) hlevel hv fun u _ => enterL5_resets v u (quiet_sync _)

/-! ### Levels left, and over-voltage -/

theorem shedStepUp_steps {s : State} (v : W24) (hlevel : 2 ≤ s.sup.level.val) (hv : s.levelMv s.sup.level.val + 1000 ≤ v.toNat) (hcalm : s.calm) :
    completes (.shedStepUp v) s (fun t => t.sup.level.val + 1 = s.sup.level.val ∧ t.sup.vbus = v ∧
      (s.sup.level = 5 → t.glb.held.getLsbD 1 = false) ∧ t.sup.deepest = s.sup.deepest) := by
  refine completes_of_doneRIf (exec_shedStepUp v s) (by simp [hlevel, hv]) ?_
  dsimp only
  generalize hu : noteVbus v { s with
    sup.level := Fin.ofNat 6 (s.sup.level.val - 1), glb.held := if s.sup.level.val = 5 then setB s.glb.held 1 false else s.glb.held } = u
  have hsent : (sendIrq 3 (dmaBack u)).sansCpl = u.sansCpl := (sansCpl_of_quiet (quiet_sendIrq 3 _)).trans (sansCpl_dmaBack u)
  have hucalm : u.calm := by subst hu; exact hcalm
  obtain ⟨x, hx⟩ := quiet_sync_resume_calm (calm_of_sansCpl hsent hucalm)
  generalize sync _ = t at hx ⊢
  have hsup : t.sup = u.sup := (congrArg State.sup hx :).trans (congrArg State.sup hsent :)
  have hheld : t.glb.held = u.glb.held := (congrArg (fun w : State => w.glb.held) hx :).trans (congrArg (fun w : State => w.glb.held) hsent :)
  rw [hsup, hheld]
  subst hu
  refine ⟨?_, rfl, fun h5 => ?_, rfl⟩
  · show (s.sup.level.val - 1) % 6 + 1 = s.sup.level.val
    have := s.sup.level.isLt
    omega
  · show (if s.sup.level.val = 5 then setB s.glb.held 1 false else s.glb.held).getLsbD 1 = false
    rw [if_pos (by rw [h5]; rfl)]
    exact getLsbD_setB _ 1 1 false (by decide)

theorem shedRecover_recovers {s : State} (v : W24) (hstart : s.started = true) (hlevel : s.sup.level = 1) (hv : s.pn 0x0204 ≤ v.toNat) :
    completes (.shedRecover v) s (fun t => t.sup.level = 0 ∧ t.sup.deepest = 0 ∧ t.sup.vbus = v ∧ t.sup.recovering = false ∧ t.mot = s.mot) := by
  refine completes_of_doneIf_quiet (exec_shedRecover v s) (by simp [hstart, hlevel, hv])
    ((quiet_sendIrq 3 _).trans (quiet_raise _ _ _ _ _)) fun t hq => ?_
  exact ⟨(congrArg (fun w : State => w.sup.level) hq :), (congrArg (fun w : State => w.sup.deepest) hq :),
    (congrArg (fun w : State => w.sup.vbus) hq :), (congrArg (fun w : State => w.sup.recovering) hq :), (congrArg State.mot hq :)⟩

theorem vbusOver_begins {s : State} (v : W24) (hstart : s.started = true) (hov : s.sup.overV = false) (hv : s.pn 0x0205 < v.toNat) :
    completes (.vbusOver v) s (fun t => t.sup.overV = true ∧ t.sup.latch.getLsbD 4 = true ∧ 2 ≤ t.effLevel ∧ t.sup.level = s.sup.level) := by
  refine completes_of_doneIf (exec_vbusOver v s) (by simp [hstart, hov, hv]) ?_
  dsimp only
  generalize hu : noteVbus v { s with sup.overV := true, sup.latch := setB s.sup.latch 4 true } = u
  have hwake (w : State) : (wake 3 w).offMachine = w.offMachine := offMachine_of_quiet (quiet_wake 3 w)
  have hoff : (sync (sendIrq 3 (actL2 (actL1 (wake 3 (raise 0x0207 5 v 0 u)))))).offMachine = u.offMachine := by
    rw [offMachine_sync, offMachine_sendIrq, offMachine_actL2, offMachine_actL1, hwake, offMachine_raise]
  generalize sync _ = t at hoff ⊢
  have hsup : t.sup = u.sup := (congrArg State.sup hoff :)
  have hover : t.sup.overV = true := by rw [hsup]; subst hu; rfl
  refine ⟨hover, ?_, ?_, by rw [hsup]; subst hu; rfl⟩
  · rw [hsup]; subst hu
    exact getLsbD_setB _ 4 4 true (by decide)
  · rw [State.effLevel, if_pos hover]
    exact Nat.le_max_left _ _

theorem ovEnd_ends {s : State} (v : W24) (hov : s.sup.overV = true) (hv : v.toNat + 1000 < s.pn 0x0205) :
    completes (.ovEnd v) s (fun t => t.sup.overV = false ∧ t.sup.level = s.sup.level ∧ t.sup.vbus = v ∧ t.mot = s.mot) := by
  refine completes_of_doneIf_quiet (exec_ovEnd v s) (by simp [hov, hv]) (quiet_sendIrq 3 _) fun t hq => ?_
  exact ⟨(congrArg (fun w : State => w.sup.overV) hq :), (congrArg (fun w : State => w.sup.level) hq :),
    (congrArg (fun w : State => w.sup.vbus) hq :), (congrArg State.mot hq :)⟩

/-- Settles O33, row by row: a fall of VBUS ends with the entry into the level it reaches, whatever levels it crosses (R57). -/
theorem sheddingActs : Obligations.SheddingActs := by
  refine ⟨fun s v hstart => ⟨shedL1_enters v hstart, shedL2_enters v hstart, shedL3_enters v hstart, shedL4_enters v hstart,
    shedL5_enters v hstart⟩, fun s v hlevel hv hcalm => shedStepUp_steps v hlevel hv hcalm,
    fun s v hstart hlevel hv => shedRecover_recovers v hstart hlevel hv, fun s v hstart hov hv => vbusOver_begins v hstart hov hv,
    fun s v hov hv => ovEnd_ends v hov hv⟩

end Sys2Proof.Machine
end

section
/-! F24 and the Husk's supply, the auxiliary outputs, the thermistor, and the loss of VBUS (R52 to R55, R73, R99). -/

namespace Sys2Proof.Machine

/-! ### The rows -/

theorem exec_f24Low (mv : W24) (s : State) : exec (.f24Low mv) s = execF24Low mv s := rfl
theorem exec_f24Good (mv : W24) (s : State) : exec (.f24Good mv) s = execF24Good mv s := rfl
theorem exec_f24Uvlo (s : State) : exec .f24Uvlo s = execF24Uvlo s := rfl
theorem exec_huskResume (mv : W24) (s : State) : exec (.huskResume mv) s = execHuskResume mv s := rfl
theorem exec_aux5Overload (s : State) : exec .aux5Overload s = execAux5Overload s := rfl
theorem exec_aux3v3Overload (s : State) : exec .aux3v3Overload s = execAux3v3Overload s := rfl
theorem exec_auxRetry (is5 l : Bool) (s : State) : exec (.auxRetry is5 l) s = execAuxRetry is5 l s := rfl
theorem exec_ntcMeasure (r : Option Nat) (s : State) : exec (.ntcMeasure r) s = execNtcMeasure r s := rfl
theorem exec_vbusBelow9v (s : State) : exec .vbusBelow9v s = execVbusBelow9v s := rfl
theorem exec_vbusNotGood (s : State) : exec .vbusNotGood s = execVbusNotGood s := rfl

/-! ### F24 -/

theorem noteF24_of_fresh (mv : W24) {s : State} (h : s.awn.stale = false) : noteF24 mv s = { s with husk.f24 := mv, sup.f24 := mv } := by
  simp only [noteF24, h, Bool.false_eq_true, if_false]

theorem f24Low_moves {s : State} (mv : W24) (halive : s.husk.alive = true) (hears : s.awn.hears = true) (hfresh : s.awn.stale = false)
    (hst : s.sup.f24State = 0) (hmv : mv.toNat < s.pn 0x0210) : completesAs (.f24Low mv) s
      { s with sup.f24State := 1, sup.latch := setB s.sup.latch 5 true, husk.f24 := mv, sup.f24 := mv } := by
  refine completesAs_of_doneIf (exec_f24Low mv s) (by simp [halive, hears, hst, hmv]) ?_
  rw [quiet_raise, noteF24_of_fresh mv (by exact hfresh)]

theorem f24Good_moves {s : State} (mv : W24) (halive : s.husk.alive = true) (hears : s.awn.hears = true) (hfresh : s.awn.stale = false)
    (hst : s.sup.f24State = 1) (hmv : s.pn 0x0210 ≤ mv.toNat) : completesAs (.f24Good mv) s
      { s with sup.f24State := 0, husk.f24 := mv, sup.f24 := mv } := by
  refine completesAs_of_doneIf (exec_f24Good mv s) (by simp [halive, hears, hst, hmv]) ?_
  rw [quiet_raise, noteF24_of_fresh mv (by exact hfresh)]

/-- LINK no longer hears the Husk: its inputs are STALE, whether they were before or not (R52, R261). -/
theorem offMachine_unheard (s : State) : ∃ x, (unheard s).offMachine = ({ s with awn.stale := true, sup.f24 := x } : State).offMachine := by
  unfold unheard
  cases h : s.awn.stale with
  | true =>
    refine ⟨s.sup.f24, ?_⟩
    rw [goStale, if_pos (by exact h), ← h]; rfl
  | false => exact ⟨0xFFFFFF, (offMachine_goStale (by exact h)).trans rfl⟩

theorem f24Uvlo_stops {s : State} (halive : s.husk.alive = true) : completes .f24Uvlo s (fun t =>
    t.husk.alive = false ∧ t.husk.out = 0 ∧ t.husk.configured = false ∧ t.husk.news = [.restart 0] ∧ t.awn.hAir = none ∧
    (s.awn.hears = true → t.sup.f24State = 2 ∧ t.sup.latch = setB s.sup.latch 6 true ∧ t.awn.stale = true) ∧
    (s.awn.hears = false → t.sup = s.sup ∧ t.mot = s.mot)) := by
  refine completes_of_doneIf (exec_f24Uvlo s) halive ?_
  cases hears : s.awn.hears with
  | false =>
    have hq := quiet_sync (huskDown s)
    simp only [Bool.not_false, if_true]
    generalize sync _ = t at hq ⊢
    have hhusk : t.husk = (huskDown s).husk := (congrArg State.husk hq :)
    rw [hhusk]
    exact ⟨rfl, rfl, rfl, rfl, (congrArg (fun u : State => u.awn.hAir) hq :), (absurd · Bool.false_ne_true),
      fun _ => ⟨(congrArg State.sup hq :), (congrArg State.mot hq :)⟩⟩
  | true =>
    simp only [Bool.not_true, Bool.false_eq_true, if_false]
    generalize hd : huskDown { s with sup.f24State := 2, sup.latch := setB s.sup.latch 6 true } = d
    have hr : (raise 0x0211 5 0 0 d).offMachine = d.offMachine := offMachine_raise _ _ _ _ d
    generalize raise 0x0211 5 0 0 d = r at hr ⊢
    obtain ⟨x, hx⟩ := offMachine_unheard r
    have hoff := (offMachine_sync (unheard r)).trans hx
    generalize sync _ = t at hoff ⊢
    have hhusk : t.husk = d.husk := (congrArg State.husk hoff :).trans (congrArg State.husk hr :)
    have hair : t.awn.hAir = d.awn.hAir := (congrArg (fun u : State => u.awn.hAir) hoff :).trans (congrArg (fun u : State => u.awn.hAir) hr :)
    have hst : t.sup.f24State = d.sup.f24State :=
      (congrArg (fun u : State => u.sup.f24State) hoff :).trans (congrArg (fun u : State => u.sup.f24State) hr :)
    have hlatch : t.sup.latch = d.sup.latch :=
      (congrArg (fun u : State => u.sup.latch) hoff :).trans (congrArg (fun u : State => u.sup.latch) hr :)
    rw [hhusk, hair, hst, hlatch]
    subst hd
    exact ⟨rfl, rfl, rfl, rfl, rfl, fun _ => ⟨rfl, rfl, (congrArg (fun u : State => u.awn.stale) hoff :)⟩, (absurd · Bool.false_ne_true.symm)⟩

theorem huskResume_starts {s : State} (mv : W24) (hdown : s.husk.alive = false) (hmv : 19200 ≤ mv.toNat) : completesAs (.huskResume mv) s { s with
    husk := { alive := true, f24 := mv, temp := s.husk.temp, hot := s.husk.hot, news := s.husk.news, lastValid := s.now } } :=
  completesAs_of_doneIf (exec_huskResume mv s) (by simp [hdown, hmv]) rfl

/-! ### Auxiliary outputs -/

theorem log_postEvt (c : W16) (v : Nat) (q a b : W32) (u : Bool) (s : State) : (postEvt c v q a b u s).log = s.log := by
  simp only [postEvt, placeEvt, putEvt, irqMod, sendIrq, apply_ite State.log, ite_self]

/-- A record below severity 5 that the recorder takes at once is staged, and nothing is flushed (R437, R443). -/
theorem recorded_raise {code : W16} {sev : Nat} (w0 w1 : W24) {s : State} (h : s.records code sev) (hsev : sev < 5) :
    Recorded code sev w0 w1 s (raise code sev w0 w1 s) := by
  obtain ⟨hup, hroom, htoken⟩ := h
  obtain ⟨-, hhead, hstaged⟩ := stage_fresh code sev (raiser code.toNat) 0 w0 w1 0 0 s hup (by omega) htoken
  have hlog : (raiseCore code sev (raiser code.toNat) w0 w1 0 0 s).log = (stage code sev (raiser code.toNat) 0 w0 w1 0 0 s).2.log := by
    simp only [raiseCore, apply_ite State.log, log_postEvt, ite_self]
  have hkeep : raise code sev w0 w1 s = raiseCore code sev (raiser code.toNat) w0 w1 0 0 s := by
    have hshort : ¬ 32 ≤ (raiseCore code sev (raiser code.toNat) w0 w1 0 0 s).log.staged.length := by
      rw [hlog, hstaged, List.length_append, List.length_singleton]; omega
    rw [raise, raiseBy, flushOn, if_neg]
    simp only [Bool.or_eq_true, Bool.and_eq_true, decide_eq_true_eq, not_or]
    exact ⟨fun h => absurd h.1 (by omega), hshort⟩
  rw [Recorded, hkeep, hlog]
  exact ⟨hhead, hstaged⟩

theorem recorded_sync {code : W16} {sev : Nat} {w0 w1 : W24} {s t : State} (h : Recorded code sev w0 w1 s t) :
    Recorded code sev w0 w1 s (sync t) := by
  rw [Recorded, log_sync]; exact h

/-- An overload switches its output off, with one record for an episode (R55). -/
theorem overload_switchesOff {c : Instr} {code : W16} {logged : Bool} {s t : State} (hx : exec c s = done (if logged then t else raise code 4 0 0 t))
    (hrec : s.records code 4 → t.records code 4) (hlog : t.log = s.log) :
    completesAs c s t ∧ (logged = false → s.records code 4 → completes c s (Recorded code 4 0 0 s)) := by
  refine ⟨⟨_, hx, (quiet_sync _).trans (quiet_ite _ _ _ _ rfl (quiet_raise _ _ _ _ _))⟩, fun hnew h => ⟨_, hx, ?_⟩⟩
  have hstaged := recorded_sync (recorded_raise 0 0 (hrec h) (by decide))
  rw [hnew, Recorded, ← hlog]
  exact hstaged

theorem aux5Overload_switchesOff {s : State} (hon : s.sup.aux5On = true) :
    completesAs .aux5Overload s { s with sup.aux5On := false, sup.aux5Bad := true, sup.aux5Logged := true, sup.latch := setB s.sup.latch 7 true } ∧
    (s.sup.aux5Logged = false → s.records 0x0220 4 → completes .aux5Overload s (Recorded 0x0220 4 0 0 s)) :=
  overload_switchesOff (by rw [exec_aux5Overload, execAux5Overload, doneIf, if_pos hon]) id rfl

theorem aux3v3Overload_switchesOff {s : State} (hon : s.sup.aux3On = true) :
    completesAs .aux3v3Overload s { s with sup.aux3On := false, sup.aux3Bad := true, sup.aux3Logged := true, sup.latch := setB s.sup.latch 8 true } ∧
    (s.sup.aux3Logged = false → s.records 0x0221 4 → completes .aux3v3Overload s (Recorded 0x0221 4 0 0 s)) :=
  overload_switchesOff (by rw [exec_aux3v3Overload, execAux3v3Overload, doneIf, if_pos hon]) id rfl

theorem auxRetry_switchesOn (s : State) (l : Bool) :
    (s.sup.aux5On = false →
      completesAs (.auxRetry true l) s { s with sup.aux5On := true, sup.aux5Bad := l, sup.aux5Logged := s.sup.aux5Logged && l }) ∧
    (s.sup.aux3On = false →
      completesAs (.auxRetry false l) s { s with sup.aux3On := true, sup.aux3Bad := l, sup.aux3Logged := s.sup.aux3Logged && l }) :=
  ⟨fun h => completesAs_of_doneIf (exec_auxRetry true l s) (by simp [h]) rfl,
    fun h => completesAs_of_doneIf (exec_auxRetry false l s) (by simp [h]) rfl⟩

/-! ### The thermistor -/

theorem quiet_reportNtc (w : W24) (s : State) : (reportNtc w s).quiet = ({ s with sup.latch := setB s.sup.latch 11 true } : State).quiet := by
  simp only [reportNtc, apply_ite State.quiet, quiet_flush, quiet_raise, ite_self]

/-- NTC_OVER as a measured temperature `c` leaves it, with the warning at `w`, both in 0.1 °C: set above `w`, cleared 5 °C below (R73). -/
def ntcOverNow (was : Bool) (c w : Int) : Bool := if was then !decide (c ≤ w - 50) else decide (w < c)

theorem quiet_ntcNow (c w : Int) (u : State) :
    ∃ l, (if u.sup.ntcOver then (if c ≤ w - 50 then { u with sup.ntcOver := false } else u)
      else if w < c then reportNtc (w24i c) { u with sup.ntcOver := true } else u : State).quiet =
      ({ u with sup.ntcOver := ntcOverNow u.sup.ntcOver c w, sup.latch := l } : State).quiet := by
  have hsame {b : Bool} (hb : b = u.sup.ntcOver) : u.quiet = ({ u with sup.ntcOver := b, sup.latch := u.sup.latch } : State).quiet := by
    subst hb; rfl
  cases h : u.sup.ntcOver with
  | true =>
    simp only [if_true, ntcOverNow]
    split
    · next hc => exact ⟨u.sup.latch, by rw [decide_eq_true hc]; rfl⟩
    · next hc => exact ⟨u.sup.latch, hsame (by rw [decide_eq_false hc, h]; rfl)⟩
  | false =>
    simp only [Bool.false_eq_true, if_false, ntcOverNow]
    split
    · next hc => exact ⟨_, by rw [quiet_reportNtc, decide_eq_true hc]⟩
    · next hc => exact ⟨u.sup.latch, hsame (by rw [decide_eq_false hc, h])⟩

section
variable {s : State} (hkeep : s.isl 7 = .run)
include hkeep

theorem ntcMeasure_disabled (r : Option Nat) (hoff : s.pb 0x0218 = false) :
    completesAs (.ntcMeasure r) s { s with sup.tempNtc := 0x800000, sup.ntcOver := false, sup.ntcBadSent := false } := by
  refine completesAs_of_doneIf (exec_ntcMeasure r s) (decide_eq_true hkeep) ?_
  rw [if_pos (by rw [hoff]; rfl)]

theorem ntcMeasure_open (hon : s.pb 0x0218 = true) :
    completes (.ntcMeasure none) s (fun t => t.sup.tempNtc = 0x800000 ∧ t.sup.ntcBadSent = true ∧ t.sup.ntcOver = false) := by
  have hbad (u : State) (b : Bool) (w : W24) : ∃ l, (if b then u else reportNtc w u).quiet = ({ u with sup.latch := l } : State).quiet := by
    cases b with
    | true => exact ⟨u.sup.latch, rfl⟩
    | false => exact ⟨_, quiet_reportNtc w u⟩
  obtain ⟨l, hl⟩ := hbad { s with sup.tempNtc := 0x800000, sup.ntcOver := false, sup.ntcBadSent := true } s.sup.ntcBadSent 0xFFFFFF
  refine completes_of_doneIf_quiet (exec_ntcMeasure none s) (decide_eq_true hkeep)
    ((congrArg State.quiet (if_neg (by rw [hon]; exact Bool.false_ne_true))).trans hl) fun t hq => ?_
  exact ⟨(congrArg (fun u : State => u.sup.tempNtc) hq :), (congrArg (fun u : State => u.sup.ntcBadSent) hq :),
    (congrArg (fun u : State => u.sup.ntcOver) hq :)⟩

theorem ntcMeasure_measured {o : Nat} (hon : s.pb 0x0218 = true) (hlo : 20 ≤ o) (hhi : o ≤ 30000) :
    completes (.ntcMeasure (some o)) s (fun t =>
      t.sup.tempNtc = Config.ntcSixteenths o (s.pn 0x0219) (s.pn 0x021A) ∧ t.sup.ntcBadSent = false ∧
        t.sup.ntcOver = ntcOverNow s.sup.ntcOver (Config.ntcTenths o (s.pn 0x0219) (s.pn 0x021A)) (s.pz 0x021B)) := by
  obtain ⟨l, hl⟩ := quiet_ntcNow (Config.ntcTenths o (s.pn 0x0219) (s.pn 0x021A)) (s.pz 0x021B)
    { s with sup.tempNtc := Config.ntcSixteenths o (s.pn 0x0219) (s.pn 0x021A), sup.ntcBadSent := false }
  refine completes_of_doneIf_quiet (exec_ntcMeasure (some o) s) (decide_eq_true hkeep)
    (((congrArg State.quiet (if_neg (by rw [hon]; exact Bool.false_ne_true))).trans
      (congrArg State.quiet (if_neg (by simp [hlo, hhi])))).trans hl) fun t hq => ?_
  exact ⟨(congrArg (fun u : State => u.sup.tempNtc) hq :), (congrArg (fun u : State => u.sup.ntcBadSent) hq :),
    (congrArg (fun u : State => u.sup.ntcOver) hq :)⟩

end

/-! ### The loss of VBUS -/

theorem fullReset_held (at_ : Fin 5) (bits : W24) (thermal : Bool) (s : State) : (fullReset at_ bits thermal s).glb.held = s.glb.held := by
  obtain ⟨n, f, hcut⟩ := cutStage_eq s
  simp only [fullReset, hcut]

theorem vbusBelow9v_loses (s : State) : completes .vbusBelow9v s (fun t =>
    t.keep = {} ∧ (s.started = true → s.sup.level.val < 5 → t.sup.level = 5 ∧ t.glb.step = 0) ∧
    (s.started = false → t.glb = { s.glb with faultN := t.glb.faultN })) := by
  refine ⟨_, exec_vbusBelow9v s, ?_⟩
  generalize hr : (if s.started then shedTo 5 s.freeWord s.tick else s) = r
  have hkeep : (sync { r with keep := {} }).keep = {} := keep_sync_of_anew rfl
  have hq := quiet_sync { r with keep := {} }
  generalize sync _ = t at hkeep hq ⊢
  refine ⟨hkeep, fun hstart hlevel => ?_, fun hstart => ?_⟩
  · rw [if_pos hstart] at hr
    obtain ⟨u, hu, -⟩ := shedTo_enters (k := 5) s.freeWord (s := s.tick) hlevel
    obtain ⟨hl, -, -, hstep, -⟩ := enterL5_resets s.freeWord u (t := r) (by rw [← hr, hu])
    exact ⟨(congrArg (fun w : State => w.sup.level) hq :).trans hl, (congrArg (fun w : State => w.glb.step) hq :).trans hstep⟩
  · rw [if_neg (by rw [hstart]; exact Bool.false_ne_true)] at hr
    subst hr
    have hglb : ({ t.glb with faultN := true } : GlbSt) = { s.glb with faultN := true } := (congrArg State.glb hq :)
    exact (congrArg (fun g : GlbSt => { g with faultN := t.glb.faultN }) hglb :)

theorem vbusNotGood_restarts {s : State} (hlo : 2 ≤ s.glb.step.val) (hhi : s.glb.step.val < 7) (hheld : s.glb.held = 0#3) :
    completes .vbusNotGood s (fun t => t.glb.step = 0 ∧ t.glb.resetCount = s.glb.resetCount ∧ t.glb.cause = s.glb.cause ∧ t.glb.held = 0#3 ∧
      ∀ i < 8, t.isl i = .off) := by
  refine completes_of_doneIf (exec_vbusNotGood s) (by simp [hlo, hhi, hheld]) ?_
  dsimp only
  generalize hr : fullReset 1 0 false s = r
  have hq := quiet_sync { r with glb.resetCount := s.glb.resetCount }
  generalize sync _ = t at hq ⊢
  have hstep : t.glb.step = r.glb.step := (congrArg (fun w : State => w.glb.step) hq :)
  have hcause : t.glb.cause = r.glb.cause := (congrArg (fun w : State => w.glb.cause) hq :)
  have hheldr : t.glb.held = r.glb.held := (congrArg (fun w : State => w.glb.held) hq :)
  have hisl : t.glb.isl = r.glb.isl := (congrArg (fun w : State => w.glb.isl) hq :)
  subst hr
  refine ⟨hstep, (congrArg (fun w : State => w.glb.resetCount) hq :), ?_, ?_, fun i _ => isl_of_allOff hisl i⟩
  · rw [hcause, fullReset_cause]; exact BitVec.or_zero
  · rw [hheldr, fullReset_held, hheld]

/-- Settles O34, row by row; what NTC_OVER becomes is `ntcOverNow`. -/
theorem supplyEventsComplete : Obligations.SupplyEventsComplete := by
  refine ⟨fun s mv halive hears hfresh hst hmv => f24Low_moves mv halive hears hfresh hst hmv,
    fun s mv halive hears hfresh hst hmv => f24Good_moves mv halive hears hfresh hst hmv, fun s halive => f24Uvlo_stops halive,
    fun s mv hdown hmv => huskResume_starts mv hdown hmv, fun s hon => aux5Overload_switchesOff hon, fun s hon => aux3v3Overload_switchesOff hon,
    auxRetry_switchesOn, fun s r hkeep => ⟨ntcMeasure_disabled hkeep r, fun hon hr => ?_, fun o hon hr hlo hhi => ?_⟩, vbusBelow9v_loses,
    fun s hlo hhi hheld => vbusNotGood_restarts hlo hhi hheld⟩
  · subst hr; exact ntcMeasure_open hkeep hon
  · subst hr
    obtain ⟨t, ht, htemp, hsent, hover⟩ := ntcMeasure_measured hkeep hon hlo hhi
    refine ⟨t, ht, htemp, hsent, fun h => ?_, fun h => ?_⟩
    · rw [hover, h]; exact decide_eq_true_iff
    · rw [hover, h, ntcOverNow, if_pos rfl, Bool.not_eq_false', decide_eq_true_iff]

end Sys2Proof.Machine
end

section
/-! Prewarn, shutdown and restart of the three dies (R68, R69, R70, R91, R93, Tables 3-5 and 4-2). -/

namespace Sys2Proof.Machine

/-! ### The rows -/

theorem exec_tempPrewarn (die : Die) (w : W24) (s : State) : exec (.tempPrewarn die w) s = execTempPrewarn die w s := rfl
theorem exec_prewarnEnd (die : Die) (w : W24) (s : State) : exec (.prewarnEnd die w) s = execPrewarnEnd die w s := rfl

/-! ### Prewarn -/

theorem quiet_beginPrewarn (die : Die) (w : W24) (s : State) : (beginPrewarn die w s).quiet =
    (noteTemp die w { s with sup.prewarn := setB s.sup.prewarn (dieNum die) true, sup.latch := setB s.sup.latch 9 true }).quiet :=
  (quiet_flush _).trans (quiet_raise _ _ _ _ _)

theorem tempPrewarn_begins {s : State} {die : Die} {w : W24} (hdie : die ≠ .husk) (hw : 2160 ≤ w.int)
    (hnew : s.sup.prewarn.getLsbD (dieNum die) = false) : completesAs (.tempPrewarn die w) s
      (noteTemp die w { s with sup.prewarn := setB s.sup.prewarn (dieNum die) true, sup.latch := setB s.sup.latch 9 true }) := by
  have hp : (2160 ≤ w.int && !s.sup.prewarn.getLsbD (dieNum die)) = true := by rw [hnew, decide_eq_true hw]; rfl
  cases die with
  | grain => exact completesAs_of_doneIf (exec_tempPrewarn .grain w s) hp (quiet_beginPrewarn .grain w s)
  | spindle => exact completesAs_of_doneIf (exec_tempPrewarn .spindle w s) hp (quiet_beginPrewarn .spindle w s)
  | husk => exact absurd rfl hdie

theorem prewarnEnd_clears {s : State} {die : Die} {w : W24} (hdie : die ≠ .husk) (hw : w.int < 2080)
    (hon : s.sup.prewarn.getLsbD (dieNum die) = true) : completesAs (.prewarnEnd die w) s
      (noteTemp die w { s with sup.prewarn := setB s.sup.prewarn (dieNum die) false }) := by
  have hp : (w.int < 2080 && s.sup.prewarn.getLsbD (dieNum die)) = true := by rw [hon, decide_eq_true hw]; rfl
  cases die with
  | grain => exact completesAs_of_doneIf (exec_prewarnEnd .grain w s) hp rfl
  | spindle => exact completesAs_of_doneIf (exec_prewarnEnd .spindle w s) hp rfl
  | husk => exact absurd rfl hdie

theorem exec_tempPrewarn_husk (w : W24) (s : State) :
    exec (.tempPrewarn .husk w) s = doneIf (s.husk.alive && 2160 ≤ w.int) (fun s => { s with husk.temp := w }) s := rfl

theorem exec_prewarnEnd_husk (w : W24) (s : State) :
    exec (.prewarnEnd .husk w) s = doneIf (s.husk.alive && w.int < 2080) (fun s => { s with husk.temp := w }) s := rfl

theorem huskPrewarn_shows {s : State} (w : W24) (halive : s.husk.alive = true) :
    (2160 ≤ w.int → completesAs (.tempPrewarn .husk w) s { s with husk.temp := w }) ∧
    (w.int < 2080 → completesAs (.prewarnEnd .husk w) s { s with husk.temp := w }) :=
  ⟨fun hw => completesAs_of_doneIf (exec_tempPrewarn_husk w s) (by rw [halive, decide_eq_true hw]; rfl) rfl,
    fun hw => completesAs_of_doneIf (exec_prewarnEnd_husk w s) (by rw [halive, decide_eq_true hw]; rfl) rfl⟩

/-! ### The guard's trip and stop -/

theorem grd_of_quiet {s t : State} (h : t.quiet = s.quiet) : t.grd = s.grd := (congrArg State.grd h :)

theorem husk_of_quiet {s t : State} (h : t.quiet = s.quiet) : t.husk = s.husk := (congrArg State.husk h :)
theorem awn_of_quiet {s t : State} (h : t.quiet = s.quiet) : t.awn = s.awn := (congrArg State.awn h :)
theorem sup_of_quiet {s t : State} (h : t.quiet = s.quiet) : t.sup = s.sup := (congrArg State.sup h :)
theorem lines_of_quiet {s t : State} (h : t.quiet = s.quiet) : t.mot.lines = s.mot.lines := (congrArg (fun u : State => u.mot.lines) h :)

/-- The stage-enable lines go inactive with the entry into TRIP (R323). -/
theorem lines_enterGuard_trip (c : Nat) (s : State) : (enterGuard .trip c s).mot.lines = false := by
  simp only [enterGuard]
  generalize hu : ({ s with grd.st := .trip, grd.cause := _, glb.guardSeen := _ } : State) = u
  have hst : (raise 0x3801 4 (w24 GuardState.trip.code) (w24 c) u).grd.st = .trip := by
    rw [grd_of_quiet (quiet_raise _ _ _ _ u), ← hu]
  generalize raise 0x3801 4 _ (w24 c) u = r at hst
  have hlines : (setLines r).mot.lines = false := by simp [setLines, State.linesNow, hst]
  generalize setLines r = v at hlines ⊢
  refine (lines_of_quiet (s := v) ?_).trans hlines
  simp only [apply_ite State.quiet, quiet_attention, quiet_wake, quiet_sendIrq, ite_self]

theorem quiet_enterGuard_trip {c : Nat} (hc : c ≠ 0) (s : State) : (enterGuard .trip c s).quiet = ({ s with
    grd.st := .trip, grd.cause := Fin.ofNat 32 c, mot.lines := false } : State).quiet := by
  have hlines := lines_enterGuard_trip c s
  obtain ⟨l, hq⟩ := quiet_enterGuard .trip c s
  rw [if_neg hc, show (s.glb.guardSeen || GuardState.trip.grants) = s.glb.guardSeen from Bool.or_false _] at hq
  generalize enterGuard .trip c s = t at hlines hq ⊢
  rw [lines_of_quiet hq] at hlines
  rw [hq, show l = false from hlines]

/-- A trip from a state other than TRIP (R328, Table 10-1). -/
theorem offMachine_guardTrip {c : Nat} (hc : c ≠ 0) {s : State} (h : s.grd.st ≠ .trip) : (guardTrip c s).offMachine = ({ s with
    grd.st := .trip, grd.cause := Fin.ofNat 32 c, mot.lines := false } : State).offMachine := by
  rw [guardTrip, if_neg h, offMachine_tripMachine, offMachine_of_quiet (quiet_enterGuard_trip hc s)]

/-- A stop from RUN or RESTRICT (R328, Table 10-1). -/
theorem offMachine_guardStop {c : Nat} (hc : c ≠ 0) {s : State} (h : s.grd.st.grants = true) : ∃ l, (guardStop c s).offMachine = ({ s with
    grd.st := .safeStop, grd.cause := Fin.ofNat 32 c, mot.lines := l } : State).offMachine := by
  obtain ⟨l, hq⟩ := quiet_enterGuard .safeStop c s
  refine ⟨l, ?_⟩
  rw [guardStop, if_pos h, offMachine_stopMachine, offMachine_of_quiet hq, if_neg hc,
    show (s.glb.guardSeen || GuardState.safeStop.grants) = s.glb.guardSeen from Bool.or_false _]

/-! ### Shutdown of the Spindle and the Husk die -/

/-- A trip, also from TRIP, apart from what it does to the machine. -/
theorem guardTrip_trips {c : Nat} (hc : c ≠ 0) (s : State) : (guardTrip c s).sup = s.sup ∧ (guardTrip c s).grd.st = .trip ∧
    (guardTrip c s).grd.cause = Fin.ofNat 32 c ∧ (s.grd.st ≠ .trip → (guardTrip c s).mot.lines = false) := by
  by_cases h : s.grd.st = .trip
  · rw [guardTrip, if_pos h]
    exact ⟨rfl, h, rfl, (absurd h ·)⟩
  · have hoff := offMachine_guardTrip hc h
    generalize guardTrip c s = t at hoff ⊢
    exact ⟨(congrArg State.sup hoff :), (congrArg (fun u : State => u.grd.st) hoff :), (congrArg (fun u : State => u.grd.cause) hoff :),
      fun _ => (congrArg (fun u : State => u.mot.lines) hoff :)⟩

theorem exec_tempShutdown_spindle (w : W24) (s : State) : exec (.tempShutdown .spindle w) s = doneIf (2480 ≤ w.int && !s.sup.shutdown.getLsbD 1)
    (fun s => raise 0x0231 6 1 w (if s.guardUp then guardTrip 7 (shutDie .spindle w s) else shutDie .spindle w s)) s := rfl

theorem tempShutdown_spindle {s : State} {w : W24} (hw : 2480 ≤ w.int) (hnew : s.sup.shutdown.getLsbD 1 = false) (hup : s.guardUp = true) :
    completes (.tempShutdown .spindle w) s (fun t => t.sup.shutdown.getLsbD 1 = true ∧ t.grd.st = .trip ∧ t.grd.cause = 7 ∧
      (s.grd.st ≠ .trip → t.mot.lines = false)) := by
  have hshut : (shutDie .spindle w s).sup.shutdown.getLsbD 1 = true := getLsbD_setB _ 1 1 true (by decide)
  obtain ⟨hsup, hst, hcause, hlines⟩ := guardTrip_trips (c := 7) (by decide) (shutDie .spindle w s)
  refine completes_of_doneIf_quiet (u := guardTrip 7 (shutDie .spindle w s)) (exec_tempShutdown_spindle w s) (by rw [hnew, decide_eq_true hw]; rfl)
    (by rw [quiet_raise, if_pos hup]) fun t hq => ?_
  rw [sup_of_quiet hq, grd_of_quiet hq, lines_of_quiet hq, hsup]
  exact ⟨hshut, hst, hcause, hlines⟩

/-- A bank's switch settled changes the switch alone. -/
theorem settleBank_eq (b : Fin 2) (s : State) :
    ∃ on rising closing, settleBank b s = { s with husk.bankOn := on, husk.rising := rising, husk.closing := closing } := by
  unfold settleBank
  dsimp only
  split
  · split
    · exact ⟨_, _, _, rfl⟩
    · split <;> exact ⟨_, _, _, rfl⟩
  · exact ⟨_, _, _, rfl⟩

theorem settleBanks_eq (s : State) :
    ∃ on rising closing, settleBanks s = { s with husk.bankOn := on, husk.rising := rising, husk.closing := closing } := by
  obtain ⟨_, _, _, h0⟩ := settleBank_eq 0 s
  obtain ⟨_, _, _, h1⟩ := settleBank_eq 1 (settleBank 0 s)
  exact ⟨_, _, _, by rw [settleBanks, h1, h0]⟩

theorem outOff_eq (m : BitVec 24) (s : State) : ∃ clamping riseFor waiting on rising closing, outOff m s = { s with
    husk.out := s.husk.out &&& ~~~ m, husk.clamping := clamping, husk.riseFor := riseFor, husk.waiting := waiting
    husk.bankOn := on, husk.rising := rising, husk.closing := closing } := by
  obtain ⟨_, _, _, h⟩ := settleBanks_eq ({ s with
    husk.out := s.husk.out &&& ~~~ m
    husk.clamping := s.husk.clamping ||| (s.husk.out &&& m &&& 0xFF0000)
    husk.riseFor := s.husk.riseFor &&& ~~~ m
    husk.waiting := s.husk.waiting.filter (fun k => !m.getLsbD k.val) } : State)
  exact ⟨_, _, _, _, _, _, h⟩

theorem exec_tempShutdown_husk (w : W24) (s : State) : exec (.tempShutdown .husk w) s = doneIf (s.husk.alive && 2480 ≤ w.int && !s.husk.hot)
    (fun s => outOff (BitVec.allOnes 24) { s with husk.hot := true, husk.temp := w }) s := rfl

theorem tempShutdown_husk {s : State} {w : W24} (halive : s.husk.alive = true) (hw : 2480 ≤ w.int) (hnew : s.husk.hot = false) :
    completes (.tempShutdown .husk w) s (fun t => t.husk.hot = true ∧ t.husk.out = 0 ∧ t.husk.temp = w ∧ t.awn = s.awn ∧ t.sup = s.sup) := by
  refine completes_of_doneIf_quiet (exec_tempShutdown_husk w s) (by rw [halive, hnew, decide_eq_true hw]; rfl) rfl fun t hq => ?_
  obtain ⟨_, _, _, _, _, _, hoff⟩ := outOff_eq (BitVec.allOnes 24) { s with husk.hot := true, husk.temp := w }
  rw [husk_of_quiet hq, awn_of_quiet hq, sup_of_quiet hq, hoff]
  exact ⟨rfl, by simp, rfl, rfl, rfl⟩

end Sys2Proof.Machine
end

section
/-! The Grain die's shutdown and the restarts (R69, R70, R91, R93). -/

namespace Sys2Proof.Machine

/-! ### The shutdown of the Grain die -/

theorem flush_of_logDown {s : State} (h : s.logUp = false) : flush s = s := by
  rw [flush, flushBad, if_pos (by rw [h]; rfl)]

/-- With LOG not in RUN a report leaves the wake causes as they are: nothing is flushed, so no wake reports a lost record. -/
theorem cause_raise_of_logDown (c : W16) (v : Nat) (a b : W24) {s : State} (h : s.isl 5 ≠ .run) : (raise c v a b s).keep.cause = s.keep.cause := by
  have hdown (u : State) (hq : u.quiet = s.quiet) : u.logUp = false := by
    rw [State.logUp, isl_of_quiet hq, decide_eq_false h]
  have hcore : (raiseCore c v (raiser c.toNat) a b 0 0 s).keep.cause = s.keep.cause := by
    simp only [raiseCore, stage, hdown s rfl, unstaged, apply_ite State.keep, apply_ite KeepSt.cause, keep_postEvt, Bool.not_false, if_true, ite_self]
  have hlow := hdown _ (quiet_raiseCore c v (raiser c.toNat) a b 0 0 s)
  rw [raise, raiseBy]
  generalize raiseCore c v (raiser c.toNat) a b 0 0 s = u at hcore hlow
  rw [flushOn, flush_of_logDown hlow, ite_self, hcore]

theorem fullReset_keep (at_ : Fin 5) (bits : W24) (thermal : Bool) (s : State) :
    (fullReset at_ bits thermal s).keep = s.keep.held s.log.staged.length thermal := by
  obtain ⟨n, f, hcut⟩ := cutStage_eq s
  simp only [fullReset, hcut]

/-- The full reset of a Grain shutdown, before its records (R69, R91). -/
def State.grainHeld (w : W24) (s : State) : State :=
  let u := fullReset 4 0x50 true { s with keep.cause := setB s.keep.cause 0 true, keep.since := setB s.keep.since 0 true }
  noteTemp .grain w ({ u with glb.held := setB u.glb.held 2 true }.setIsl 7 .run)

theorem isl_grainHeld (w : W24) (s : State) {i : Nat} : (s.grainHeld w).isl i = if i = 7 then .run else .off := by
  refine (isl_setIsl _ (by decide) .run i).trans ?_
  rw [isl_of_allOff (by rfl)]

theorem exec_tempShutdown_grain (w : W24) (s : State) :
    exec (.tempShutdown .grain w) s = doneIf (2480 ≤ w.int && !s.glb.held.getLsbD 2) (grainShutdown w) s := rfl

theorem grainShutdown_eq (w : W24) (s : State) : ∃ v x y, grainShutdown w s =
    raise 0x0231 6 0 w (raise 0x030B v x y (raise 0x3801 4 3 10 (s.grainHeld w))) := ⟨_, _, _, rfl⟩

theorem cause_grainShutdown (w : W24) (s : State) : (grainShutdown w s).keep.cause = setB s.keep.cause 0 true := by
  obtain ⟨v, x, y, h⟩ := grainShutdown_eq w s
  have hcause : (s.grainHeld w).keep.cause = setB s.keep.cause 0 true := congrArg KeepSt.cause (fullReset_keep 4 0x50 true _)
  have hlog : (s.grainHeld w).isl 5 ≠ .run := by rw [isl_grainHeld]; decide
  rw [h]
  generalize s.grainHeld w = u at hcause hlog
  have hdown {t : State} (hq : t.quiet = u.quiet) : t.isl 5 ≠ .run := by rw [isl_of_quiet hq]; exact hlog
  rw [cause_raise_of_logDown _ _ _ _ (hdown ((quiet_raise _ _ _ _ _).trans (quiet_raise _ _ _ _ _))),
    cause_raise_of_logDown _ _ _ _ (hdown (quiet_raise _ _ _ _ _)), cause_raise_of_logDown _ _ _ _ hlog, hcause]

theorem quiet_grainShutdown (w : W24) (s : State) : (grainShutdown w s).quiet = (s.grainHeld w).quiet := by
  obtain ⟨v, x, y, h⟩ := grainShutdown_eq w s
  rw [h, quiet_raise, quiet_raise, quiet_raise]

theorem grainHeld_held (w : W24) (s : State) : (s.grainHeld w).glb.held.getLsbD 2 = true := getLsbD_setB _ 2 2 true (by decide)
theorem grainHeld_cause (w : W24) (s : State) : (s.grainHeld w).glb.cause = s.glb.cause ||| 0x50 := fullReset_cause 4 0x50 true _
theorem grainHeld_prm (w : W24) (s : State) : (s.grainHeld w).prm = s.prm.kept := fullReset_prm 4 0x50 true _
theorem grainHeld_jrn (w : W24) (s : State) : (s.grainHeld w).jrn = s.jrn := fullReset_jrn 4 0x50 true _
theorem grainHeld_lostThermal (w : W24) (s : State) : (s.grainHeld w).keep.lostThermal = true := congrArg KeepSt.lostThermal (fullReset_keep 4 0x50 true _)

/-- What the shutdown of the Grain die leaves, but the wake cause. -/
theorem grainHeld_leaves (w : W24) (s t : State) (hq : t.quiet = (s.grainHeld w).quiet) : t.glb.held.getLsbD 2 = true ∧ t.glb.step = 0 ∧
    t.glb.cause = s.glb.cause ||| 0x50 ∧ vget t.sup.temp 0 0 = w ∧ t.keep.lostThermal = true ∧ t.isl 7 = .run ∧ (∀ i < 7, t.isl i = .off) ∧
    t.prm.bankA = s.prm.bankA ∧ t.jrn = s.jrn := by
  have hisl (i : Nat) := (isl_of_quiet hq i).trans (isl_grainHeld w s)
  have hstep : (s.grainHeld w).glb.step = 0 := rfl
  have htemp : vget (s.grainHeld w).sup.temp 0 0 = w := rfl
  have hheld := grainHeld_held w s
  have hcause := grainHeld_cause w s
  have hprm := grainHeld_prm w s
  have hjrn := grainHeld_jrn w s
  have hlost := grainHeld_lostThermal w s
  generalize s.grainHeld w = u at *
  refine ⟨?_, ?_, ?_, ?_, ?_, (hisl 7).trans (if_pos rfl), fun i hi => (hisl i).trans (if_neg (by omega)), ?_, ?_⟩
  · exact (congrArg (fun v : State => v.glb.held.getLsbD 2) hq :).trans hheld
  · exact (congrArg (fun v : State => v.glb.step) hq :).trans hstep
  · exact (congrArg (fun v : State => v.glb.cause) hq :).trans hcause
  · exact (congrArg (fun v : State => vget v.sup.temp 0 0) hq :).trans htemp
  · exact (congrArg (fun v : State => v.keep.lostThermal) hq :).trans hlost
  · exact (congrArg (fun v : State => v.prm.bankA) hq :).trans (by rw [show u.quiet.prm = u.prm from rfl, hprm]; rfl)
  · exact (congrArg State.jrn hq :).trans hjrn

theorem tempShutdown_grain {s : State} {w : W24} (hw : 2480 ≤ w.int) (hnew : s.glb.held.getLsbD 2 = false) :
    completes (.tempShutdown .grain w) s (fun t => t.glb.held.getLsbD 2 = true ∧ t.glb.step = 0 ∧ t.glb.cause = s.glb.cause ||| 0x50 ∧
      vget t.sup.temp 0 0 = w ∧ t.keep.lostThermal = true ∧ t.isl 7 = .run ∧ (∀ i < 7, t.isl i = .off) ∧ t.prm.bankA = s.prm.bankA ∧
      t.jrn = s.jrn ∧ t.keep.cause.getLsbD 0 = true) := by
  refine completes_of_doneIf (exec_tempShutdown_grain w s) (by rw [hnew, decide_eq_true hw]; rfl) ?_
  have hkeep : (sync (grainShutdown w s)).keep.cause.getLsbD 0 = true := by
    rw [keep_sync, cause_grainShutdown]; exact getLsbD_setB _ 0 0 true (by decide)
  obtain ⟨hheld, hstep, hcause, htemp, hlost, hkept, hoff, hbank, hjrn⟩ :=
    grainHeld_leaves w s _ ((quiet_sync _).trans (quiet_grainShutdown w s))
  exact ⟨hheld, hstep, hcause, htemp, hlost, hkept, hoff, hbank, hjrn, hkeep⟩

/-! ### The restarts -/

theorem exec_tempRestart_grain (w : W24) (s : State) :
    exec (.tempRestart .grain w) s = doneIf (w.int < 2080 && s.glb.held.getLsbD 2) (grainRestart w) s := rfl

theorem exec_tempRestart_spindle (w : W24) (s : State) : exec (.tempRestart .spindle w) s = doneIf (w.int < 2080 && s.sup.shutdown.getLsbD 1)
    (fun s => raise 0x0232 3 1 w (noteTemp .spindle w { s with sup.shutdown := setB s.sup.shutdown 1 false })) s := rfl

theorem exec_tempRestart_husk (w : W24) (s : State) :
    exec (.tempRestart .husk w) s = doneIf (w.int < 2080 && s.husk.hot) (fun s => { s with husk.hot := false, husk.temp := w }) s := rfl

theorem tempRestart_spindle {s : State} {w : W24} (hw : w.int < 2080) (hhot : s.sup.shutdown.getLsbD 1 = true) :
    completesAs (.tempRestart .spindle w) s (noteTemp .spindle w { s with sup.shutdown := setB s.sup.shutdown 1 false }) :=
  completesAs_of_doneIf (exec_tempRestart_spindle w s) (by rw [hhot, decide_eq_true hw]; rfl) (quiet_raise _ _ _ _ _)

theorem tempRestart_husk {s : State} {w : W24} (hw : w.int < 2080) (hhot : s.husk.hot = true) :
    completesAs (.tempRestart .husk w) s { s with husk.hot := false, husk.temp := w } :=
  completesAs_of_doneIf (exec_tempRestart_husk w s) (by rw [hhot, decide_eq_true hw]; rfl) rfl

theorem resumeAt_of_quiet {s t : State} (h : t.quiet = s.quiet) : t.glb.resumeAt = s.glb.resumeAt := (congrArg (fun u : State => u.glb.resumeAt) h :)

/-- The state that the end of a Grain shutdown leaves with nothing else holding the reset. -/
def State.grainCool (w : W24) (s : State) : State := noteTemp .grain w { s with glb.held := setB s.glb.held 2 false }

/-- With the Grain shutdown alone holding the reset its end lets the start go on, at step 4 where no reset asks for an earlier step (R91). -/
theorem startView_grainRestart (w : W24) {s : State} (hheld : s.glb.held = 4#3) : (grainRestart w s).startView =
    if s.glb.resumeAt = 4 then { s.startView with held := 0#3, startAt := s.now }.linked else { s.startView with held := 0#3 } := by
  have hcool : (s.grainCool w).startView = { s.startView with held := 0#3 } := by
    have hfree : setB s.glb.held 2 false = 0#3 := by rw [hheld]; decide
    rw [← hfree]; rfl
  have hres : (s.grainCool w).glb.resumeAt = s.glb.resumeAt := rfl
  rw [grainRestart, show noteTemp .grain w { s with glb.held := setB s.glb.held 2 false } = s.grainCool w from rfl]
  have hview := startView_raise 0x0232 3 0 w (s.grainCool w)
  have hat := resumeAt_of_quiet (quiet_raise 0x0232 3 0 w (s.grainCool w))
  rw [hcool] at hview
  rw [hres] at hat
  generalize raise 0x0232 3 0 w (s.grainCool w) = u at hview hat ⊢
  have hu : u.glb.held = 0#3 := congrArg StartView.held hview
  by_cases h4 : s.glb.resumeAt = 4
  · rw [if_pos (by rw [hu, hat, h4]; rfl), if_pos h4, startView_startFrom4]
    exact congrArg StartView.linked (congrArg (fun v : StartView => { v with startAt := s.now }) hview :)
  · rw [if_neg (by rw [hu, hat, decide_eq_false h4]; decide), if_neg h4]
    exact hview

theorem tempRestart_grain {s : State} {w : W24} (hw : w.int < 2080) (hheld : s.glb.held = 4#3) :
    completes (.tempRestart .grain w) s (fun t => t.glb.held = 0#3 ∧ t.glb.twAdr = s.glb.twAdr ∧ t.glb.bootSel = s.glb.bootSel ∧
      (s.glb.resumeAt = 4 → t.glb.step = 5 ∧ t.isl 4 = .run ∧ t.isl 5 = .run ∧ t.isl 6 = .run ∧ t.isl 7 = .run) ∧
      (s.glb.resumeAt ≠ 4 → t.glb.step = s.glb.step)) := by
  refine completes_of_doneIf (exec_tempRestart_grain w s) (by rw [hheld, decide_eq_true hw]; rfl) ?_
  have hv := (startView_sync _).trans (startView_grainRestart w hheld)
  generalize sync _ = t at hv ⊢
  by_cases hat : s.glb.resumeAt = 4
  · rw [if_pos hat] at hv
    exact ⟨(congrArg StartView.held hv :), (congrArg StartView.twAdr hv :), (congrArg StartView.bootSel hv :),
      fun _ => ⟨(congrArg StartView.step hv :), (congrArg StartView.guard hv :), (congrArg StartView.log hv :), (congrArg StartView.link hv :),
        (congrArg StartView.keep hv :)⟩, (absurd hat ·)⟩
  · rw [if_neg hat] at hv
    exact ⟨(congrArg StartView.held hv :), (congrArg StartView.twAdr hv :), (congrArg StartView.bootSel hv :), (absurd · hat),
      fun _ => (congrArg StartView.step hv :)⟩

end Sys2Proof.Machine
end

section
/-! The Husk's shutdown as LINK learns of it: with an H-frame that reports it (R69, R253, Table 3-5). -/

namespace Sys2Proof.Machine

/-! ### What a frame shows of the Husk's heat -/

/-- What decides on the Husk's shutdown, and what tells that no descriptor waits: the temperatures and the shutdown bits, the Husk's report,
the guard, the step of the start, and HOST's requests. -/
structure HeatView where
  shutdown : BitVec 3
  temp : Vector W24 3
  huskHot : Bool
  guardSt : GuardState
  guardCause : Fin 32
  guard : IslState
  step : Fin 8
  backlog : List (Byte × Desc)
  d3Due : Bool
  pmeDue : Bool
  stopping : Bool

def State.heatView (s : State) : HeatView where
  shutdown := s.sup.shutdown
  temp := s.sup.temp
  huskHot := s.awn.huskHot
  guardSt := s.grd.st
  guardCause := s.grd.cause
  guard := s.isl 4
  step := s.glb.step
  backlog := s.ring.backlog
  d3Due := s.host.d3Due
  pmeDue := s.host.pmeDue
  stopping := s.host.stopping

theorem heatView_of_offMachine {s t : State} (h : t.offMachine = s.offMachine) : t.heatView = s.heatView := (congrArg State.heatView h :)

theorem heatView_of_quiet {s t : State} (h : t.quiet = s.quiet) : t.heatView = s.heatView := (congrArg State.heatView h :)

@[simp] theorem heatView_raise (c : W16) (v : Nat) (a b : W24) (s : State) : (raise c v a b s).heatView = s.heatView :=
  heatView_of_offMachine (offMachine_raise c v a b s)

@[simp] theorem heatView_failClear (s : State) : (failClear s).heatView = s.heatView := heatView_of_offMachine (offMachine_failClear s)

@[simp] theorem heatView_limitScan (s : State) : (limitScan s).heatView = s.heatView := heatView_of_offMachine (offMachine_limitScan s)

@[simp] theorem heatView_latchScan (old : BitVec 16) (s : State) : (latchScan old s).heatView = s.heatView :=
  heatView_of_offMachine (offMachine_latchScan old s)

@[simp] theorem heatView_adoptDrivers (s : State) : (adoptDrivers s).heatView = s.heatView := rfl

@[simp] theorem heatView_takeStatus (h : HFrame) (s : State) : (takeStatus h s).heatView =
    { s.heatView with temp := s.sup.temp.setIfInBounds 2 h.temp, huskHot := h.hot = 1#1 } := rfl

/-- A HELLO on a link that heard DATA frames starts the handshake anew (R247). -/
theorem heatView_helloAgain (p : Prop) [Decidable p] (s : State) :
    (if p then { failClear s with awn := helloAgain (failClear s).awn } else s).heatView = s.heatView := by
  split
  · exact heatView_failClear s
  · rfl

@[simp] theorem heatView_heardH (h : HFrame) (s : State) : (heardH h s).heatView = s.heatView := by
  have hagain := heatView_helloAgain ((h.kind = 0x3#4 && s.awn.heardData) = true) s
  unfold heardH
  generalize (if (h.kind = 0x3#4 && s.awn.heardData) = true then _ else s : State) = u at hagain ⊢
  dsimp only
  split
  · split
    · exact hagain
    · exact (heatView_adoptDrivers _).trans hagain
  · split
    · exact (heatView_raise _ _ _ _ _).trans hagain
    · exact hagain

@[simp] theorem heatView_takeSilence (was : Bool) (l : List News) (s : State) : (takeSilence was l s).heatView = s.heatView := by
  simp only [takeSilence, apply_ite State.heatView, heatView_adoptDrivers, heatView_raise, ite_self]

@[simp] theorem heatView_judgeF24 (h : HFrame) (s : State) : (judgeF24 h s).heatView = s.heatView := by
  have hgood (u : State) : ({ u with sup.f24State := 0 } : State).heatView = u.heatView := rfl
  simp only [judgeF24, apply_ite State.heatView, heatView_raise, hgood, ite_self]

@[simp] theorem heatView_freshen (s : State) : (freshen s).heatView = s.heatView := by
  have hfresh (u : State) (b : Bool) (n : Nat) : ({ u with awn.stale := b, awn.fresh := n } : State).heatView = u.heatView := rfl
  simp only [freshen, apply_ite State.heatView, heatView_raise, hfresh, ite_self]

@[simp] theorem heatView_goStale (s : State) : (goStale s).heatView = s.heatView := by
  cases h : s.awn.stale with
  | true => rw [goStale, if_pos h]; rfl
  | false => exact (congrArg State.heatView (offMachine_goStale h) :)

@[simp] theorem heatView_ackWrites (h : HFrame) (s : State) : (ackWrites h s).heatView = s.heatView := rfl

@[simp] theorem heatView_ackShadow (h : HFrame) (s : State) : (ackShadow h s).heatView = s.heatView := by
  unfold ackShadow; split <;> rfl

@[simp] theorem heatView_ackClear (h : HFrame) (s : State) : (ackClear h s).heatView = s.heatView := by
  have hok (d : Desc) (r : W24) (u : State) : (acceptOk 0x4C d r 0 u).heatView = u.heatView := heatView_of_offMachine (offMachine_acceptOk _ _ _ _ _)
  unfold ackClear
  split
  · simp only [apply_ite State.heatView, hok]
    exact (congrArg _ (ite_self _)).trans (ite_self _)
  · rfl

@[simp] theorem heatView_settleWrites (s : State) : (settleWrites s).heatView = s.heatView := heatView_of_offMachine (offMachine_settleWrites s)

@[simp] theorem heatView_takeInputs (h : HFrame) (s : State) : (takeInputs h s).heatView = s.heatView := by
  unfold takeInputs
  split
  · rfl
  · exact (heatView_limitScan _).trans ((heatView_latchScan _ _).trans rfl)

/-- A valid frame without news shows the Husk's junction and whether it is shut down; the guard and HOST's requests stand (R69, R253). -/
theorem heatView_takeH (h : HFrame) {s : State} (hnews : s.awn.hNews = []) : (takeH h s).heatView =
    { s.heatView with temp := s.sup.temp.setIfInBounds 2 h.temp, huskHot := h.hot = 1#1 } := by
  have hrestarted (u : State) : ({ u with awn.restarted := false } : State).heatView = u.heatView := rfl
  simp only [takeH, hnews, List.foldl_nil, heatView_takeInputs, apply_ite State.heatView, hrestarted, heatView_settleWrites, heatView_ackClear,
    heatView_ackShadow, heatView_ackWrites, heatView_raise, heatView_freshen, heatView_goStale, heatView_judgeF24, heatView_takeSilence,
    heatView_heardH, heatView_takeStatus, ite_self]
  rfl

theorem heatView_receiveH {s : State} {l noise : List W24} {p : Nat} {h : HFrame} (hair : s.awn.hAir = some l)
    (hdec : decodeH (noisy l noise) = some h) (hper : s.awn.exempt = true ∨ inPeriod p = true) (hnews : s.awn.hNews = []) :
    (receiveH noise p s).heatView = { s.heatView with temp := s.sup.temp.setIfInBounds 2 h.temp, huskHot := h.hot = 1#1 } := by
  have hper' : (s.awn.exempt || inPeriod p) = true := by rw [Bool.or_eq_true]; exact hper
  simp only [receiveH, hair, hdec, hper', if_true]
  split
  · exact heatView_takeH h hnews
  · exact heatView_takeH h (by exact hnews)

/-! ### What the frame's shutdown does -/

theorem setIfInBounds_vget {α : Type} {n : Nat} (v : Vector α n) (i : Nat) (d : α) : v.setIfInBounds i (vget v i d) = v := by
  ext j hj
  by_cases hij : i = j
  · subst hij; simp [vget, List.getD_eq_getElem?_getD, hj]
  · simp [hij]

/-- The temperature that the view shows noted again leaves the view. -/
theorem heatView_noteHusk {s u : State} {w : W24} (hu : u.heatView = s.heatView) (hw : w = vget s.sup.temp 2 0x800000) :
    (noteTemp .husk w u).heatView = s.heatView := by
  have htemp : u.sup.temp = s.sup.temp := congrArg HeatView.temp hu
  have hsame : u.sup.temp.setIfInBounds 2 w = u.sup.temp := by rw [hw, htemp, setIfInBounds_vget]
  rw [← hu]
  exact (congrArg (fun v => { u.heatView with temp := v }) hsame :)

/-- The prewarn of the Husk, begun or ended as its temperature says. -/
def huskPrewarn (w : W24) (s : State) : State :=
  if 2160 ≤ w.int && !s.sup.prewarn.getLsbD 2 then beginPrewarn .husk w s
  else if w.int < 2080 && s.sup.prewarn.getLsbD 2 then endPrewarn .husk w s else s

theorem heatView_huskPrewarn {s : State} {w : W24} (hw : w = vget s.sup.temp 2 0x800000) : (huskPrewarn w s).heatView = s.heatView := by
  unfold huskPrewarn
  split
  · exact (heatView_of_quiet (quiet_beginPrewarn .husk w s)).trans (heatView_noteHusk (by rfl) hw)
  · split
    · exact heatView_noteHusk (by rfl) hw
    · rfl

theorem followHusk_eq {s : State} {p : State} (hp : huskPrewarn (vget s.sup.temp 2 0x800000) s = p) (hhot : p.awn.huskHot = true)
    (hnew : p.sup.shutdown.getLsbD 2 = false) (hup : p.guardUp = true) : followHusk s =
      raise 0x0231 6 2 (vget s.sup.temp 2 0x800000) (guardStop 19 (shutDie .husk (vget s.sup.temp 2 0x800000) p)) := by
  have hgate : (p.awn.huskHot && !p.sup.shutdown.getLsbD 2) = true := by rw [hhot, hnew]; rfl
  subst hp
  exact (if_pos hgate).trans (by rw [if_pos (by exact hup)]; rfl)

theorem heatView_guardStop {s : State} (h : s.grd.st.grants = true) :
    (guardStop 19 s).heatView = { s.heatView with guardSt := .safeStop, guardCause := 19 } := by
  obtain ⟨l, hoff⟩ := offMachine_guardStop (c := 19) (by decide) h
  exact (congrArg State.heatView hoff :)

/-- The Husk's shutdown as a frame has shown it: its bit, and a guard that granted permits stopped with cause 19 (R69, Table 10-2). -/
theorem heatView_followHusk {s : State} (hhot : s.awn.huskHot = true) (hnew : s.sup.shutdown.getLsbD 2 = false) (hup : s.guardUp = true)
    (hgr : s.grd.st.grants = true) : (followHusk s).heatView =
      { s.heatView with shutdown := setB s.sup.shutdown 2 true, guardSt := .safeStop, guardCause := 19 } := by
  have hview := heatView_huskPrewarn (s := s) rfl
  generalize hp : huskPrewarn (vget s.sup.temp 2 0x800000) s = p at hview
  have hshut : p.sup.shutdown = s.sup.shutdown := congrArg HeatView.shutdown hview
  have hguard : p.isl 4 = s.isl 4 := congrArg HeatView.guard hview
  have hst : p.grd.st = s.grd.st := congrArg HeatView.guardSt hview
  rw [followHusk_eq hp ((congrArg HeatView.huskHot hview).trans hhot) (by rw [hshut, hnew]) (by rw [State.guardUp, hguard]; exact hup), heatView_raise,
    heatView_guardStop (by exact hst ▸ hgr)]
  have hdie : (shutDie .husk (vget s.sup.temp 2 0x800000) p).heatView = { s.heatView with shutdown := setB s.sup.shutdown 2 true } := by
    have hnote := heatView_noteHusk hview rfl
    rw [← hshut]
    exact (congrArg (fun v : HeatView => { v with shutdown := setB p.sup.shutdown 2 true }) hnote :)
  rw [hdie]

theorem heatView_afterH {s : State} (hstep : (followHusk s).glb.step = 7) : (afterH s).heatView = (followHusk s).heatView := by
  have hview := heatView_of_offMachine (offMachine_ackJournal (followHusk s))
  have hseven : (ackJournal (followHusk s)).glb.step = 7 := (congrArg HeatView.step hview).trans hstep
  rw [afterH, linkStep, if_neg (by simp [hseven]), hview]

theorem calm_of_heatView {s t : State} (hb : t.heatView.backlog = s.ring.backlog) (hd : t.heatView.d3Due = s.host.d3Due)
    (hp : t.heatView.pmeDue = s.host.pmeDue) (hs : t.heatView.stopping = s.host.stopping) (h : s.calm) : t.calm := by
  obtain ⟨h1, h2, h3, h4⟩ := h
  exact ⟨hb.trans h1, hd.trans h2, hp.trans h3, hs.trans h4⟩

theorem exec_hFrame (noise : List W24) (p : Nat) (s : State) : exec (.hFrame noise p) s =
    doneRIf (s.isl 6 = .run && s.awn.mode != .sleep) (fun s => afterH (receiveH noise p s)) s := rfl

theorem hFrame_reportsShutdown {s : State} {l noise : List W24} {p : Nat} {h : HFrame} (hlink : s.isl 6 = .run) (hmode : s.awn.mode ≠ .sleep)
    (hcalm : s.calm) (hstep : s.glb.step = 7) (hair : s.awn.hAir = some l) (hdec : decodeH (noisy l noise) = some h)
    (hper : s.awn.exempt = true ∨ inPeriod p = true) (hhot : h.hot = 1#1) (hnews : s.awn.hNews = []) (hnew : s.sup.shutdown.getLsbD 2 = false)
    (hup : s.guardUp = true) (hgr : s.grd.st.grants = true) :
    completes (.hFrame noise p) s (fun t => t.sup.shutdown.getLsbD 2 = true ∧ vget t.sup.temp 2 0 = h.temp ∧ t.grd.st = .safeStop ∧ t.grd.cause = 19) := by
  refine completes_of_doneRIf (exec_hFrame noise p s) (by rw [decide_eq_true hlink, bne_iff_ne.mpr hmode]; rfl) ?_
  have hrx := heatView_receiveH hair hdec hper hnews
  generalize receiveH noise p s = r at hrx ⊢
  have hshut : r.sup.shutdown = s.sup.shutdown := (congrArg HeatView.shutdown hrx :)
  have hguard : r.isl 4 = s.isl 4 := (congrArg HeatView.guard hrx :)
  have hst : r.grd.st = s.grd.st := (congrArg HeatView.guardSt hrx :)
  have hrhot : r.awn.huskHot = true := (congrArg HeatView.huskHot hrx :).trans (decide_eq_true hhot)
  have hf := heatView_followHusk hrhot (by rw [hshut, hnew]) (by rw [State.guardUp, hguard]; exact hup) (by rw [hst, hgr])
  have ha := heatView_afterH ((congrArg HeatView.step hf :).trans ((congrArg HeatView.step hrx :).trans hstep))
  rw [hf, hrx] at ha
  generalize afterH r = u at ha ⊢
  have hucalm : u.calm := calm_of_heatView (s := s) (congrArg HeatView.backlog ha :) (congrArg HeatView.d3Due ha :)
    (congrArg HeatView.pmeDue ha :) (congrArg HeatView.stopping ha :) hcalm
  obtain ⟨x, hq⟩ := quiet_sync_resume_calm hucalm
  generalize sync _ = t at hq ⊢
  have ht : t.heatView = u.heatView := (congrArg State.heatView hq :)
  rw [ha] at ht
  refine ⟨?_, ?_, (congrArg HeatView.guardSt ht :), (congrArg HeatView.guardCause ht :)⟩
  · rw [show t.sup.shutdown = setB r.sup.shutdown 2 true from (congrArg HeatView.shutdown ht :)]
    exact getLsbD_setB _ 2 2 true (by decide)
  · rw [show t.sup.temp = s.sup.temp.setIfInBounds 2 h.temp from (congrArg HeatView.temp ht :)]
    simp [vget, List.getD_eq_getElem?_getD]

/-- Settles O35, row by row; a frame's effect on `HeatView` carries the Husk's shutdown to the guard. -/
theorem heatActs : Obligations.HeatActs :=
  ⟨fun _ _ _ hdie hw hnew => tempPrewarn_begins hdie hw hnew, fun _ _ _ hdie hw hon => prewarnEnd_clears hdie hw hon,
    fun _ w halive => huskPrewarn_shows w halive, fun _ _ hw hnew hup => tempShutdown_spindle hw hnew hup,
    fun _ _ halive hw hnew => tempShutdown_husk halive hw hnew,
    fun _ _ _ _ _ hlink hmode hcalm hstep hair hdec hper hhot hnews hnew hup hgr =>
      hFrame_reportsShutdown hlink hmode hcalm hstep hair hdec hper hhot hnews hnew hup hgr,
    fun _ _ hw hnew => tempShutdown_grain hw hnew, fun _ _ hw hheld => tempRestart_grain hw hheld,
    fun _ _ hw hhot => tempRestart_spindle hw hhot, fun _ _ hw hhot => tempRestart_husk hw hhot⟩

end Sys2Proof.Machine
end

section
/-! What every command answers, and how it leaves the two status lands (R32, R102, R148). -/

namespace Sys2Proof.Machine

/-! ### The lands of a state brought into step -/

theorem glb_sync (s : State) : (sync s).glb = { s.glb with faultN := s.faultNow } := by
  have hirq (k : Nat) (u : State) : (putIrq k u).glb = u.glb := by simp only [putIrq, apply_ite State.glb, ite_self]
  have hdue (u : State) : (sendDue u).glb = u.glb := by
    have h := foldl_keeps State.glb (fun t k => if t.irqOpen then putIrq k t else t)
      (fun t k => by simp only [apply_ite State.glb, hirq, ite_self]) u.ring.irqDue { u with ring.irqDue := [] }
    simp only [sendDue, apply_ite State.glb, h, ite_self]
  simp only [sync, hdue, mirrorSync, apply_ite State.glb, writeMirror_glb, ite_self]

theorem faultNow_sync (s : State) : (sync s).faultNow = s.faultNow := (congrArg State.faultNow (quiet_sync s) :)

theorem wakeDue_sync (s : State) : (sync s).wakeDue = s.wakeDue := by simp only [State.wakeDue, keep_sync]

/-- `sync` recomputes both lands from their causes, whatever state it is given (R102, R148). -/
theorem landsOk_sync (s : State) : (sync s).landsOk := by
  have hlink : (sync s).host.link = s.host.link := (congrArg (fun u : State => u.host.link) (quiet_sync s) :)
  have hland : (sync s).land = s.land := (congrArg State.land (quiet_sync s) :)
  unfold State.landsOk
  rw [glb_sync, faultNow_sync, wakeDue_sync, keep_sync, hlink, hland]
  refine ⟨rfl, fun hreset hdue hdown => ?_, fun hreset => ?_⟩
  · simp [State.wakeNow, hreset, hdue, hdown]
  · simp [State.wakeNow, hreset]

/-! ### What a command answers -/

/-- The state as it stands but for the response to a configuration request (R19), or a state brought into step with its lands. -/
def Answers (s : State) (o : Host.Outcome State Fault Refusal) : Prop :=
  (∃ r, o = .next { s with resp := r }) ∨ ∃ u, o = .next (sync u)

section
variable (s : State)

theorem answers_same : Answers s (.next s) := .inl ⟨s.resp, rfl⟩

theorem answers_done (u : State) : Answers s (done u) := .inr ⟨u, rfl⟩

theorem answers_ite {p : Prop} [Decidable p] {a b : Host.Outcome State Fault Refusal} (ha : Answers s a) (hb : Answers s b) :
    Answers s (if p then a else b) := by split <;> assumption

theorem answers_doneIf (p : Bool) (f : State → State) : Answers s (doneIf p f s) := answers_ite s (answers_done s _) (answers_same s)

theorem answers_doneRIf (p : Bool) (f : State → State) : Answers s (doneRIf p f s) := answers_ite s (answers_done s _) (answers_same s)

theorem answers_command (op : Byte) (d : Desc) : Answers s (command op d s) := answers_done s _

theorem answers_configRequest (f : State → State) : Answers s (configRequest f s) :=
  answers_ite s (.inl ⟨.crs, rfl⟩) (answers_doneRIf s _ f)

theorem answers_twpTransfer (f : State → State) : Answers s (twpTransfer f s) := answers_doneIf s _ _

theorem answers_flr : Answers s (execFlr s) := answers_ite s (.inl ⟨.crs, rfl⟩) (answers_doneIf s _ _)

/-! #### Rows that answer by cases -/

theorem answers_estop (a b : Bool) : Answers s (execEstop a b s) := answers_ite s (answers_done s _) (answers_done s _)

theorem answers_encoderEdge (source : Fin 6) (up : Bool) : Answers s (execEncoderEdge source up s) :=
  answers_ite s (answers_doneIf s _ _) (answers_doneIf s _ _)

theorem answers_prechargeDone (bootOk : Bool) : Answers s (execPrechargeDone bootOk s) := by
  unfold execPrechargeDone
  split
  · exact answers_same s
  · exact answers_ite s (answers_done s _) (answers_ite s (answers_done s _) (answers_ite s (answers_same s) (answers_done s _)))

theorem answers_grindTick (rpm : W24) (revs : Nat) : Answers s (execGrindTick rpm revs s) := by
  unfold execGrindTick
  dsimp only
  split <;> exact answers_done s _

theorem answers_grindStandstill : Answers s (execGrindStandstill s) := by
  refine answers_ite s (answers_same s) ?_
  split
  case h_4 => exact answers_same s -- neither coasting nor in FAULT
  all_goals exact answers_done s _

theorem answers_keepaliveReceived (side : Side) (interval : Nat) : Answers s (execKeepaliveReceived side interval s) := by
  unfold execKeepaliveReceived
  split
  · split
    · exact answers_doneRIf s _ _
    · exact answers_same s
  · split
    · exact answers_doneIf s _ _
    · exact answers_same s

/-- Every command answers a next state: the present one but for the response, or one that `sync` has brought into step. -/
theorem answers_exec (c : Instr) : Answers s (exec c s) := by
  cases c with dsimp only [exec]
  | nop d | getStatus d | eventFilter d | powerState d | paramRead d | paramWrite d | txnBegin d | txnCommit d | txnRollback d
  | txnStatus d | liftCall d | liftCancel d | liftHome d | liftHold d | liftRelease d | doorOpen d | doorClose d | doorHold d
  | axisMoveAbs d | axisMoveVel d | axisRetune d | axisStop d | axisHome d | axisGear d | axisPower d | axisSetPos d | grindRun d
  | grindStop d | fieldWrite d | fieldPulse d | fieldRead d | counterRead d | counterClear d | guardAck d | guardStatus d | logMark d
  | logChallenge d | logClear d | logCopy d | fwStage d | fwActivate d | fwStatus d | journalCopy d => exact answers_command s _ d
  | busMasterEnable | d3hotEntry | d0Return => exact answers_configRequest s _
  | linkL0 | gFrame | hFrame | guardPass | logCleared | shedStepUp => exact answers_doneRIf s _ _
  | powerOn | vbusBelow9v | jtTrst | bypass | idcode | samplePreload | extest | clamp | highz | dbgRelock | dbgAccess =>
    exact answers_done s _
  | flr => exact answers_flr s
  | estop a b => exact answers_estop s a b
  | encoderEdge source up => exact answers_encoderEdge s source up
  | prechargeDone bootOk => exact answers_prechargeDone s bootOk
  | grindTick rpm revs => exact answers_grindTick s rpm revs
  | grindStandstill => exact answers_grindStandstill s
  | keepaliveReceived side interval => exact answers_keepaliveReceived s side interval
  | keepalive | fldSleepHunt | fldSleepLost =>
    dsimp only [execKeepalive, execFldSleepHunt, execFldSleepLost]
    split <;> exact answers_doneIf s _ _
  | tempPrewarn | prewarnEnd | tempShutdown | tempRestart =>
    dsimp only [execTempPrewarn, execPrewarnEnd, execTempShutdown, execTempRestart]
    split <;> exact answers_doneIf s _ _
  | hostDmaFault =>
    dsimp only [execHostDmaFault]
    split <;> exact answers_doneIf s _ _
  | unitWritten | fwStaged | bulkCopyStart | activationSafePoint | activationTimeout =>
    dsimp only [execUnitWritten, execFwStaged, execBulkCopyStart, execActivationSafePoint, execActivationTimeout]
    split
    · exact answers_same s
    · exact answers_doneIf s _ _
  | fwActivated | fwFallback =>
    dsimp only [execFwActivated, execFwFallback]
    split
    · exact answers_same s
    · exact answers_doneRIf s _ _
  | fenceRelease | fieldWriteJournal =>
    dsimp only [execFenceRelease, execFieldWriteJournal]
    split
    · exact answers_doneRIf s _ _
    · exact answers_same s
  | liveParamApply | txnVote | safePointReached | debouncedChange | fldWireBreak | fldOutFault | fldOpenLoad | demagEnd | fldDemagSlow
  | pulseEnd | handshakeTmo | axStall | axLatch | axOpenLoad | axIdleOff | axVerify | stepEdge | liftPark | doorForced | nudgeRetry
  | dbgHalt | dbgCoreHalted =>
    dsimp only [execLiveParamApply, execTxnVote, execSafePointReached, execDebouncedChange, execFldWireBreak, execFldOutFault,
      execFldOpenLoad, execDemagEnd, execFldDemagSlow, execPulseEnd, execHandshakeTmo, execAxStall, execAxLatch, execAxOpenLoad,
      execAxIdleOff, execAxVerify, execStepEdge, execLiftPark, execDoorForced, execNudgeRetry, execDbgHalt, execDbgCoreHalted]
    exact answers_doneIf s _ _
  | islandRestarted | dbgResume =>
    dsimp only [execIslandRestarted, execDbgResume]
    exact answers_doneRIf s _ _
  | statusRead | heartbeat | stop | release | unacceptedWrite => exact answers_twpTransfer s _
  | _ => exact answers_doneIf s _ _

end

/-! ### The invariant -/

theorem landsOk_of_answers {s t : State} (hs : s.landsOk) (h : Answers s (.next t)) : t.landsOk := by
  obtain ⟨r, hr⟩ | ⟨u, hu⟩ := h
  · cases hr; exact hs
  · cases hu; exact landsOk_sync u

/-- Settles O52: a command answers the state with its lands as they stand, or ends with `sync`, as an idle step always does. -/
theorem stepKeepsLands : Obligations.StepKeepsLands := by
  intro s t hs hstep
  unfold step at hstep
  split at hstep
  · exact landsOk_of_answers hs (hstep ▸ answers_done s _)
  · next c rest _ =>
    have hrest : State.landsOk { s with pending := rest } := hs
    exact landsOk_of_answers hrest (hstep ▸ answers_exec _ c)

/-- Settles O51: at the power-on reset FAULT_N is driven low, as the start is not complete, and no wake cause is latched. -/
theorem resetLandsStand : Obligations.ResetLandsStand := by
  have hnone : State.reset.wakeDue = false := by decide
  exact ⟨by decide, fun _ hdue _ => absurd (hnone.symm.trans hdue) (by decide), fun _ => rfl⟩

end Sys2Proof.Machine
end

section
/-! What the loss of an island and its return leave of what GUARD keeps of it (R92 to R95, R110, R348, R374, R408). -/

namespace Sys2Proof.Machine

/-- What GUARD keeps of an island and of missed watchdogs: the island's state, when its restart began, GLB_CAUSE, the count and the last
of the misses, and the step of the start. -/
structure IslandView where
  isl : IslState
  restartAt : Option Nat
  cause : W24
  wdtCount : W24
  wdtLast : BitVec 4
  step : Fin 8

def State.islandView (n : Nat) (s : State) : IslandView where
  isl := s.isl n
  restartAt := vget s.glb.restartAt n none
  cause := s.glb.cause
  wdtCount := s.glb.wdtCount
  wdtLast := s.glb.wdtLast
  step := s.glb.step

section
variable {n : Nat}

theorem islandView_of_rest {s t : State} (h : t.rest = s.rest) : t.islandView n = s.islandView n := (congrArg (State.islandView n) h :)

theorem islandView_of_quiet {s t : State} (h : t.quiet = s.quiet) : t.islandView n = s.islandView n := islandView_of_rest (rest_of_quiet h)

/-- The machine's drives and the firmware islands do not bear on an island that holds no firmware. -/
theorem islandView_of_offMachine {s t : State} (hn : n < 8) (hfw : fwOf n = none) (h : t.offMachine = s.offMachine) :
    t.islandView n = s.islandView n := by
  have hoff (u : State) : u.offMachine.islandView n = u.islandView n := by
    match n, hn, hfw with
    | 1, _, _ | 4, _, _ | 5, _, _ | 6, _, _ | 7, _, _ => rfl
  rw [← hoff t, h, hoff s]

theorem islandView_setIsl (hn : n < 8) (v : IslState) (s : State) : (s.setIsl n v).islandView n = { s.islandView n with isl := v } := by
  simp only [State.islandView, isl_setIsl_same s n v hn]; rfl

@[simp] theorem islandView_raise (c : W16) (v : Nat) (a b : W24) (s : State) : (raise c v a b s).islandView n = s.islandView n :=
  islandView_of_quiet (quiet_raise c v a b s)

@[simp] theorem islandView_finishC (x : Byte) (r : Ref) (st : Status) (w : W24) (e : Byte) (s : State) :
    (finishC x r st w e s).islandView n = s.islandView n :=
  islandView_of_rest (rest_finishC x r st w e s)

@[simp] theorem islandView_finishAll (l : List Ref) (st : Status) (w : W24) (e : Byte) (s : State) :
    (finishAll l st w e s).islandView n = s.islandView n :=
  foldl_keeps (State.islandView n) _ (fun t r => islandView_finishC 0 r st w e t) l s

/-! ### HOST and the transaction -/

theorem islandView_txnTo (st : TxnState) (s : State) : (txnTo st s).islandView n = s.islandView n := by
  have hirq (u : State) : (sendIrq 7 u).islandView n = u.islandView n := islandView_of_quiet (quiet_sendIrq 7 u)
  simp only [txnTo, apply_ite (State.islandView n), hirq]; exact ite_self _

theorem islandView_rollback (c i : Nat) (s : State) : (rollback c i s).islandView n = s.islandView n := by
  have hshares (u : State) : (discardShares u).islandView n = u.islandView n := by
    simp only [discardShares]; split <;> rfl
  have hended : (discardShares (if s.committing then imageAbort s else s)).islandView n = s.islandView n := by
    rw [hshares]; split <;> rfl
  have htxn (u : State) (x : TxnSt) : ({ u with txn := x } : State).islandView n = u.islandView n := rfl
  simp only [rollback, islandView_txnTo]
  split
  · rw [islandView_raise, htxn, hended]
  · rw [islandView_finishC, islandView_raise, htxn, hended]

theorem islandView_txnIslandLost (i : Nat) (s : State) : (txnIslandLost i s).islandView n = s.islandView n := by
  simp only [txnIslandLost, apply_ite (State.islandView n), islandView_rollback, ite_self]

theorem islandView_hostLost (s : State) : (hostLost s).islandView n = s.islandView n := by
  have hblock (u : State) : (dropBlock u).islandView n = u.islandView n := by
    simp only [dropBlock]; split <;> rfl
  simp only [hostLost]
  rw [islandView_of_rest (rest_endBulk _), txnHostStop, apply_ite (State.islandView n), islandView_rollback, ite_self, hblock]
  rfl

/-! ### LIFT and GRIND -/

theorem islandView_axStop (emg : Bool) (a : Nat) (st : Status) (e : Byte) (s : State) : (axStop emg a st e s).islandView n = s.islandView n := by
  simp only [axStop, apply_ite (State.islandView n), islandView_finishAll]; exact ite_self _

theorem islandView_driveOut (c : Option Nat) (on : Bool) (s : State) : (driveOut c on s).islandView n = s.islandView n := by
  cases c <;> rfl

theorem islandView_endCalls (st : Status) (e : Byte) (s : State) : (endCalls st e s).islandView n = s.islandView n := by
  simp only [endCalls, apply_ite (State.islandView n), islandView_raise, islandView_finishAll]; exact ite_self _

theorem islandView_enterHold (c : Nat) (s : State) : (enterHold c s).islandView n = s.islandView n := by
  simp only [enterHold, islandView_finishAll, islandView_raise]; rfl

theorem islandView_brakeAtRest (s : State) : (brakeAtRest s).islandView n = s.islandView n := by
  have hbrake (u : State) : (brakeSet false u).islandView n = u.islandView n := islandView_driveOut _ _ _
  simp only [brakeAtRest, apply_ite (State.islandView n), hbrake, ite_self]

theorem islandView_cycleEnd (k : Nat) (s : State) : (cycleEnd k false s).islandView n = s.islandView n := by
  simp only [cycleEnd, apply_ite (State.islandView n), islandView_enterHold, islandView_finishAll, Bool.false_eq_true, if_false]
  exact ite_self _

theorem islandView_drMod (k : Nat) (f : Door → Door) (s : State) : (drMod k f s).islandView n = s.islandView n := rfl

theorem islandView_endRefs (k : Nat) (st : Status) (e : Byte) (s : State) : (endClose k st e (endOpen k st e s)).islandView n = s.islandView n :=
  (islandView_finishAll _ _ _ _ _).trans (islandView_finishAll _ _ _ _ _)

theorem islandView_doorOutputs (k : Nat) (s : State) : (buzz k false (lockOut k false s)).islandView n = s.islandView n :=
  (islandView_driveOut _ _ _).trans (islandView_driveOut _ _ _)

theorem islandView_doorFault (k c : Nat) (st : Status) (e : Byte) (s : State) : (doorFault k c st e s).islandView n = s.islandView n := by
  have hmod (j : Nat) (f : Axis → Axis) (u : State) : (axMod j f u).islandView n = u.islandView n := rfl
  simp only [doorFault, apply_ite (State.islandView n), islandView_cycleEnd, islandView_endRefs, hmod, islandView_axStop, islandView_raise,
    islandView_doorOutputs, islandView_drMod, ite_self]

theorem islandView_doorLost (k : Nat) (s : State) : (doorLost s k).islandView n = s.islandView n := by
  have hhalt : (doorHalt k .internal 2 s).islandView n = s.islandView n := by
    simp only [doorHalt, apply_ite (State.islandView n), islandView_doorFault, ite_self]
  simp only [doorLost, apply_ite (State.islandView n), islandView_drMod, islandView_doorOutputs, islandView_endRefs, hhalt, ite_self]

theorem islandView_liftLost (s : State) : (liftLost s).islandView n = s.islandView n := by
  have hdoors := foldl_keeps (State.islandView n) doorLost (fun u k => islandView_doorLost k u)
  have hlift (u : State) (x : LiftSt) : ({ u with lift := x } : State).islandView n = u.islandView n := rfl
  simp only [liftLost, islandView_brakeAtRest, hlift, apply_ite (State.islandView n), islandView_axStop, hdoors, islandView_finishAll, ite_self,
    islandView_endCalls]

theorem islandView_grindGone (s : State) : (grindGone s).islandView n = s.islandView n :=
  (islandView_finishAll _ _ _ _ _).trans (islandView_finishAll _ _ _ _ _)

/-! ### MOTION, LINK and KEEP -/

theorem islandView_guardTrip (hn : n < 8) (hfw : fwOf n = none) (c : Nat) (s : State) : (guardTrip c s).islandView n = s.islandView n := by
  obtain ⟨l, hq⟩ := quiet_enterGuard .trip c s
  have htrip := islandView_of_offMachine hn hfw (offMachine_tripMachine (enterGuard .trip c s))
  unfold guardTrip
  split
  · rfl
  · exact htrip.trans (islandView_of_quiet hq :)

theorem islandView_axLost (a : Nat) (s : State) : (axLost s a).islandView n = s.islandView n := by
  simp only [axLost, islandView_finishAll]; rfl

theorem islandView_motionLost (hn : n < 8) (hfw : fwOf n = none) (s : State) : (motionLost s).islandView n = s.islandView n := by
  have haxes := foldl_keeps (State.islandView n) axLost (fun u a => islandView_axLost a u)
  have hcar (u : State) : (carLost u).islandView n = u.islandView n := islandView_endCalls _ _ _
  simp only [motionLost, islandView_guardTrip hn hfw, apply_ite (State.islandView n), hcar, islandView_finishAll, ite_self]
  have hrefs (u : State) (x y : _) : ({ u with lift.homeRef := x, lift.holdRefs := y } : State).islandView n = u.islandView n := rfl
  rw [hrefs, haxes]

theorem islandView_linkLost (hn : n < 8) (hfw : fwOf n = none) (s : State) : (linkLost s).islandView n = s.islandView n := by
  have hstale (u : State) : (goStale u).islandView n = u.islandView n := by
    cases h : u.awn.stale with
    | true => rw [goStale, if_pos h]; rfl
    | false => exact (islandView_of_offMachine hn hfw (offMachine_goStale h)).trans rfl
  have hfield : (failClear (endAllField .internal 2 s)).islandView n = s.islandView n :=
    islandView_of_offMachine hn hfw ((offMachine_failClear _).trans (offMachine_endAllField _ _ _))
  have hawn (u : State) (x : AwnSt) : ({ u with awn := x } : State).islandView n = u.islandView n := rfl
  simp only [linkLost, unheard, hawn, hstale, hfield]

/-- The reaction of Table 4-3 leaves the island, the count of the misses and the cause as the miss set them. -/
theorem islandView_react (hn : n < 8) (s : State) : (react n s).islandView n = s.islandView n := by
  unfold react
  split_ifs with h0 h1 h2 h3 h6 h7
  · exact islandView_hostLost s
  · exact islandView_motionLost hn (h1 ▸ rfl) s
  · exact islandView_liftLost s
  · exact islandView_grindGone s
  · exact islandView_linkLost hn (h6 ▸ rfl) s
  · exact islandView_guardTrip hn (h7 ▸ rfl) 5 _
  · rfl

end

end Sys2Proof.Machine
end

section
/-! Missed watchdogs, the return of an island, and the faults that reset the block (R84 to R87, R92 to R94, R102, Table 4-3). -/

namespace Sys2Proof.Machine

/-! ### A missed watchdog -/

theorem vget_vset_same {α : Type} {k : Nat} (v : Vector α k) {i : Nat} (hi : i < k) (x d : α) : vget (vset v i x) i d = x := by
  simp [vget, vset, List.getD_eq_getElem?_getD, hi]

/-- What a miss that the guard global watchdog does not follow makes of an island (R92). -/
theorem islandView_missed {n : Nat} (hn : n < 8) {s : State} (h : s.globalDue n = false) : (missed n s).islandView n =
    { isl := .restarting, restartAt := some s.now, cause := setB (setB s.glb.cause 3 true) (9 + n) true, wdtCount := satInc s.glb.wdtCount
      wdtLast := BitVec.ofNat 4 n, step := s.glb.step } := by
  simp only [missed, h, Bool.false_eq_true, if_false, islandView_raise, islandView_react hn, islandView_setIsl hn, islandView_txnIslandLost]
  simp only [State.islandView, vget_vset_same _ hn]

/-- A miss that the guard global watchdog follows ends in its reset (R93). -/
theorem missed_of_globalDue {n : Nat} {s : State} (h : s.globalDue n = true) : ∃ t, missed n s = globalWatchdog 0 t :=
  ⟨_, if_pos h⟩

/-- An island in RESTARTING, or halted in it, calls for FAULT_N (R102). -/
theorem faultNow_of_restarting {s : State} {n : Nat} (hn : n < 8) (h : s.isl n = .restarting) : s.faultNow = true := by
  have hshown : s.islShown n = 3 ∨ s.islShown n = 4 := by
    unfold State.islShown
    split
    · exact .inr rfl
    · rw [h]; exact .inl rfl
  have hany : (List.range 8).any (fun i => s.islShown i = 3 || s.islShown i = 4 || s.islShown i = 6) = true :=
    List.any_eq_true.mpr ⟨n, List.mem_range.mpr hn, by obtain h3 | h4 := hshown <;> simp [*]⟩
  rw [State.faultNow, hany, Bool.or_true]

theorem islandView_sync {n : Nat} (s : State) : (sync s).islandView n = s.islandView n := islandView_of_quiet (quiet_sync s)

theorem exec_islandWdt (i : Island) (s : State) : exec (.islandWdt i) s = doneIf (s.watched (islNum i)) (missed (islNum i)) s := rfl

theorem watched_lt {s : State} {n : Nat} (h : s.watched n = true) : n < 8 := by
  simp only [State.watched, Bool.and_eq_true, decide_eq_true_eq] at h; omega

theorem islandWdt_restarts {s : State} {i : Island} (h : s.watched (islNum i) = true) (hdue : s.globalDue (islNum i) = false) :
    completes (.islandWdt i) s (fun t => t.isl (islNum i) = .restarting ∧ t.glb.wdtCount = satInc s.glb.wdtCount ∧
      t.glb.wdtLast = BitVec.ofNat 4 (islNum i) ∧ t.glb.cause.getLsbD 3 = true ∧ t.glb.cause.getLsbD (9 + islNum i) = true ∧
      t.glb.step = s.glb.step ∧ t.glb.faultN = true) := by
  have hn := watched_lt h
  refine completes_of_doneIf (exec_islandWdt i s) h ?_
  have hv := islandView_missed hn hdue
  have hfault : (sync (missed (islNum i) s)).glb.faultN = true := by
    rw [glb_sync]; exact faultNow_of_restarting hn (congrArg IslandView.isl hv :)
  rw [← islandView_sync] at hv
  generalize sync _ = t at hv hfault ⊢
  have hcause : t.glb.cause = setB (setB s.glb.cause 3 true) (9 + islNum i) true := congrArg IslandView.cause hv
  refine ⟨congrArg IslandView.isl hv, congrArg IslandView.wdtCount hv, congrArg IslandView.wdtLast hv, ?_, ?_,
    congrArg IslandView.step hv, hfault⟩
  · rw [hcause, getLsbD_setB _ _ _ _ (by omega), if_neg (by omega), getLsbD_setB _ _ _ _ (by decide), if_pos rfl]
  · rw [hcause, getLsbD_setB _ _ _ _ (by omega), if_pos rfl]

/-! ### The guard global watchdog -/

theorem fullReset_crystal (at_ : Fin 5) (bits : W24) (thermal : Bool) (s : State) : (fullReset at_ bits thermal s).clk.crystal = s.clk.crystal := by
  obtain ⟨n, f, hcut⟩ := cutStage_eq s
  simp only [fullReset, hcut]

/-- The reset of the guard global watchdog (R93): every island OFF, the start at no step, its cause bits joined, the crystal as it was. -/
theorem sync_globalWatchdog (bits : W24) (s : State) : (sync (globalWatchdog bits s)).glb.step = 0 ∧
    (sync (globalWatchdog bits s)).glb.cause = s.glb.cause ||| (bits ||| 16#24) ∧
    (sync (globalWatchdog bits s)).clk.crystal = s.clk.crystal ∧ ∀ j < 8, (sync (globalWatchdog bits s)).isl j = .off := by
  have hq := quiet_sync (globalWatchdog bits s)
  have hcause : (globalWatchdog bits s).glb.cause = s.glb.cause ||| (bits ||| 16#24) := fullReset_cause ..
  have hcrystal : (globalWatchdog bits s).clk.crystal = s.clk.crystal := fullReset_crystal ..
  generalize sync _ = t at hq ⊢
  exact ⟨(congrArg (fun u : State => u.glb.step) hq :), (congrArg (fun u : State => u.glb.cause) hq :).trans hcause,
    (congrArg (fun u : State => u.clk.crystal) hq :).trans hcrystal, fun j _ => isl_of_allOff (congrArg (fun u : State => u.glb.isl) hq :) j⟩

theorem islandWdt_resets {s : State} {i : Island} (h : s.watched (islNum i) = true) (hdue : s.globalDue (islNum i) = true) :
    completes (.islandWdt i) s (fun t => t.glb.step = 0 ∧ t.glb.cause.getLsbD 4 = true ∧ ∀ j < 8, t.isl j = .off) := by
  refine completes_of_doneIf (exec_islandWdt i s) h ?_
  obtain ⟨t, ht⟩ := missed_of_globalDue hdue
  obtain ⟨hstep, hcause, -, hoff⟩ := sync_globalWatchdog 0 t
  rw [ht, hcause]
  exact ⟨hstep, by simp, hoff⟩

theorem exec_restartTimeout (i : Island) (s : State) : exec (.restartTimeout i) s =
    doneIf (islNum i < 8 && s.isl (islNum i) = .restarting && !s.actRestart (islNum i)) (globalWatchdog 0) s := rfl

theorem restartTimeout_resets {s : State} {i : Island} (hn : islNum i < 8) (hr : s.isl (islNum i) = .restarting)
    (ha : s.actRestart (islNum i) = false) :
    completes (.restartTimeout i) s (fun t => t.glb.step = 0 ∧ t.glb.cause = s.glb.cause ||| 16 ∧ ∀ j < 8, t.isl j = .off) := by
  refine completes_of_doneIf (exec_restartTimeout i s) (by simp [hn, hr, ha]) ?_
  obtain ⟨hstep, hcause, -, hoff⟩ := sync_globalWatchdog 0 s
  exact ⟨hstep, hcause, hoff⟩

theorem exec_guardClockFault (s : State) : exec .guardClockFault s = doneIf s.guardUp (globalWatchdog 0x100) s := rfl

theorem guardClockFault_resets {s : State} (h : s.guardUp = true) : completes .guardClockFault s (fun t =>
    t.glb.cause = s.glb.cause ||| 0x110 ∧ t.glb.step = 0 ∧ t.clk.crystal = s.clk.crystal ∧ ∀ j < 8, t.isl j = .off) := by
  refine completes_of_doneIf (exec_guardClockFault s) h ?_
  obtain ⟨hstep, hcause, hcrystal, hoff⟩ := sync_globalWatchdog 0x100 s
  exact ⟨hcause, hstep, hcrystal, hoff⟩

/-! ### Clock faults -/

theorem clk_of_offMachine {s t : State} (h : t.offMachine = s.offMachine) : t.clk = s.clk := (congrArg State.clk h :)

theorem clk_of_quiet {s t : State} (h : t.quiet = s.quiet) : t.clk = s.clk := clk_of_offMachine (offMachine_of_quiet h)

theorem clk_guardTrip (c : Nat) (s : State) : (guardTrip c s).clk = s.clk := by
  obtain ⟨l, hq⟩ := quiet_enterGuard .trip c s
  have htrip := clk_of_offMachine (offMachine_tripMachine (enterGuard .trip c s))
  unfold guardTrip
  split
  · rfl
  · exact htrip.trans (clk_of_quiet hq :)

/-- CLK_FAULT's TRIP, before the global watchdog's reset (R85). -/
def crystalTrip (k : Nat) (s : State) : State :=
  guardTrip 6 (raise 0x0104 6 ((clockBad k s).clk.latch.zeroExtend 24) 0 { clockBad k s with clk.crystal := false })

/-- The start waits at step 2 for the crystal (R85). -/
def waitAtStep2 (s : State) : State := { s with glb.step := 2, glb.waitCrystal := true }

theorem execClkFault_eq (k : Fin 5) (s : State) :
    execClkFault k s = doneIf s.guardUp (fun s => waitAtStep2 (globalWatchdog 0x80 (crystalTrip k.val s))) s := by
  unfold execClkFault crystalTrip waitAtStep2
  dsimp only

theorem exec_clkFault (k : Fin 5) (s : State) : exec (.clkFault k) s = execClkFault k s := rfl

theorem crystal_crystalTrip (k : Nat) (s : State) : (crystalTrip k s).clk.crystal = false := by
  rw [crystalTrip, clk_guardTrip]
  rw [clk_of_quiet (quiet_raise _ _ _ _ _)]

theorem clkFault_resets {s : State} (k : Fin 5) (h : s.guardUp = true) : completes (.clkFault k) s (fun t =>
    t.glb.cause.getLsbD 7 = true ∧ t.glb.cause.getLsbD 4 = true ∧ t.glb.step = 2 ∧ t.glb.waitCrystal = true ∧ t.clk.crystal = false ∧
      ∀ j < 8, t.isl j = .off) := by
  refine completes_of_doneIf ((exec_clkFault k s).trans (execClkFault_eq k s)) h ?_
  have hcause : (globalWatchdog 0x80 (crystalTrip k.val s)).glb.cause = (crystalTrip k.val s).glb.cause ||| (0x80#24 ||| 16#24) := fullReset_cause ..
  have hcrystal : (globalWatchdog 0x80 (crystalTrip k.val s)).clk.crystal = false := (fullReset_crystal ..).trans (crystal_crystalTrip k.val s)
  have hoff : (globalWatchdog 0x80 (crystalTrip k.val s)).glb.isl = Vector.replicate 8 .off := rfl
  generalize globalWatchdog _ _ = u at hcause hcrystal hoff ⊢
  have hq := quiet_sync (waitAtStep2 u)
  generalize sync _ = t at hq ⊢
  have htcause : t.glb.cause = u.glb.cause := (congrArg (fun v : State => v.glb.cause) hq :)
  refine ⟨?_, ?_, (congrArg (fun v : State => v.glb.step) hq :), (congrArg (fun v : State => v.glb.waitCrystal) hq :),
    (congrArg (fun v : State => v.clk.crystal) hq :).trans hcrystal,
    fun j _ => isl_of_allOff ((congrArg (fun v : State => v.glb.isl) hq :).trans hoff) j⟩
  · rw [htcause, hcause]; simp
  · rw [htcause, hcause]; simp

theorem exec_logOscFault (s : State) : exec .logOscFault s = doneIf (s.watched 5) (fun s => missed 5 (clockBad 9 s)) s := rfl

/-- LOG's restart has no reaction of its own, so the clocks stand as they were found (Table 4-3). -/
theorem clk_missed_log {s : State} (h : s.globalDue 5 = false) : (missed 5 s).clk = s.clk := by
  have hraise (c : W16) (v : Nat) (a b : W24) (u : State) : (raise c v a b u).clk = u.clk := clk_of_quiet (quiet_raise c v a b u)
  have hroll (u : State) : (rollback 4 5 u).clk = u.clk := clk_of_offMachine (offMachine_rollback 4 5 u)
  have hlost (u : State) : (txnIslandLost 5 u).clk = u.clk := by
    show (if _ then rollback 4 5 u else u).clk = _
    rw [apply_ite State.clk, hroll, ite_self]
  simp only [missed, h, Bool.false_eq_true, if_false, hraise]
  exact hlost _

theorem logOscFault_restarts {s : State} (h : s.watched 5 = true) (hdue : s.globalDue 5 = false) : completes .logOscFault s (fun t =>
    t.isl 5 = .restarting ∧ t.clk.good.getLsbD 9 = false ∧ t.clk.latch.getLsbD 9 = true) := by
  refine completes_of_doneIf (exec_logOscFault s) h ?_
  have hbad : (clockBad 9 s).globalDue 5 = false := hdue
  have hv := (islandView_sync _).trans (islandView_missed (n := 5) (by decide) hbad)
  have hclk : (sync (missed 5 (clockBad 9 s))).clk = (clockBad 9 s).clk :=
    (clk_of_quiet (quiet_sync _)).trans (clk_missed_log hbad)
  rw [hclk]
  exact ⟨congrArg IslandView.isl hv, (good_clockBad 9 9 s (by decide)).trans (if_pos rfl),
    (getLsbD_setB _ 9 9 true (by decide)).trans (if_pos rfl)⟩

/-! ### The handshake between two islands -/

/-- HANDSHAKE_TMO as its sender logs it. -/
def handshakeLogged (a b : Nat) (s : State) : State := raiseBy a 0x0105 5 (w24 a) (w24 b) s

theorem exec_handshakeTmo (a b : Island) (s : State) : exec (.handshakeTmo a b) s =
    doneIf (s.guardUp && s.islServes (islNum a) && a != b) (fun s =>
      if (handshakeLogged (islNum a) (islNum b) s).watched (islNum b) then missed (islNum b) (handshakeLogged (islNum a) (islNum b) s)
      else handshakeLogged (islNum a) (islNum b) s) s := rfl

theorem watched_of_quiet {s t : State} (h : t.quiet = s.quiet) (n : Nat) : t.watched n = s.watched n := (congrArg (fun u : State => u.watched n) h :)

theorem globalDue_of_quiet {s t : State} (h : t.quiet = s.quiet) (n : Nat) : t.globalDue n = s.globalDue n :=
  (congrArg (fun u : State => u.globalDue n) h :)

theorem quiet_handshakeLogged (a b : Nat) (s : State) : (handshakeLogged a b s).quiet = s.quiet := quiet_raiseBy _ _ _ _ _ _

section
variable {s : State} {a b : Island} (hup : s.guardUp = true) (ha : s.islServes (islNum a) = true) (hab : a ≠ b)
include hup ha hab

theorem handshakeTmo_restarts (h : s.watched (islNum b) = true) (hdue : s.globalDue (islNum b) = false) :
    completes (.handshakeTmo a b) s (fun t => t.isl (islNum b) = .restarting ∧ t.glb.wdtLast = BitVec.ofNat 4 (islNum b)) := by
  refine completes_of_doneIf (exec_handshakeTmo a b s) (by simp [hup, ha, hab]) ?_
  have hq := quiet_handshakeLogged (islNum a) (islNum b) s
  rw [watched_of_quiet hq, if_pos h]
  have hv := (islandView_sync _).trans (islandView_missed (watched_lt h) ((globalDue_of_quiet hq _).trans hdue))
  generalize sync _ = t at hv ⊢
  exact ⟨congrArg IslandView.isl hv, congrArg IslandView.wdtLast hv⟩

theorem handshakeTmo_reports (h : s.watched (islNum b) = false) : completesAs (.handshakeTmo a b) s s := by
  refine completesAs_of_doneIf (exec_handshakeTmo a b s) (by simp [hup, ha, hab]) ?_
  have hq := quiet_handshakeLogged (islNum a) (islNum b) s
  rw [watched_of_quiet hq, if_neg (by simp [h])]
  exact hq

end

/-! ### An island back from its restart -/

theorem calm_of_offMachine {s t : State} (h : t.offMachine = s.offMachine) (hs : s.calm) : t.calm := by
  have hoff (u : State) : u.offMachine.calm ↔ u.calm := Iff.rfl
  rw [← hoff, h, hoff]; exact hs

theorem offMachine_writeImage (s : State) : (writeImage s).offMachine = s.offMachine := by
  have hto (st : TxnState) (u : State) : (txnTo st u).offMachine = u.offMachine := by
    simp only [txnTo, apply_ite State.offMachine, offMachine_sendIrq]; exact ite_self _
  have htxn (u : State) (x : TxnSt) : ({ u with txn := x } : State).offMachine = u.offMachine := rfl
  simp only [writeImage, txnAdvance, apply_ite State.offMachine, hto, offMachine_raise, htxn, ite_self]

theorem fwIsl_of_fwOf {n : Nat} {k : Fin 3} (h : fwOf n = some k) : fwIsl k.val = n := by
  unfold fwOf at h
  split_ifs at h <;> cases h <;> simp_all [fwIsl]

/-- A firmware island that boots on a main slot is admitted, or HELD beside an incompatible peer (R470). -/
theorem isl_enterMain {n k : Nat} (hn : n < 8) (hk : fwIsl k = n) (s : State) : (enterMain k s).isl n = .run ∨ (enterMain k s).isl n = .held := by
  unfold enterMain
  rw [hk]
  split
  · exact .inl (isl_setIsl_same s n .run hn)
  · exact .inr ((isl_of_quiet ((quiet_sendIrq _ _).trans (quiet_raise _ _ _ _ _)) n).trans (isl_setIsl_same s n .held hn))

theorem offMachine_bootIsland {n : Nat} {k : Fin 3} (h : fwOf n = some k) (s : State) : (bootIsland n s).offMachine = s.offMachine := by
  simp only [bootIsland, h, enterFw, apply_ite State.offMachine, offMachine_setIsl_fwIsl k.isLt, offMachine_enterMain k.isLt, ite_self]

theorem calm_bootIsland {n : Nat} {s : State} (h : s.calm) : (bootIsland n s).calm := by
  cases hfw : fwOf n with
  | none => simp only [bootIsland, hfw]; exact h
  | some k => exact calm_of_offMachine (offMachine_bootIsland hfw s) h

theorem offMachine_liftBack (s : State) : (liftBack s).offMachine = s.offMachine := by
  have hlift (u : State) (x : LiftSt) : ({ u with lift := x } : State).offMachine = u.offMachine := rfl
  simp only [liftBack, apply_ite State.offMachine, offMachine_enterHold, hlift, ite_self]

theorem islandView_liftBack {n : Nat} (s : State) : (liftBack s).islandView n = s.islandView n := by
  have hlift (u : State) (x : LiftSt) : ({ u with lift := x } : State).islandView n = u.islandView n := rfl
  simp only [liftBack, apply_ite (State.islandView n), islandView_enterHold, hlift, ite_self]

/-- LOG once it is back: the clock is good, the staging buffer flushed, an image that waited written. -/
def logBack (s : State) : State := writeImage (flush { s with clk.good := setB s.clk.good 9 true })

theorem offMachine_logBack (s : State) : (logBack s).offMachine = ({ s with clk.good := setB s.clk.good 9 true } : State).offMachine :=
  (offMachine_writeImage _).trans (offMachine_of_quiet (quiet_flush _))

theorem islandBack_eq (n : Nat) (s : State) : islandBack n s = if n = 1 then limitScan (restoreLive n s) else
    if n = 2 then liftBack (restoreLive n s) else if n = 5 then logBack (restoreLive n s) else restoreLive n s := rfl

theorem calm_islandBack {n : Nat} {s : State} (h : s.calm) : (islandBack n s).calm := by
  have hlive : (restoreLive n s).calm := h
  rw [islandBack_eq]
  split_ifs
  · exact calm_of_offMachine (offMachine_limitScan _) hlive
  · exact calm_of_offMachine (offMachine_liftBack _) hlive
  · exact calm_of_offMachine (offMachine_logBack _) hlive
  · exact hlive

/-- What an island does once it is back leaves its state. -/
theorem islandView_islandBack {n : Nat} (s : State) : (islandBack n s).islandView n = s.islandView n := by
  have hlive : (restoreLive n s).islandView n = s.islandView n := rfl
  rw [islandBack_eq]
  split_ifs with h1 h2 h5
  · subst h1; exact (islandView_of_offMachine (by decide) rfl (offMachine_limitScan _)).trans hlive
  · exact (islandView_liftBack _).trans hlive
  · subst h5; exact (islandView_of_offMachine (by decide) rfl (offMachine_logBack _)).trans hlive
  · exact hlive

/-- The state in which an island that was restarting boots: the time of its restart is measured. -/
def State.restartEnded (n : Nat) (s : State) : State := { s with glb.restartAt := vset s.glb.restartAt n none }

theorem exec_islandRestarted (i : Island) (s : State) : exec (.islandRestarted i) s =
    doneRIf (islNum i < 8 && s.isl (islNum i) = .restarting && !s.actRestart (islNum i)) (fun s =>
      islandBack (islNum i) (raiseBy (islNum i) 0x0103 3 (w24 (islNum i)) (sat24 (s.now - (vget s.glb.restartAt (islNum i) none).getD s.now))
        (bootIsland (islNum i) (s.restartEnded (islNum i))))) s := rfl

section
variable {s : State} {i : Island} (hn : islNum i < 8) (hr : s.isl (islNum i) = .restarting) (ha : s.actRestart (islNum i) = false) (hc : s.calm)
include hn hr ha hc

/-- ISLAND_RESTARTED leaves the island as its boot has left it. -/
theorem islandRestarted_boots : completes (.islandRestarted i) s (fun t =>
    t.islandView (islNum i) = (bootIsland (islNum i) (s.restartEnded (islNum i))).islandView (islNum i)) := by
  refine completes_of_doneRIf (exec_islandRestarted i s) (by simp [hn, hr, ha]) ?_
  have hboot : (bootIsland (islNum i) (s.restartEnded (islNum i))).calm := calm_bootIsland (by exact hc)
  generalize bootIsland _ _ = u at hboot ⊢
  generalize hw : raiseBy _ _ _ _ _ u = w
  have hq : w.quiet = u.quiet := by subst hw; exact quiet_raiseBy _ _ _ _ _ _
  obtain ⟨x, hx⟩ := quiet_sync_resume_calm (calm_islandBack (n := islNum i) (calm_of_offMachine (offMachine_of_quiet hq) hboot))
  have hready (v : State) : ({ v with host.sleepReady := x } : State).islandView (islNum i) = v.islandView (islNum i) := rfl
  rw [islandView_of_quiet hx, hready, islandView_islandBack, islandView_of_quiet hq]

theorem islandRestarted_runs (hfw : fwOf (islNum i) = none) : completes (.islandRestarted i) s (fun t =>
    t.isl (islNum i) = .run ∧ vget t.glb.restartAt (islNum i) none = none) := by
  obtain ⟨t, ht, hv⟩ := islandRestarted_boots hn hr ha hc
  simp only [bootIsland, hfw] at hv
  rw [islandView_setIsl hn] at hv
  exact ⟨t, ht, congrArg IslandView.isl hv, (congrArg IslandView.restartAt hv).trans (vget_vset_same _ hn _ _)⟩

theorem islandRestarted_recovers {k : Fin 3} (hfw : fwOf (islNum i) = some k) (hslot : (s.slots k.val).running = 2) :
    completes (.islandRestarted i) s (fun t => t.isl (islNum i) = .recovery) := by
  obtain ⟨t, ht, hv⟩ := islandRestarted_boots hn hr ha hc
  have hrec : ((s.restartEnded (islNum i)).slots k.val).running = 2 := hslot
  simp only [bootIsland, hfw, enterFw, hrec, if_true, fwIsl_of_fwOf hfw] at hv
  rw [islandView_setIsl hn] at hv
  exact ⟨t, ht, congrArg IslandView.isl hv⟩

theorem islandRestarted_admitted {k : Fin 3} (hfw : fwOf (islNum i) = some k) (hslot : (s.slots k.val).running ≠ 2) :
    completes (.islandRestarted i) s (fun t => t.isl (islNum i) = .run ∨ t.isl (islNum i) = .held) := by
  obtain ⟨t, ht, hv⟩ := islandRestarted_boots hn hr ha hc
  have hmain : ¬ ((s.restartEnded (islNum i)).slots k.val).running = 2 := hslot
  simp only [bootIsland, hfw, enterFw, hmain, if_false] at hv
  have hisl := congrArg IslandView.isl hv
  exact ⟨t, ht, (isl_enterMain hn (fwIsl_of_fwOf hfw) _).imp hisl.trans hisl.trans⟩

end

/-- Settles O37, row by row: a miss leaves `IslandView` as R92 says whatever the reaction of the island does to the machine. -/
theorem islandFaultsAct : Obligations.IslandFaultsAct :=
  ⟨fun _ _ h => ⟨islandWdt_restarts h, islandWdt_resets h⟩,
    fun _ _ hn hr ha hc => ⟨islandRestarted_runs hn hr ha hc, fun _ hfw hslot => islandRestarted_recovers hn hr ha hc hfw hslot,
      fun _ hfw hslot => islandRestarted_admitted hn hr ha hc hfw hslot⟩,
    fun _ _ hn hr ha => restartTimeout_resets hn hr ha,
    fun _ _ _ hup ha hab => ⟨handshakeTmo_restarts hup ha hab, handshakeTmo_reports hup ha hab⟩,
    fun _ h hdue => logOscFault_restarts h hdue, fun _ k h => clkFault_resets k h, fun _ h => guardClockFault_resets h⟩

end Sys2Proof.Machine
end

section
/-! Reads of BAR0 with a side effect, and accesses that BAR0 and BAR2 refuse (R75, R111, R118, R120, R147, R150, R450, R461, R497). -/

namespace Sys2Proof.Machine

theorem exec_hstWakeCauseRead (s : State) : exec .hstWakeCauseRead s = execHstWakeCauseRead s := rfl
theorem exec_hstDmaErr (s : State) : exec .hstDmaErr s = execHstDmaErr s := rfl
theorem exec_supVbusMin (s : State) : exec .supVbusMin s = execSupVbusMin s := rfl
theorem exec_supLatch (s : State) : exec .supLatch s = execSupLatch s := rfl
theorem exec_clkLatch (s : State) : exec .clkLatch s = execClkLatch s := rfl
theorem exec_logCrit (s : State) : exec .logCrit s = execLogCrit s := rfl
theorem exec_logFlush (s : State) : exec .logFlush s = execLogFlush s := rfl
theorem exec_hostBadAccess (w : Bool) (off : Nat) (s : State) : exec (.hostBadAccess w off) s = execHostBadAccess w off s := rfl
theorem exec_bar2BadRead (off n : Nat) (s : State) : exec (.bar2BadRead off n) s = execBar2BadRead off n s := rfl

/-! ### What the read-sensitive registers show -/

theorem regRead_wakeCause (s : State) : s.regRead 0x0468 = s.keep.cause.zeroExtend 32 :=
  BitVec.setWidth_setWidth (x := s.keep.cause) (v := 24) (by decide)
theorem regRead_supLatch (s : State) : s.regRead 0x0820 = s.sup.latch.zeroExtend 32 :=
  BitVec.setWidth_setWidth (x := s.sup.latch) (v := 24) (by decide)
theorem regRead_clkLatch (s : State) : s.regRead 0x0C04 = s.clk.latch.zeroExtend 32 :=
  BitVec.setWidth_setWidth (x := s.clk.latch) (v := 24) (by decide)
theorem regRead_logCrit (s : State) : s.regRead 0x6028 = s.log.crit.zeroExtend 32 :=
  BitVec.setWidth_setWidth (x := s.log.crit) (v := 24) (by decide)
theorem regRead_vbusMin (s : State) : s.regRead 0x081C = s.sup.vbusMin.zeroExtend 32 := rfl
theorem regRead_logFlush (s : State) : s.regRead 0x602C = (w24 s.log.staged.length).zeroExtend 32 := rfl

/-- HST_DMA_ERR holds the failed reads in its low byte and the failed writes in the next (Table 5-12). -/
theorem regRead_dmaErr (s : State) : s.regRead 0x0484 = (s.host.dmaErrWrite ++ s.host.dmaErrRead : BitVec 16).zeroExtend 32 := by
  have hval : s.regRead 0x0484 = (w24 (s.host.dmaErrRead.toNat + 256 * s.host.dmaErrWrite.toNat)).zeroExtend 32 := rfl
  have hr := s.host.dmaErrRead.isLt
  have hw := s.host.dmaErrWrite.isLt
  have hor : s.host.dmaErrWrite.toNat <<< 8 ||| s.host.dmaErrRead.toNat = s.host.dmaErrWrite.toNat * 2 ^ 8 + s.host.dmaErrRead.toNat := by
    rw [← Nat.shiftLeft_add_eq_or_of_lt hr, Nat.shiftLeft_eq]
  apply BitVec.eq_of_toNat_eq
  simp only [hval, BitVec.truncate_eq_setWidth, BitVec.toNat_setWidth, BitVec.toNat_ofNat, BitVec.toNat_append, hor]
  omega

/-! ### The reads -/

/-- A read of an RS register answers its value, and apart from reports only its side effect follows. -/
theorem completesAs_rsRead {c : Instr} {off : Nat} {v : W32} {f : State → State} {s t : State} (hx : exec c s = doneIf s.barUp (rsRead off f) s)
    (hup : s.barUp = true) (hv : s.regRead off = v) (hf : (f { s with resp := .sc v }).quiet = t.quiet) : completesAs c s t :=
  completesAs_of_doneIf hx hup (by rw [rsRead, hv]; exact hf)

/-- Settles O11: each read answers the register's value and then does the register's own side effect. -/
theorem readsWithSideEffects : Obligations.ReadsWithSideEffects := by
  intro s hup
  refine ⟨⟨?wakeCause, ?wakeCauseOnly⟩, ?dmaErr, ?vbusMin, ?supLatch, ?clkLatch, ⟨?logCrit, ?logCritOnly⟩, ?logFlush⟩
  case wakeCause =>
    refine completes_of_doneIf (exec_hstWakeCauseRead s) hup ⟨?_, ?_, ?_⟩
    · rw [← regRead_wakeCause]; exact (congrArg State.resp (quiet_sync _) :)
    · exact (congrArg KeepSt.since (keep_sync _) :)
    · exact (congrArg KeepSt.cause (keep_sync _) :)
  case logCrit =>
    refine completes_of_doneIf (exec_logCrit s) hup ⟨?_, ?_⟩
    · rw [← regRead_logCrit]; exact (congrArg State.resp (quiet_sync _) :)
    · exact (congrArg LogSt.crit (log_sync _) :)
  case wakeCauseOnly => exact completesAs_rsRead (exec_hstWakeCauseRead s) hup (regRead_wakeCause s) rfl
  case dmaErr => exact completesAs_rsRead (exec_hstDmaErr s) hup (regRead_dmaErr s) rfl
  case vbusMin => exact completesAs_rsRead (exec_supVbusMin s) hup (regRead_vbusMin s) rfl
  case supLatch => exact completesAs_rsRead (exec_supLatch s) hup (regRead_supLatch s) rfl
  case clkLatch => exact completesAs_rsRead (exec_clkLatch s) hup (regRead_clkLatch s) rfl
  case logCritOnly => exact completesAs_rsRead (exec_logCrit s) hup (regRead_logCrit s) rfl
  case logFlush => exact completesAs_rsRead (exec_logFlush s) hup (regRead_logFlush s) (quiet_flush _)

/-! ### The refused accesses -/

/-- A refused access changes nothing but its answer, and its record is staged where the recorder takes it at once. -/
theorem refusedAccess_completes {c : Instr} {p : Bool} {f : State → State} {w0 w1 : W24} {s u : State}
    (hx : exec c s = doneIf p f s) (hp : p = true) (hf : f s = raise 0x0309 2 w0 w1 u) (hu : ∃ r, u = { s with resp := r }) :
    completes c s (fun t => t.resp = u.resp ∧ t.quiet = u.quiet ∧ (s.records 0x0309 2 → Recorded 0x0309 2 w0 w1 s t)) := by
  have hq : (sync (f s)).quiet = u.quiet := by rw [quiet_sync, hf, quiet_raise]
  refine completes_of_doneIf hx hp ⟨(congrArg State.resp hq :), hq, fun hrec => ?_⟩
  obtain ⟨r, rfl⟩ := hu
  rw [hf]
  exact recorded_sync (recorded_raise (s := { s with resp := r }) w0 w1 hrec (by decide))

theorem bar2Bad_of_long {off n : Nat} (h : 64 < n) : bar2Bad off n = true := by
  simp only [bar2Bad, h, decide_true, Bool.true_or]

/-- A read of at least one dword that begins or ends on the other side of a window's bound is refused (R120). -/
theorem bar2Bad_of_crossing {off n : Nat} {w : Nat × Nat} (hw : w ∈ windows2) (htouch : off < w.2 ∧ w.1 < off + 4 * n)
    (hcross : off < w.1 ∨ w.2 < off + 4 * n) : bar2Bad off n = true := by
  simp only [bar2Bad, Bool.or_eq_true, List.any_eq_true]
  refine .inr ⟨w, hw, ?_⟩
  simp only [Bool.and_eq_true, Bool.not_eq_true', decide_eq_true_eq, Bool.and_eq_false_iff, decide_eq_false_iff_not]
  omega

/-- Settles O14: the guard of each row holds, and the row is one record after the answer. -/
theorem badAccessesAnswerUr : Obligations.BadAccessesAnswerUr := by
  refine ⟨fun s off hup hmsix => ?bar0, fun s off n hup halign hbad => ?bar2⟩
  case bar0 =>
    have hp : (s.barUp && !inMsix off) = true := by rw [hup, hmsix]; rfl
    exact ⟨refusedAccess_completes (exec_hostBadAccess false off s) hp rfl ⟨.ur, rfl⟩,
      refusedAccess_completes (exec_hostBadAccess true off s) hp rfl ⟨s.resp, rfl⟩⟩
  case bar2 =>
    have hcond : bar2Bad off n = true := by
      rcases hbad with h | h | h | h | h | h
      · exact bar2Bad_of_long h
      · exact bar2Bad_of_crossing (w := (0x0000, 0x0100)) (by decide) (by omega) (by omega)
      · exact bar2Bad_of_crossing (w := (0x1000, 0x1100)) (by decide) (by omega) (by omega)
      · exact bar2Bad_of_crossing (w := (0x2000, 0x2400)) (by decide) (by omega) (by omega)
      · exact bar2Bad_of_crossing (w := (0x1000, 0x1100)) (by decide) (by omega) (by omega)
      · exact bar2Bad_of_crossing (w := (0x2000, 0x2400)) (by decide) (by omega) (by omega)
    exact refusedAccess_completes (exec_bar2BadRead off n s) (by simp [hup, halign, hcond]) rfl ⟨.ur, rfl⟩

end Sys2Proof.Machine
end

section
/-! RUN, the stop of the rings, and polls (R122, R124, R128, R134, R135, R137, R150, R151, R183, Table 5-4). -/

namespace Sys2Proof.Machine

theorem exec_hostRun (l : Doorbell) (ok : Bool) (s : State) : exec (.hostRun l ok) s = execHostRun l ok s := rfl
theorem exec_hostStop (s : State) : exec .hostStop s = execHostStop s := rfl
theorem exec_poll (l : Option Doorbell) (f : List (Byte × Desc)) (s : State) : exec (.poll l f) s = execPoll l f s := rfl

/-! ### The transaction that rolls back -/

theorem txn_of_rest {s t : State} (h : t.rest = s.rest) : t.txn = s.txn := (congrArg State.txn h :)

theorem txn_of_quiet {s t : State} (h : t.quiet = s.quiet) : t.txn = s.txn := txn_of_rest (rest_of_quiet h)

@[simp] theorem txn_raise (c : W16) (v : Nat) (a b : W24) (s : State) : (raise c v a b s).txn = s.txn := txn_of_quiet (quiet_raise c v a b s)

@[simp] theorem txn_finishC (x : Byte) (r : Ref) (st : Status) (w : W24) (e : Byte) (s : State) : (finishC x r st w e s).txn = s.txn :=
  txn_of_rest (rest_finishC x r st w e s)

theorem txn_txnTo (st : TxnState) (s : State) : (txnTo st s).txn = { s.txn with st := st } := by
  simp only [txnTo]
  split
  · next h => rw [← h]
  · exact txn_of_quiet (quiet_sendIrq 7 _)

theorem staged_discardShares (s : State) : (discardShares s).txn.staged = [] := rfl

/-- A rollback leaves its cause and the failing island, and nothing staged (R205). -/
theorem rollback_leaves (c i : Nat) (s : State) : (rollback c i s).txn.st = .rolledBack ∧ (rollback c i s).txn.failCause = BitVec.ofNat 4 c ∧
    (rollback c i s).txn.failIsl = BitVec.ofNat 4 i ∧ (rollback c i s).txn.staged = [] := by
  simp only [rollback, txn_txnTo]
  split <;> simp only [txn_finishC, txn_raise, staged_discardShares, and_self]

theorem txnHostStop_of_opened {s : State} (h : s.txn.st = .opened) : txnHostStop s = rollback 6 15 s := if_pos h

theorem txnHostStop_of_not_opened {s : State} (h : s.txn.st ≠ .opened) : txnHostStop s = s := if_neg h

/-! ### What stands at the decoder -/

/-- What stands at the decoder: the fetched descriptors, the one whose decode waits, and those announced. -/
def State.atDecoder (s : State) : List (Byte × Desc) × Option Block × Nat := (s.ring.backlog, s.ring.block, s.ring.announced)

theorem atDecoder_of_quiet {s t : State} (h : t.quiet = s.quiet) : t.atDecoder = s.atDecoder := (congrArg State.atDecoder h :)

theorem atDecoder_finishC (x : Byte) (r : Ref) (st : Status) (w : W24) (e : Byte) (s : State) : (finishC x r st w e s).atDecoder = s.atDecoder := by
  simp only [finishC]
  split
  · split
    · rfl
    · rw [atDecoder_of_quiet (quiet_putDone _ _ _ _)]; rfl
  · rfl

theorem atDecoder_rollback (c i : Nat) (s : State) : (rollback c i s).atDecoder = s.atDecoder := by
  have hshares : (discardShares (if s.committing = true then imageAbort s else s)).atDecoder = s.atDecoder := by
    simp only [discardShares]; split <;> split <;> rfl
  have hto (st : TxnState) (u : State) : (txnTo st u).atDecoder = u.atDecoder := by
    simp only [txnTo]
    split
    · rfl
    · rw [atDecoder_of_quiet (quiet_sendIrq 7 _)]; rfl
  simp only [rollback, hto]
  split
  · exact (atDecoder_of_quiet (quiet_raise _ _ _ _ _)).trans hshares
  · exact (atDecoder_finishC _ _ _ _ _ _).trans ((atDecoder_of_quiet (quiet_raise _ _ _ _ _)).trans hshares)

theorem atDecoder_txnHostStop (s : State) : (txnHostStop s).atDecoder = s.atDecoder := by
  simp only [txnHostStop, apply_ite State.atDecoder, atDecoder_rollback, ite_self]

/-! ### The end of a stop -/

/-- The state with nothing at the decoder, and no entry that waits for DMA. -/
def State.undecoded (s : State) : State := { s with ring.backlog := [], ring.announced := 0, ring.block := none, ring.waiting := [] }

theorem endStop_eq (s : State) : endStop s =
    (mirrorNowSent (raise 0x0302 2 (txnHostStop s.undecoded).ring.cmdCons 0 (txnHostStop s.undecoded))).withRunning false false false := by
  simp only [endStop, State.withRunning, State.undecoded]

theorem atDecoder_withRunning (a b c : Bool) (s : State) : (s.withRunning a b c).atDecoder = s.atDecoder := rfl

theorem txn_withRunning (a b c : Bool) (s : State) : (s.withRunning a b c).txn = s.txn := rfl

/-- The end of a stop drops whatever stands at the decoder (R124). -/
theorem atDecoder_endStop (s : State) : (endStop s).atDecoder = ([], none, 0) := by
  rw [endStop_eq, atDecoder_withRunning, atDecoder_of_quiet (quiet_mirrorNowSent _), atDecoder_of_quiet (quiet_raise _ _ _ _ _),
    atDecoder_txnHostStop]
  rfl

theorem txn_endStop (s : State) : (endStop s).txn = (txnHostStop s.undecoded).txn := by
  rw [endStop_eq, txn_withRunning, txn_of_quiet (quiet_mirrorNowSent _), txn_raise]

/-- What the end of a stop leaves of HOST: RUNNING clear, and what it does not reach. -/
theorem host_endStop {s t : State} (hq : t.quiet = (endStop s).quiet) : t.host.running = false ∧ t.host.run = s.host.run ∧
    t.host.gen = s.host.gen ∧ t.host.genChanged = s.host.genChanged ∧ t.host.dmaFault = s.host.dmaFault ∧
    t.host.dmaErrWrite = s.host.dmaErrWrite := by
  have hhost := congrArg State.host ((outsideHost_of_quiet hq).trans (outsideHost_endStop s))
  exact ⟨(congrArg HostSt.running hhost :), (congrArg HostSt.run hhost :), (congrArg HostSt.gen hhost :), (congrArg HostSt.genChanged hhost :),
    (congrArg HostSt.dmaFault hhost :), (congrArg HostSt.dmaErrWrite hhost :)⟩

/-- With no descriptor in decode, RUN cleared is the end of the stop (R124). -/
theorem stopRun_of_idle {s : State} (hrun : s.host.run = true) (hi : s.decoderIdle = true) : stopRun s = endStop { s with host.run := false } := by
  simp only [stopRun, hrun, Bool.not_true, Bool.false_eq_true, if_false]
  unfold State.decoderIdle at hi
  split at hi <;> simp_all

/-- With a descriptor in decode the stop waits (R124). -/
theorem stopRun_of_busy {s : State} (hrun : s.host.run = true) (hi : s.decoderIdle = false) :
    stopRun s = { s with host.run := false, host.stopping := true } := by
  simp only [stopRun, hrun, Bool.not_true, Bool.false_eq_true, if_false]
  unfold State.decoderIdle at hi
  split at hi <;> simp_all

theorem hostStop_ends {s : State} (hup : s.barUp = true) (hrun : s.host.run = true) (hi : s.decoderIdle = true) :
    completes .hostStop s (fun t => t.host.run = false ∧ t.host.running = false ∧ t.ring.backlog = [] ∧ t.ring.block = none ∧
      t.ring.announced = 0 ∧ (s.txn.st = .opened → t.txn.st = .rolledBack)) := by
  refine completes_of_doneIf (exec_hostStop s) (by rw [hup, hrun]; rfl) ?_
  have hq := quiet_sync (stopRun s)
  generalize sync (stopRun s) = t at hq ⊢
  rw [stopRun_of_idle hrun hi] at hq
  obtain ⟨hrunning, hrun', -⟩ := host_endStop hq
  have hdec := (atDecoder_of_quiet hq).trans (atDecoder_endStop _)
  refine ⟨hrun', hrunning, (congrArg Prod.fst hdec :), (congrArg (·.2.1) hdec :), (congrArg (·.2.2) hdec :), fun hopen => ?_⟩
  rw [txn_of_quiet hq, txn_endStop, txnHostStop_of_opened (by exact hopen)]
  exact (rollback_leaves 6 15 _).1

/-! ### RUN -/

theorem quiet_silStart (s : State) : (silStart s).quiet = (silStart s.quiet).quiet := rfl

/-- The heartbeat of a doorbell line touches the heartbeat kept and the host-silence timer alone, and the timer stays armed (R137, R141). -/
theorem quiet_takeBeat (w : W24) (s : State) : ∃ b x, (takeBeat w s).quiet = ({ s with ring.beat := b, sil := x } : State).quiet ∧
    x.armed = s.sil.armed := by
  unfold takeBeat
  split
  · exact ⟨some w, s.sil, rfl, rfl⟩
  · split
    · exact ⟨s.ring.beat, s.sil, rfl, rfl⟩
    · simp only [beatSeen]
      split
      · exact ⟨some w, { s.sil with active := false, park := false, suspended := false, began := s.now },
          by rw [quiet_silStart, quiet_raise]; rfl, rfl⟩
      · exact ⟨some w, _, rfl, rfl⟩

theorem armed_of_quiet {s t : State} (h : t.quiet = s.quiet) : t.sil.armed = s.sil.armed := (congrArg (fun u : State => u.sil.armed) h :)

/-- The rings as RUN starts them: from index 0, nothing at the decoder, with the doorbell's generation and the parameters' event minimums
(R122, R183). -/
structure RingsStarted (l : Doorbell) (s t : State) : Prop where
  run : t.host.run = true
  running : t.host.running = true
  gen : t.host.gen = l.gen
  setupErr : t.host.setupErr = s.host.setupErr
  cmdCons : t.ring.cmdCons = 0
  cplProd : t.ring.cplProd = 0
  cpl : t.ring.cpl = []
  backlog : t.ring.backlog = []
  block : t.ring.block = none
  minSev : t.ring.minSev = Vector.ofFn (fun (k : Fin 14) => s.pn (0x0810 + k.val))

/-- What RUN has set stays whatever is reported, and whatever becomes of the heartbeat kept and the host-silence timer. -/
theorem ringsStarted_of_quiet {l : Doorbell} {s u t : State} {b : Option W24} {x : SilenceSt} (h : RingsStarted l s u)
    (hq : t.quiet = ({ u with ring.beat := b, sil := x } : State).quiet) : RingsStarted l s t where
  run := (congrArg (fun v : State => v.host.run) hq :).trans h.run
  running := (congrArg (fun v : State => v.host.running) hq :).trans h.running
  gen := (congrArg (fun v : State => v.host.gen) hq :).trans h.gen
  setupErr := (congrArg (fun v : State => v.host.setupErr) hq :).trans h.setupErr
  cmdCons := (congrArg (fun v : State => v.ring.cmdCons) hq :).trans h.cmdCons
  cplProd := (congrArg (fun v : State => v.ring.cplProd) hq :).trans h.cplProd
  cpl := (congrArg (fun v : State => v.ring.cpl) hq :).trans h.cpl
  backlog := (congrArg (fun v : State => v.ring.backlog) hq :).trans h.backlog
  block := (congrArg (fun v : State => v.ring.block) hq :).trans h.block
  minSev := (congrArg (fun v : State => v.ring.minSev) hq :).trans h.minSev

theorem ringsStarted_takeBeat {l : Doorbell} {w : W24} {s u t : State} (hq : t.quiet = (takeBeat w u).quiet)
    (h : RingsStarted l s u) (ha : u.sil.armed = true) : RingsStarted l s t ∧ t.sil.armed = true := by
  obtain ⟨b, x, hbeat, harmed⟩ := quiet_takeBeat w u
  have ht := hq.trans hbeat
  exact ⟨ringsStarted_of_quiet h ht, (armed_of_quiet ht :).trans (harmed.trans ha)⟩

theorem runRings_starts (l : Doorbell) (s : State) {t : State} (hq : t.quiet = (runRings l s).quiet) :
    RingsStarted l s t ∧ t.sil.armed = true := by
  simp only [runRings, quiet_raise, quiet_mirrorNowSent] at hq
  split at hq
  · next h => exact ringsStarted_takeBeat hq ⟨rfl, rfl, rfl, rfl, rfl, rfl, rfl, rfl, rfl, rfl⟩ h
  · exact ringsStarted_takeBeat hq ⟨rfl, rfl, rfl, rfl, rfl, rfl, rfl, rfl, rfl, rfl⟩ rfl

/-- The state in which set-up is judged: the results of an earlier one cleared, a suspended host-silence timer begun anew. -/
def State.setUpBegun (s : State) : State :=
  unsuspend { s with host.setupErr := false, host.errCode := 0, host.dmaFault := false, host.genChanged := false }

theorem setUpBegun_eq (s : State) : ∃ x, s.setUpBegun =
    { s with host.setupErr := false, host.errCode := 0, host.dmaFault := false, host.genChanged := false, sil := x } := by
  obtain ⟨x, hx, -⟩ := unsuspend_eq { s with host.setupErr := false, host.errCode := 0, host.dmaFault := false, host.genChanged := false }
  exact ⟨x, hx⟩

theorem setupCode_setUpBegun (ok : Bool) (s : State) : s.setUpBegun.setupCode ok = s.setupCode ok := by
  obtain ⟨x, hx⟩ := setUpBegun_eq s
  rw [hx]; rfl

theorem setUp_passed (l : Doorbell) {ok : Bool} {s : State} (h : s.setupCode ok = 0) : setUp l ok s = runRings l s.setUpBegun := by
  rw [← setupCode_setUpBegun] at h
  simp only [setUp]
  exact if_pos h

theorem dmaCount_eq (w : Bool) (s : State) : ∃ x y, dmaCount w s = { s with host.dmaErrRead := x, host.dmaErrWrite := y } := by
  cases w
  · exact ⟨_, s.host.dmaErrWrite, rfl⟩
  · exact ⟨s.host.dmaErrRead, _, rfl⟩

/-- A line that could not be read is reported as a failed DMA read too (Table 5-4, R151). -/
def lineFault (c : Nat) (s : State) : State :=
  if c = 7 then raise 0x0307 5 0 0 (dmaCount false { s with host.dmaFault := true }) else s

theorem quiet_lineFault (c : Nat) (s : State) : ∃ f x y, (lineFault c s).quiet =
    ({ s with host.dmaFault := f, host.dmaErrRead := x, host.dmaErrWrite := y } : State).quiet := by
  unfold lineFault
  split
  · obtain ⟨x, y, h⟩ := dmaCount_eq false { s with host.dmaFault := true }
    exact ⟨true, x, y, by rw [quiet_raise, h]⟩
  · exact ⟨s.host.dmaFault, s.host.dmaErrRead, s.host.dmaErrWrite, rfl⟩

/-- SETUP_ERR with the code of the failing check (Table 5-12). -/
def State.withSetupErr (c : Nat) (s : State) : State := { s with host.setupErr := true, host.errCode := BitVec.ofNat 3 c }

theorem quiet_withSetupErr (c : Nat) (s : State) : (s.withSetupErr c).quiet = (s.quiet.withSetupErr c).quiet := rfl

theorem setUp_failed (l : Doorbell) {ok : Bool} {s : State} (h : s.setupCode ok ≠ 0) : setUp l ok s =
    raise 0x0303 3 (w24 (s.setupCode ok)) 0 ((lineFault (s.setupCode ok) s.setUpBegun).withSetupErr (s.setupCode ok)) := by
  rw [← setupCode_setUpBegun] at h ⊢
  simp only [setUp]
  exact if_neg h

/-- A failing check leaves HOST as it was but for the report of its code (R122, Table 5-4). -/
theorem host_setUp_failed (l : Doorbell) {ok : Bool} {s t : State} (h : s.setupCode ok ≠ 0) (hq : t.quiet = (setUp l ok s).quiet) :
    t.host.run = s.host.run ∧ t.host.running = s.host.running ∧ t.host.setupErr = true ∧ t.host.errCode = BitVec.ofNat 3 (s.setupCode ok) := by
  obtain ⟨x, hx⟩ := setUpBegun_eq s
  obtain ⟨f, y, z, hline⟩ := quiet_lineFault (s.setupCode ok) s.setUpBegun
  rw [setUp_failed l h, quiet_raise, quiet_withSetupErr, hline, hx] at hq
  exact ⟨(congrArg (fun u : State => u.host.run) hq :), (congrArg (fun u : State => u.host.running) hq :),
    (congrArg (fun u : State => u.host.setupErr) hq :), (congrArg (fun u : State => u.host.errCode) hq :)⟩

theorem mayRun_stopped {s : State} (h : s.mayRun = true) : s.host.run = false ∧ s.host.running = false := by
  simp only [State.mayRun, Bool.and_eq_true, Bool.not_eq_true'] at h
  exact ⟨h.1.2, h.2⟩

section
variable {s : State} {l : Doorbell} {ok : Bool} (hmay : s.mayRun = true) (hlink : s.host.link = .l0 ∨ s.host.link = .l1) (hd : s.host.d3hot = false)
include hmay hlink hd

theorem hostRun_allowed : (s.mayRun && (s.host.link = .l0 || s.host.link = .l1) && !s.host.d3hot) = true := by
  rw [hmay, hd]; simpa using hlink

/-- RUN with every check of Table 5-4 passed (R122, R137, R183). -/
theorem hostRun_starts (h : s.setupCode ok = 0) : completes (.hostRun l ok) s (fun t => RingsStarted l s.setUpBegun t ∧ t.sil.armed = true) := by
  refine completes_of_doneIf (exec_hostRun l ok s) (hostRun_allowed hmay hlink hd) ?_
  rw [setUp_passed l h]
  exact runRings_starts l s.setUpBegun (quiet_sync _)

theorem hostRun_reports (h : s.setupCode ok ≠ 0) : completes (.hostRun l ok) s (fun t =>
    t.host.run = false ∧ t.host.running = false ∧ t.host.setupErr = true ∧ t.host.errCode = BitVec.ofNat 3 (s.setupCode ok)) := by
  refine completes_of_doneIf (exec_hostRun l ok s) (hostRun_allowed hmay hlink hd) ?_
  obtain ⟨hrun, hrunning, herr⟩ := host_setUp_failed l h (quiet_sync (setUp l ok s))
  exact ⟨hrun.trans (mayRun_stopped hmay).1, hrunning.trans (mayRun_stopped hmay).2, herr⟩

end

/-- Settles O15: RUN starts the rings or reports its failing check, and a stop ends at once or waits for the decoder. -/
theorem runAndStop : Obligations.RunAndStop := by
  refine ⟨fun s l ok hmay hlink hd h => ?starts, fun s l ok hmay hlink hd h => hostRun_reports hmay hlink hd h,
    fun s hup hrun hi => hostStop_ends hup hrun hi, fun s hup hrun hi => ?waits⟩
  case starts =>
    obtain ⟨t, hx, hstart, harmed⟩ := hostRun_starts (l := l) hmay hlink hd h
    obtain ⟨x, hbegun⟩ := setUpBegun_eq s
    have herr : s.setUpBegun.host.setupErr = false := by rw [hbegun]
    have hpn (p : Nat) : s.setUpBegun.pn p = s.pn p := by rw [hbegun]; rfl
    have hmin := hstart.minSev
    simp only [hpn] at hmin
    exact ⟨t, hx, hstart.run, hstart.running, hstart.gen, hstart.cmdCons, hstart.cplProd, hstart.cpl, hstart.backlog, hstart.block, harmed,
      hstart.setupErr.trans herr, hmin⟩
  case waits => exact completesAs_of_doneIf (exec_hostStop s) (by rw [hup, hrun]; rfl) (by rw [stopRun_of_busy hrun hi])

/-! ### Polls -/

theorem mayPoll_running {s : State} (h : s.mayPoll = true) : s.host.run = true ∧ s.host.stopping = false := by
  simp only [State.mayPoll, Bool.and_eq_true, Bool.not_eq_true'] at h
  exact ⟨h.1.1.1.1.1, h.1.1.1.2⟩

theorem nextInterval_eq (act urgent : Bool) (s : State) : ∃ n v,
    nextInterval act urgent s = { s with ring.lastActivity := n, host.pollNow := v } := by
  cases act
  · exact ⟨s.ring.lastActivity, _, rfl⟩
  · exact ⟨s.now, _, rfl⟩

theorem takeBeat_same {w : W24} {s : State} (h : s.ring.beat = some w) : takeBeat w s = s := by
  simp only [takeBeat, h, if_true]

theorem fetchList_nil (s : State) : fetchList [] s = s := by
  simp [fetchList]

theorem reportMissed_of_none {s : State} (h : s.ring.evtMissed = 0) : reportMissed s = s := by
  simp only [reportMissed, h, decide_true, Bool.true_or, if_true]

theorem dmaCount_read {s : State} (h : s.host.dmaErrRead ≠ 0xFF) : dmaCount false s = { s with host.dmaErrRead := s.host.dmaErrRead + 1 } := by
  simp only [dmaCount, Bool.false_eq_true, if_false, if_neg (show ¬ s.host.dmaErrRead = 0xFF#8 from h)]

theorem dmaCount_write {s : State} (h : s.host.dmaErrWrite ≠ 0xFF) : dmaCount true s = { s with host.dmaErrWrite := s.host.dmaErrWrite + 1 } := by
  simp only [dmaCount, if_true, if_neg (show ¬ s.host.dmaErrWrite = 0xFF#8 from h)]

/-- A failed read of the doorbell line: counted, shown in HST_STATUS, and logged once for a run of them (R151). -/
theorem poll_fails {s : State} (hp : s.mayPoll = true) (hc : s.host.dmaErrRead ≠ 0xFF) : completes (.poll none []) s (fun t =>
    t.host.dmaFault = true ∧ t.host.dmaErrRead = s.host.dmaErrRead + 1 ∧ t.host.run = true) := by
  refine completes_of_doneIf (exec_poll none [] s) hp ?_
  have hcount := dmaCount_read (s := { s with host.dmaFault := true, ring.readRun := true }) hc
  simp only [pollFail, hcount]
  generalize hu : ({ s with host.dmaFault := true, ring.readRun := true, host.dmaErrRead := s.host.dmaErrRead + 1 } : State) = u
  generalize hv : (if s.ring.readRun = true then u else raise 0x0307 5 0 0 u) = v
  have hvu : v.quiet = u.quiet := by subst hv; exact quiet_ite _ _ _ _ rfl (quiet_raise _ _ _ _ u)
  obtain ⟨n, w, hnext⟩ := nextInterval_eq false false v
  have hq := quiet_sync (nextInterval false false v)
  generalize sync _ = t at hq ⊢
  rw [hnext] at hq
  have hrun : u.host.run = true := by subst hu; exact (mayPoll_running hp).1
  exact ⟨(congrArg (fun x : State => x.host.dmaFault) hq :).trans ((congrArg (fun x : State => x.host.dmaFault) hvu :).trans (by subst hu; rfl)),
    (congrArg (fun x : State => x.host.dmaErrRead) hq :).trans ((congrArg (fun x : State => x.host.dmaErrRead) hvu :).trans (by subst hu; rfl)),
    (congrArg (fun x : State => x.host.run) hq :).trans ((congrArg (fun x : State => x.host.run) hvu :).trans hrun)⟩

/-- A line with another generation stops the rings (R128). -/
theorem poll_stops {s : State} {l : Doorbell} (hp : s.mayPoll = true) (hgen : l.gen ≠ s.host.gen) (hi : s.decoderIdle = true) :
    completes (.poll (some l) []) s (fun t => t.host.genChanged = true ∧ t.host.run = false ∧ t.host.running = false ∧ t.host.gen = s.host.gen) := by
  refine completes_of_doneIf (exec_poll (some l) [] s) hp ?_
  have hne : (l.gen != s.host.gen) = true := by simpa using hgen
  simp only [pollLine, hne, if_true]
  obtain ⟨b, x, hbeat, -⟩ := quiet_takeBeat l.beat { s with ring.readRun := false }
  generalize takeBeat l.beat _ = u at hbeat ⊢
  generalize hv : raise 0x0306 3 s.host.gen l.gen { u with host.genChanged := true } = v
  have hvu : v.quiet = ({ u with host.genChanged := true } : State).quiet := by subst hv; exact quiet_raise _ _ _ _ _
  have hrun : v.host.run = true :=
    (congrArg (fun y : State => y.host.run) hvu :).trans ((congrArg (fun y : State => y.host.run) hbeat :).trans (mayPoll_running hp).1)
  have hidle : v.decoderIdle = true := (congrArg State.decoderIdle hvu :).trans ((congrArg State.decoderIdle hbeat :).trans hi)
  have hq := quiet_sync (stopRun v)
  generalize sync (stopRun v) = t at hq ⊢
  rw [stopRun_of_idle hrun hidle] at hq
  obtain ⟨hrunning, hrun', hg, hchanged, -⟩ := host_endStop hq
  exact ⟨hchanged.trans (congrArg (fun y : State => y.host.genChanged) hvu :), hrun', hrunning,
    hg.trans ((congrArg (fun y : State => y.host.gen) hvu :).trans (congrArg (fun y : State => y.host.gen) hbeat :))⟩

/-- The state in which the indices of a doorbell line are judged: its flags taken (R130, R135). -/
def State.flagsTaken (l : Doorbell) (s : State) : State :=
  { s with ring.readRun := false, ring.sleepReq := l.sleepReq, host.sleepReady := s.host.sleepReady && l.sleepReq, ring.urgentSeen := false }

/-- A line with the generation in force, no more descriptors than the ring holds and the heartbeat known already (R128, R135, R156). -/
theorem pollLine_good {s : State} {l : Doorbell} (f : List (Byte × Desc)) (hgen : l.gen = s.host.gen)
    (hfit : (l.cmdProd - s.ring.cmdCons).toNat ≤ s.ringEntries 0) (hbeat : s.ring.beat = some l.beat) :
    ∃ act, pollLine l f s = nextInterval act l.urgent (resume (pollGood l f (s.flagsTaken l))) := by
  have hsame : takeBeat l.beat { s with ring.readRun := false } = { s with ring.readRun := false } := takeBeat_same hbeat
  have hgood : decide (s.ringEntries 0 < (l.cmdProd - s.ring.cmdCons).toNat) = false := by simpa using hfit
  simp only [pollLine, hsame, hgen, bne_self_eq_false, hgood, Bool.false_eq_true, if_false]
  exact ⟨_, rfl⟩

/-- The indices of a good line taken while no event was missed, and nothing fetched. -/
theorem pollGood_nil (l : Doorbell) {s : State} (h : s.ring.evtMissed = 0) : ∃ b, pollGood l [] s = { s with
    ring.cmdProd := l.cmdProd, ring.cplCons := l.cplCons, ring.evtCons := l.evtCons, ring.badRun := false, ring.stalled := b
    ring.announced := if l.sleepReq then 0 else ({ s with ring.cmdProd := l.cmdProd } : State).toFetch } := by
  rw [pollGood, fetchList_nil]
  simp only [takeIndices]
  exact ⟨_, reportMissed_of_none h⟩

theorem toFetch_of_empty {s : State} (hb : s.ring.backlog = []) (hk : s.ring.block = none) :
    s.toFetch = (s.ring.cmdProd - s.ring.cmdCons).toNat := by
  simp only [State.toFetch, hb, hk, List.length_nil, Nat.sub_zero]

theorem poll_announces {s : State} {l : Doorbell} (hp : s.mayPoll = true) (hgen : l.gen = s.host.gen)
    (hfit : (l.cmdProd - s.ring.cmdCons).toNat ≤ s.ringEntries 0) (hsleep : l.sleepReq = false) (hbeat : s.ring.beat = some l.beat)
    (hmiss : s.ring.evtMissed = 0) (hb : s.ring.backlog = []) (hk : s.ring.block = none) (h3 : s.host.d3Due = false) (hpme : s.host.pmeDue = false) :
    completes (.poll (some l) []) s (fun t => t.ring.cmdProd = l.cmdProd ∧ t.ring.cplCons = l.cplCons ∧ t.ring.evtCons = l.evtCons ∧
      t.ring.announced = (l.cmdProd - s.ring.cmdCons).toNat ∧ t.ring.cmdCons = s.ring.cmdCons ∧ t.ring.sleepReq = false) := by
  refine completes_of_doneIf (exec_poll (some l) [] s) hp ?_
  obtain ⟨act, hline⟩ := pollLine_good [] hgen hfit hbeat
  obtain ⟨b, hgood⟩ := pollGood_nil l (s := s.flagsTaken l) hmiss
  have hcalm : (pollGood l [] (s.flagsTaken l)).calm := by
    rw [hgood]; exact ⟨hb, h3, hpme, (mayPoll_running hp).2⟩
  obtain ⟨x, hsync⟩ := sleepSync_eq (pollGood l [] (s.flagsTaken l))
  obtain ⟨n, v, hnext⟩ := nextInterval_eq act l.urgent { pollGood l [] (s.flagsTaken l) with host.sleepReady := x }
  have hq := quiet_sync (pollLine l [] s)
  generalize sync (pollLine l [] s) = t at hq
  rw [hline, resume_calm hcalm, hsync, hnext, hgood, hsleep, toFetch_of_empty (by exact hb) (by exact hk)] at hq
  exact ⟨(congrArg (fun y : State => y.ring.cmdProd) hq :), (congrArg (fun y : State => y.ring.cplCons) hq :),
    (congrArg (fun y : State => y.ring.evtCons) hq :), (congrArg (fun y : State => y.ring.announced) hq :),
    (congrArg (fun y : State => y.ring.cmdCons) hq :), (congrArg (fun y : State => y.ring.sleepReq) hq :).trans hsleep⟩

/-- Settles O16: a good line is taken, one with another generation stops the rings, and a failed read is counted. -/
theorem pollTakesTheLine : Obligations.PollTakesTheLine :=
  ⟨fun _ _ hp hgen hfit hsleep hbeat hmiss hb hk h3 hpme => poll_announces hp hgen hfit hsleep hbeat hmiss hb hk h3 hpme,
    fun _ _ hp hgen hi => poll_stops hp hgen hi, fun _ hp hc => poll_fails hp hc⟩

end Sys2Proof.Machine
end

section
/-! Fences, stalls, bulk copies, DMA faults, mirror writes and the ends of moderation intervals (R131, R132, R143, R151, R159, R162, R179 to R181). -/

namespace Sys2Proof.Machine

/-! ### The rows -/

theorem exec_fenceRelease (s : State) : exec .fenceRelease s = execFenceRelease s := rfl
theorem exec_cplRingStall (s : State) : exec .cplRingStall s = execCplRingStall s := rfl
theorem exec_bulkCopyStart (s : State) : exec .bulkCopyStart s = execBulkCopyStart s := rfl
theorem exec_bulkCopyDone (ok : Bool) (s : State) : exec (.bulkCopyDone ok) s = execBulkCopyDone ok s := rfl
theorem exec_mirrorWrite (s : State) : exec .mirrorWrite s = execMirrorWrite s := rfl
theorem exec_irqModerationEnd (e : Bool) (s : State) : exec (.irqModerationEnd e) s = execIrqModerationEnd e s := rfl

theorem exec_hostDmaFault_command (s : State) : exec (.hostDmaFault .command) s =
    doneIf (s.host.running && s.hostUp && s.dmaOpen) (dmaEvent false 1) s := rfl

/-- A failed write of a completion, an event or the mirror (R151). -/
theorem exec_hostDmaFault_write {k : DmaStruct} (h : k = .completion ∨ k = .event ∨ k = .mirror) (s : State) : exec (.hostDmaFault k) s =
    doneIf (s.host.running && s.hostUp && s.dmaOpen) (fun s => stopRun (dmaEvent true (dmaNum k) { s with host.dmaFault := true })) s := by
  rcases h with rfl | rfl | rfl <;> rfl

/-! ### A fence released -/

/-- The state in which a descriptor that waited under FENCE is decoded. -/
def State.fenceEnded (d : Desc) (s : State) : State :=
  { s with ring.block := none, ring.cmdCons := s.ring.cmdCons + 1, ring.urgentSeen := s.ring.urgentSeen || dUrgent d }

theorem exec_fenceRelease_of_fence {s : State} {op : Byte} {d : Desc} (h : s.ring.block = some (.fence op d)) : exec .fenceRelease s =
    doneRIf (s.ring.outstanding.isEmpty && ({ s with ring.block := none } : State).canDecode)
      (fun s => consume op d { s with ring.block := none }) s := by
  rw [exec_fenceRelease, execFenceRelease]
  split
  · next op' d' h' =>
    obtain ⟨rfl, rfl⟩ : op' = op ∧ d' = d := by simpa using h'.symm.trans h
    rfl
  · next hno => exact absurd h (hno op d)

/-- Once nothing waits for the decoder and no sleep request stands, nothing follows. -/
theorem resume_of_calm_awake {s : State} (h : s.calm) (hs : s.ring.sleepReq = false) : resume s = s :=
  (resume_calm h).trans (sleepSync_false s hs)

theorem canDecode_open {s : State} (h : s.canDecode = true) : s.host.running = true ∧ s.host.stopping = false ∧ s.dmaOpen = true := by
  simp only [State.canDecode, Bool.and_eq_true, Bool.not_eq_true'] at h
  exact ⟨h.1.1.1.1.1.1, h.1.1.1.1.1.2, h.1.1.1.2⟩

theorem decodeOp_nop_accepted {d : Desc} {s : State} (hs : s.serves 0x01) (hf : formOk d false false m0 m0 m0 m0 m0 = true) :
    decodeOp 0x01 d s = acceptOk 0x01 d 0 0 s := by
  show gate 0x01 d _ s _ = _
  rw [hf, gate_serves 0x01 d s _ hs]

theorem fenceRelease_decodes {s : State} {d : Desc} (hblock : s.ring.block = some (.fence 0x01 d)) (hout : s.ring.outstanding = [])
    (hb : s.ring.backlog = []) (hdec : ({ s with ring.block := none } : State).canDecode = true) (hawake : s.ring.sleepReq = false)
    (h3 : s.host.d3Due = false) (hp : s.host.pmeDue = false) (hserves : s.serves 0x01) (hform : formOk d false false m0 m0 m0 m0 m0 = true) :
    acceptsOk .fenceRelease 0x01 d 0 0 s (fun t => t.ring.block = none ∧ t.ring.cmdCons = s.ring.cmdCons + 1) := by
  refine completes_of_doneRIf (exec_fenceRelease_of_fence hblock) (by rw [hout, hdec]; rfl) ?_
  have hmean : consume 0x01 d { s with ring.block := none } = acceptOk 0x01 d 0 0 (s.fenceEnded d) :=
    decodeOp_nop_accepted (s := s.fenceEnded d) hserves hform
  obtain ⟨hrunning, hstop, hopen⟩ := canDecode_open hdec
  obtain ⟨hj, hc, j, l, p, o, hadd⟩ :=
    acceptOk_spec 0x01 d 0 0 (s := s) (u := s.fenceEnded d) ⟨rfl, rfl, rfl, rfl, rfl, hrunning, hopen, hawake⟩
  rw [hmean]
  generalize acceptOk 0x01 d 0 0 (s.fenceEnded d) = v at hj hc hadd ⊢
  have hcalm : v.calm := ⟨(congrArg (fun u : State => u.ring.backlog) hadd :).trans hb, (congrArg (fun u : State => u.host.d3Due) hadd :).trans h3,
    (congrArg (fun u : State => u.host.pmeDue) hadd :).trans hp, (congrArg (fun u : State => u.host.stopping) hadd :).trans hstop⟩
  rw [resume_of_calm_awake hcalm ((congrArg (fun u : State => u.ring.sleepReq) hadd :).trans hawake)]
  have hq := quiet_sync v
  have ht := hq.trans hadd
  exact ⟨journaled_of_quiet hj hq, completed_of_quiet hc hq, (congrArg (fun u : State => u.ring.block) ht :),
    (congrArg (fun u : State => u.ring.cmdCons) ht :)⟩

/-! ### Bulk copies -/

/-- The first waiting copy runs, with the snapshot of its start (R180). -/
def State.copyBegun (j : BulkJob) (rest : List BulkJob) (s : State) : State :=
  { s with ring.bulkWait := rest, ring.bulkRun := some (j, s.copyOf j) }

theorem exec_bulkCopyStart_of_waiting {s : State} {j : BulkJob} {rest : List BulkJob} (hw : s.ring.bulkWait = j :: rest) :
    exec .bulkCopyStart s = doneIf (s.ring.bulkRun.isNone && s.hostUp && s.dmaOpen && (j.ref.op != 0x5B#8 || s.logUp))
      (fun s => (if j.ref.op = 0x5B#8 then flush s else s).copyBegun j rest) s := by
  rw [exec_bulkCopyStart, execBulkCopyStart, hw]; rfl

theorem bulkCopyStart_starts {s : State} {j : BulkJob} {rest : List BulkJob} (hw : s.ring.bulkWait = j :: rest) (hr : s.ring.bulkRun = none)
    (hup : s.hostUp = true) (ho : s.dmaOpen = true) (hop : j.ref.op ≠ 0x5B) :
    completesAs .bulkCopyStart s { s with ring.bulkWait := rest, ring.bulkRun := some (j, s.copyOf j) } := by
  have hne : (j.ref.op != 0x5B#8) = true := by simpa using hop
  refine completesAs_of_doneIf (exec_bulkCopyStart_of_waiting hw) (by rw [hr, hup, ho, hne]; rfl) ?_
  rw [if_neg (show ¬ j.ref.op = 0x5B#8 from hop)]; rfl

/-- The one outcome of a command that has none yet, while the ring is not paused (R167, R214). -/
theorem quiet_finish {r : Ref} {s : State} (st : Status) (w : W24) (e : Byte) (hr : r ∈ s.ring.outstanding) (hp : s.host.paused = false) :
    (finish r st w e s).quiet = ({ journal r.op r.flags r.tag r.txn false st (.outcome r.jseq w e 0) s with
      ring.outstanding := s.ring.outstanding.erase r } : State).quiet := by
  have hcont : s.ring.outstanding.contains r = true := by simpa using hr
  simp only [finish, finishC, hcont, if_true, journal_host, hp, Bool.false_eq_true, if_false, quiet_putDone, journal_ring]

theorem hostUp_not_paused {s : State} (h : s.hostUp = true) : s.host.paused = false := by
  simp only [State.hostUp, Bool.and_eq_true, Bool.not_eq_true'] at h
  exact h.1.2

theorem bulkCopyDone_ends {s : State} {j : BulkJob} {ws : List W32} {r : W24} (hrun : s.ring.bulkRun = some (j, ws, r)) (hup : s.hostUp = true)
    (ho : s.dmaOpen = true) (hout : j.ref ∈ s.ring.outstanding) : completes (.bulkCopyDone true) s (fun t =>
      t.ring.bulkRun = none ∧ t.ring.bulkOut = some (j.addr, ws) ∧ t.ring.outstanding = s.ring.outstanding.erase j.ref ∧
      t.jrn.head = s.jrn.head + 1 ∧
      t.jrn.entries.head? = some ⟨s.jrn.head + 1, j.ref.op, j.ref.flags, j.ref.tag, j.ref.txn, false, .ok, .outcome j.ref.jseq r 0 0⟩) := by
  refine completes_of_doneIf (exec_bulkCopyDone true s) (by rw [hrun, hup, ho]; rfl) ?_
  have hend : bulkEnd true s = finish j.ref .ok r 0 { s with ring.bulkRun := none, ring.bulkOut := some (j.addr, ws) } := by
    simp only [bulkEnd, hrun, if_true]
  have hq := (quiet_sync (bulkEnd true s)).trans (hend ▸ quiet_finish .ok r 0 (by exact hout) (by exact hostUp_not_paused hup))
  generalize sync (bulkEnd true s) = t at hq ⊢
  exact ⟨(congrArg (fun u : State => u.ring.bulkRun) hq :), (congrArg (fun u : State => u.ring.bulkOut) hq :),
    (congrArg (fun u : State => u.ring.outstanding) hq :), (congrArg (fun u : State => u.jrn.head) hq :),
    (congrArg (fun u : State => u.jrn.entries.head?) hq :)⟩

/-! ### Failed DMA -/

theorem dmaFault_stops {s : State} {k : DmaStruct} (hrunning : s.host.running = true) (hrun : s.host.run = true) (hup : s.hostUp = true)
    (ho : s.dmaOpen = true) (hi : s.decoderIdle = true) (hc : s.host.dmaErrWrite ≠ 0xFF) (hk : k = .completion ∨ k = .event ∨ k = .mirror) :
    completes (.hostDmaFault k) s (fun t => t.host.dmaFault = true ∧ t.host.dmaErrWrite = s.host.dmaErrWrite + 1 ∧ t.host.run = false ∧
      t.host.running = false) := by
  refine completes_of_doneIf (exec_hostDmaFault_write hk s) (by rw [hrunning, hup, ho]; rfl) ?_
  have hcount := dmaCount_write (s := { s with host.dmaFault := true }) hc
  dsimp only
  generalize hv : dmaEvent true (dmaNum k) { s with host.dmaFault := true } = v
  have hvq : v.quiet = ({ s with host.dmaFault := true, host.dmaErrWrite := s.host.dmaErrWrite + 1 } : State).quiet := by
    subst hv; rw [dmaEvent, quiet_raise, hcount]
  have hrunv : v.host.run = true := (congrArg (fun u : State => u.host.run) hvq :).trans hrun
  have hidle : v.decoderIdle = true := (congrArg State.decoderIdle hvq :).trans hi
  have hq := quiet_sync (stopRun v)
  generalize sync (stopRun v) = t at hq ⊢
  rw [stopRun_of_idle hrunv hidle] at hq
  obtain ⟨hstopped, hrun', -, -, hfault, hwrite⟩ := host_endStop hq
  exact ⟨hfault.trans (congrArg (fun u : State => u.host.dmaFault) hvq :), hwrite.trans (congrArg (fun u : State => u.host.dmaErrWrite) hvq :),
    hrun', hstopped⟩

/-! ### The mirror, and the messages that wait for it -/

/-- The lands brought into step. -/
def State.withLands (s : State) : State := { s with glb.faultN := s.faultNow, keep.wakeN := s.wakeNow }

theorem sync_eq (s : State) : sync s = sendDue (mirrorSync s.withLands) := rfl

theorem sendDue_of_none {s : State} (h : s.ring.irqDue = []) : sendDue s = s := by
  simp only [sendDue, h, List.isEmpty_nil, Bool.or_true, if_true]

theorem mirrorSync_cases (s : State) : mirrorSync s = s ∨ mirrorSync s = writeMirror s := by
  simp only [mirrorSync]
  split
  · exact .inr rfl
  · exact .inl rfl

/-- Within 10 µs of a mirror write no other follows (R132). -/
theorem mirrorSync_of_early {s : State} (h : s.mirrorTime ≠ s.now) : mirrorSync s = s := by
  simp only [mirrorSync, h, decide_false, Bool.and_false, Bool.false_eq_true, if_false]

/-- Where the mirror may be written at once, it shows what the state gives (R132). -/
theorem mirrorStale_mirrorSync {s : State} (h : s.mirrorTime = s.now) : (mirrorSync s).mirrorStale = false := by
  simp only [mirrorSync, h, decide_true, Bool.and_true]
  split
  · have hshown : (writeMirror s).mirrorNow = (writeMirror s).ring.mirror := rfl
    simp only [State.mirrorStale, hshown, bne_self_eq_false, Bool.and_false]
  · next hs => simpa using hs

/-- The mirror as it was last written, with its heartbeat and its time. -/
def State.mirrorWritten (s : State) : Mirror × W24 × Option Nat := (s.ring.mirror, s.ring.mirrorBeat, s.ring.mirrorAt)

theorem mirrorWritten_sendDue (s : State) : (sendDue s).mirrorWritten = s.mirrorWritten := by
  have hput (k : Nat) (u : State) : (putIrq k u).mirrorWritten = u.mirrorWritten := by
    simp only [putIrq]
    split <;> split <;> rfl
  have hfold := foldl_keeps State.mirrorWritten (fun t k => if t.irqOpen then putIrq k t else t)
    (fun t k => by simp only [apply_ite State.mirrorWritten, hput, ite_self]) s.ring.irqDue { s with ring.irqDue := [] }
  simp only [sendDue, apply_ite State.mirrorWritten, hfold]
  exact ite_self _

theorem mirrorWrite_writes {s : State} (hrun : s.host.run = true) (ho : s.mirrorOpen = true) (ht : s.mirrorTime = s.now) :
    completes .mirrorWrite s (fun t => t.ring.mirror = s.mirrorNow ∧ t.ring.mirrorBeat = s.ring.mirrorBeat + 1 ∧ t.ring.mirrorAt = some s.now) := by
  refine completes_of_doneIf (exec_mirrorWrite s) (by simp [hrun, ho, ht]) ?_
  have hlate : (writeMirror s).withLands.mirrorTime = max s.now (s.mirrorTime + 10) := rfl
  have hearly : (writeMirror s).withLands.mirrorTime ≠ (writeMirror s).withLands.now := by
    rw [hlate, ht]; show max s.now (s.now + 10) ≠ s.now; omega
  have hw : (sync (writeMirror s)).mirrorWritten = (s.mirrorNow, s.ring.mirrorBeat + 1, some s.mirrorTime) := by
    rw [sync_eq, mirrorSync_of_early hearly, mirrorWritten_sendDue]; rfl
  rw [ht] at hw
  exact ⟨(congrArg Prod.fst hw :), (congrArg (·.2.1) hw :), (congrArg (·.2.2) hw :)⟩

/-- Without a message that is due, only the mirror follows. -/
theorem moderation_sync_of_noneDue {s : State} (h : s.ring.irqDue = []) :
    (sync s).ring.modEvt = s.ring.modEvt ∧ (sync s).ring.irqs = s.ring.irqs := by
  rw [sync_eq]
  obtain hm | hm := mirrorSync_cases s.withLands
  · rw [hm, sendDue_of_none (by exact h)]; exact ⟨rfl, rfl⟩
  · rw [hm, sendDue_of_none (by exact h)]; exact ⟨rfl, rfl⟩

theorem moderationEnd_ends {s : State} (hm : s.ring.modEvt = true) (hheld : s.ring.heldEvt = false) (hdue : s.ring.irqDue = []) :
    completes (.irqModerationEnd true) s (fun t => t.ring.modEvt = false ∧ t.ring.irqs = s.ring.irqs) := by
  refine completes_of_doneIf (exec_irqModerationEnd true s) hm ?_
  simp only [hheld, Bool.false_eq_true, if_false, if_true]
  exact moderation_sync_of_noneDue (by exact hdue)

/-- A source that waits alone is sent once the mirror shows what it reports (R142, R143). -/
theorem sendDue_of_one {s : State} {k : Nat} (hdue : s.ring.irqDue = [k]) (hs : s.mirrorStale = false) (ho : s.irqOpen = true)
    (hx : s.host.cfg.msix = false) (hm : s.host.cfg.msiMask.getLsbD (s.vector k) = false) :
    sendDue s = { s with ring.irqDue := [], ring.irqs := (k, s.vector k) :: s.ring.irqs } := by
  have hopen : ({ s with ring.irqDue := [] } : State).irqOpen = true := ho
  have hvec : ({ s with ring.irqDue := [] } : State).vector k = s.vector k := rfl
  simp only [sendDue, hs, hdue, List.isEmpty_cons, Bool.or_self, Bool.false_eq_true, if_false, List.foldl_cons, List.foldl_nil, hopen, if_true,
    putIrq, hx, hvec, hm]

/-- Where the mirror may be written at once, a message that is due alone leaves with the step (R142, R143). -/
theorem moderation_sync_of_one {s : State} {k : Nat} (hdue : s.ring.irqDue = [k]) (ho : s.irqOpen = true) (hx : s.host.cfg.msix = false)
    (hm : s.host.cfg.msiMask.getLsbD (s.vector k) = false) (ht : s.mirrorTime = s.now) :
    (sync s).ring.modCpl = s.ring.modCpl ∧ (sync s).ring.heldCpl = s.ring.heldCpl ∧ (sync s).ring.irqs = (k, s.vector k) :: s.ring.irqs := by
  have hstale := mirrorStale_mirrorSync (s := s.withLands) ht
  rw [sync_eq]
  obtain h | h := mirrorSync_cases s.withLands
  · rw [h] at hstale ⊢
    rw [sendDue_of_one (s := s.withLands) hdue hstale ho hx hm]; exact ⟨rfl, rfl, rfl⟩
  · rw [h] at hstale ⊢
    rw [sendDue_of_one (s := writeMirror s.withLands) hdue hstale ho hx hm]; exact ⟨rfl, rfl, rfl⟩

theorem moderationEnd_sends {s : State} (hm : s.ring.modCpl = true) (hheld : s.ring.heldCpl = true) (ho : s.irqOpen = true)
    (hx : s.host.cfg.msix = false) (hmask : s.host.cfg.msiMask.getLsbD (s.vector 0) = false) (hdue : s.ring.irqDue = [])
    (ht : s.mirrorTime = s.now) : completes (.irqModerationEnd false) s (fun t =>
      t.ring.modCpl = true ∧ t.ring.heldCpl = false ∧ t.ring.irqs = (0, s.vector 0) :: s.ring.irqs) := by
  refine completes_of_doneIf (exec_irqModerationEnd false s) hm ?_
  have hsend : sendIrq 0 { s with ring.heldCpl := false } = { s with ring.heldCpl := false, ring.irqDue := [0] } := by
    rw [sendIrq, if_pos (by exact ho)]
    simp only [hdue, List.nil_append]
  simp only [hheld, Bool.false_eq_true, if_false, if_true, hsend]
  obtain ⟨hmod, hcleared, hirqs⟩ :=
    moderation_sync_of_one (s := { s with ring.heldCpl := false, ring.irqDue := [0] }) rfl ho hx hmask ht
  exact ⟨hmod.trans hm, hcleared, hirqs⟩

/-- Settles O17, row by row. -/
theorem ringEventsComplete : Obligations.RingEventsComplete := by
  refine ⟨fun s d hb ho hl hd hs h3 hp hv hf => fenceRelease_decodes hb ho hl hd hs h3 hp hv hf, fun s hr hf hs => ?stall,
    fun s j rest hw hr hu ho hop => bulkCopyStart_starts hw hr hu ho hop, fun s j ws r hr hu ho hout => bulkCopyDone_ends hr hu ho hout,
    fun s k hn hr hu ho hi hc hk => dmaFault_stops hn hr hu ho hi hc hk, fun s hr hu ho hc => ?command,
    fun s hr ho ht => mirrorWrite_writes hr ho ht, fun s hm hh hd => moderationEnd_ends hm hh hd,
    fun s hm hh ho hx hk hd ht => moderationEnd_sends hm hh ho hx hk hd ht⟩
  case stall => exact completesAs_of_doneIf (exec_cplRingStall s) (by rw [hr, hf, hs]; rfl) (quiet_raise _ _ _ _ _)
  case command =>
    exact completesAs_of_doneIf (exec_hostDmaFault_command s) (by rw [hr, hu, ho]; rfl) (by rw [dmaEvent, quiet_raise, dmaCount_read hc])

end Sys2Proof.Machine
end

section
/-! What PARK and the guard's stop leave of the transaction (Tables 5-7 and 10-1). -/

namespace Sys2Proof.Machine

@[simp] theorem txn_sync (s : State) : (sync s).txn = s.txn := txn_of_quiet (quiet_sync s)

@[simp] theorem txn_sendIrq (k : Nat) (s : State) : (sendIrq k s).txn = s.txn := txn_of_quiet (quiet_sendIrq k s)

@[simp] theorem txn_finish (r : Ref) (st : Status) (w : W24) (e : Byte) (s : State) : (finish r st w e s).txn = s.txn := txn_finishC 0 r st w e s

@[simp] theorem txn_finishAll (l : List Ref) (st : Status) (w : W24) (e : Byte) (s : State) : (finishAll l st w e s).txn = s.txn :=
  foldl_keeps State.txn _ (fun t r => txn_finish r st w e t) l s

/-! ### Axes and outputs -/

@[simp] theorem txn_axMod (a : Nat) (f : Axis → Axis) (s : State) : (axMod a f s).txn = s.txn := rfl

@[simp] theorem txn_axStop (emg : Bool) (a : Nat) (st : Status) (e : Byte) (s : State) : (axStop emg a st e s).txn = s.txn := by
  simp only [axStop, apply_ite State.txn, txn_finishAll, txn_axMod, ite_self]

@[simp] theorem txn_axDisable (a : Nat) (st : Status) (e : Byte) (s : State) : (axDisable a st e s).txn = s.txn := by
  simp only [axDisable, txn_finishAll, txn_axMod]

@[simp] theorem txn_driveOut (c : Option Nat) (on : Bool) (s : State) : (driveOut c on s).txn = s.txn := by cases c <;> rfl

/-! ### The car -/

@[simp] theorem txn_brakeSet (on : Bool) (s : State) : (brakeSet on s).txn = s.txn := txn_driveOut _ _ _

@[simp] theorem txn_endCalls (st : Status) (e : Byte) (s : State) : (endCalls st e s).txn = s.txn := by
  simp only [endCalls, apply_ite State.txn, txn_raise, txn_finishAll, ite_self]

@[simp] theorem txn_enterHold (c : Nat) (s : State) : (enterHold c s).txn = s.txn := by simp only [enterHold, txn_finishAll, txn_raise]

@[simp] theorem txn_toIdle (s : State) : (toIdle s).txn = s.txn := by
  unfold toIdle; split
  · exact txn_enterHold _ s
  · rfl

@[simp] theorem txn_liftFaultEnd (s : State) : (liftFaultEnd s).txn = s.txn := by
  simp only [liftFaultEnd, carLost, apply_ite State.txn, txn_endCalls, txn_axMod, txn_axDisable, txn_brakeSet, ite_self]

@[simp] theorem txn_homeFail (why c : Nat) (s : State) : (homeFail why c s).txn = s.txn := by
  simp only [homeFail, liftFault, apply_ite State.txn, txn_liftFaultEnd, txn_axStop, txn_finishAll, txn_endCalls, txn_raise, ite_self]

@[simp] theorem txn_liftAbandon (s : State) : (liftAbandon s).txn = s.txn := by
  have hstop : (axStop true 0 .interlock 0 { s with lift.abandon := true }).txn = s.txn := txn_axStop _ _ _ _ _
  unfold liftAbandon
  split
  · rfl
  · split
    · simp only [undispatch, txn_toIdle, txn_brakeSet]
    · exact hstop
    · exact hstop
    · simp only [apply_ite State.txn, hstop, ite_self]
    · simp only [apply_ite State.txn, txn_homeFail, ite_self]
    · rfl

@[simp] theorem txn_holdCause (c : Nat) (s : State) : (holdCause c s).txn = s.txn := by
  unfold holdCause; split
  · exact txn_enterHold c s
  all_goals rfl

/-! ### Doors -/

@[simp] theorem txn_cycleEnd (k : Nat) (ok : Bool) (s : State) : (cycleEnd k ok s).txn = s.txn := by
  simp only [cycleEnd, apply_ite State.txn, txn_toIdle, txn_enterHold, txn_finishAll, ite_self]

@[simp] theorem txn_doorHalt (k : Nat) (st : Status) (e : Byte) (s : State) : (doorHalt k st e s).txn = s.txn := by
  have hmod (f : Door → Door) (u : State) : (drMod k f u).txn = u.txn := rfl
  simp only [doorHalt, doorFault, buzz, lockOut, endClose, endOpen, apply_ite State.txn, txn_cycleEnd, txn_finishAll, txn_axMod, txn_axStop,
    txn_raise, txn_driveOut, hmod, ite_self]

/-! ### The grinder -/

@[simp] theorem txn_grindEnd (st : Status) (e : Byte) (s : State) : (grindEnd st e s).txn = s.txn := txn_finishAll _ _ _ _ _

@[simp] theorem txn_grindCoastCause (st : Status) (e : Byte) (s : State) : (grindCoastCause st e s).txn = s.txn := by
  have hend := txn_grindEnd st e s
  unfold grindCoastCause
  split
  · simp only [grindStopsDone, grindEnable, txn_finishAll, apply_ite State.txn, hend, ite_self]
  · split
    case h_6 => split <;> exact hend -- COAST, where a retry may have been due
    all_goals exact hend

@[simp] theorem txn_grindRampCause (st : Status) (e : Byte) (s : State) : (grindRampCause st e s).txn = s.txn := by
  simp only [grindRampCause, apply_ite State.txn, txn_grindEnd, txn_grindCoastCause, ite_self]

/-! ### Field commands, permits, and a firmware activation -/

@[simp] theorem txn_endWrite (id : Nat) (st : Status) (e : Byte) (s : State) : (endWrite id st e s).txn = s.txn := by
  unfold endWrite
  split
  · rfl
  · split
    · exact txn_finish _ _ _ _ _
    · rfl

@[simp] theorem txn_withdrawAll (s : State) : (withdrawAll s).txn = s.txn := by
  have hpulses (m : BitVec 24) (st : Status) (e : Byte) (u : State) : (endPulses m st e u).txn = u.txn := txn_finishAll _ _ _ _ _
  have hlost (m : BitVec 17) (u : State) (c : Nat) : (if m.getLsbD c then lostEvent c 1 0x3F 0 u else u).txn = u.txn := by
    simp only [lostEvent, apply_ite State.txn, txn_raise, ite_self]
  simp only [withdrawAll, dropOutputs, endField, endWrites, cmdOff, foldl_keeps State.txn _ (fun t i => txn_endWrite i _ _ t), hpulses,
    foldl_keeps State.txn _ (hlost _)]

@[simp] theorem txn_abandonAct (why : Nat) (st : Status) (s : State) : (abandonAct why st s).txn = s.txn := by
  have hadmit (u : State) (k : Nat) : (readmitOne u k).txn = u.txn := by
    simp only [readmitOne, apply_ite State.txn, txn_raise, State.setIsl_txn, ite_self]
  have hact (u : State) : (endAct st 0 u).txn = u.txn := by
    unfold endAct; split
    · rfl
    · simp only [readmit_eq, hadmit, txn_sendIrq, txn_finish]
  unfold abandonAct; split
  · rfl
  · simp only [apply_ite State.txn, hact, txn_raise, ite_self]

/-! ### PARK and the guard's stop -/

@[simp] theorem txn_brakeOffStill (s : State) : (brakeOffStill s).txn = s.txn := by
  simp only [brakeOffStill, apply_ite State.txn, txn_brakeSet, ite_self]

@[simp] theorem txn_brakeAtRest (s : State) : (brakeAtRest s).txn = s.txn := by
  simp only [brakeAtRest, apply_ite State.txn, txn_brakeSet, ite_self]

theorem txn_stopMachine (s : State) : (stopMachine s).txn = s.txn := by
  have hdoors := foldl_keeps State.txn (fun u k => doorHalt k .interlock 0 u) (fun u k => txn_doorHalt k .interlock 0 u)
  have haxes := foldl_keeps State.txn (fun u a => axStop true a .interlock 0 u) (fun u a => txn_axStop true a .interlock 0 u)
  simp only [stopMachine, txn_abandonAct, txn_brakeAtRest, txn_brakeOffStill, txn_grindCoastCause, haxes, hdoors, txn_liftAbandon, txn_withdrawAll]

theorem txn_guardStop (c : Nat) (s : State) : (guardStop c s).txn = s.txn := by
  obtain ⟨l, hq⟩ := quiet_enterGuard .safeStop c s
  simp only [guardStop, apply_ite State.txn, txn_stopMachine, txn_of_quiet hq, ite_self]

/-- PARK at the doors, one after the other. -/
theorem parkDoors_keeps {β : Type} (g : State → β) (hg : ∀ (k : Nat) (f : Door → Door) (u : State), g (drMod k f u) = g u) (s : State) :
    g ((List.range 2).foldl (fun u k => if u.drEn k then drMod k parkDoor u else u) s) = g s :=
  foldl_keeps g _ (fun u k => by simp only [apply_ite g, hg, ite_self]) _ s

theorem txn_parkMachine (s : State) : (parkMachine s).txn = s.txn := by
  simp only [parkMachine, txn_grindRampCause, parkDoors_keeps State.txn (fun _ _ _ => rfl), apply_ite State.txn, txn_holdCause, ite_self]

theorem offMachine_parkMachine (s : State) : (parkMachine s).offMachine = s.offMachine := by
  have hstop (v : GrindSt) (u : State) : ({ u with grind := v } : State).offMachine = u.offMachine := rfl
  simp only [parkMachine, grindRampCause, apply_ite State.offMachine, hstop, offMachine_grindEnd, offMachine_grindCoastCause,
    parkDoors_keeps State.offMachine (fun k f u => offMachine_drMod k f u), offMachine_holdCause, ite_self]

end Sys2Proof.Machine
end

section
/-! Host silence: what its expiry reports, rolls back and does (R140, R190, R328, Tables 5-7 and 7-4). -/

namespace Sys2Proof.Machine

/-- Host silence active from now on, with PARK in force where the action is 1. -/
def State.silent (s : State) : State := { s with sil.active := true, sil.since := s.now, sil.park := s.silActNow = 1 }

/-- The report of host silence: its event, interrupt source 6, and the rollback of a transaction that is OPEN. -/
def silenceReported (s : State) : State := txnHostStop (sendIrq 6 (raise 0x0304 5 (w24 s.silActNow) (w24 s.silTmoNow) s.silent))

/-- What an action of Table 5-7 does to the machine. -/
def silenceActs (act : Nat) (s : State) : State := if act = 1 then parkMachine s else if act = 2 then guardStop 17 s else s

theorem exec_hostSilence (s : State) : exec .hostSilence s =
    doneIf (s.guardUp && s.sil.armed && !s.sil.active && !s.sil.suspended)
      (fun s => silenceActs s.silActNow (if s.silActNow = 0 then silenceReported s else wake 5 (silenceReported s))) s := rfl

/-! ### The report -/

theorem quiet_silenceNoted (s : State) :
    (sendIrq 6 (raise 0x0304 5 (w24 s.silActNow) (w24 s.silTmoNow) s.silent)).quiet = s.silent.quiet :=
  (quiet_sendIrq 6 _).trans (quiet_raise _ _ _ _ _)

theorem offMachine_silenceReported (s : State) : (silenceReported s).offMachine = s.silent.offMachine := by
  simp only [silenceReported, txnHostStop, apply_ite State.offMachine, offMachine_rollback, offMachine_of_quiet (quiet_silenceNoted s), ite_self]

theorem silenceReported_of_not_opened {s : State} (h : s.txn.st ≠ .opened) : (silenceReported s).quiet = s.silent.quiet := by
  have htxn := txn_of_quiet (quiet_silenceNoted s)
  rw [silenceReported, txnHostStop_of_not_opened (by rw [htxn]; exact h), quiet_silenceNoted]

theorem silenceReported_of_opened {s : State} (h : s.txn.st = .opened) : (silenceReported s).txn.st = .rolledBack ∧
    (silenceReported s).txn.failCause = 6 ∧ (silenceReported s).txn.failIsl = 15 ∧ (silenceReported s).txn.staged = [] := by
  have htxn := txn_of_quiet (quiet_silenceNoted s)
  rw [silenceReported, txnHostStop_of_opened (by rw [htxn]; exact h)]
  exact rollback_leaves 6 15 _

/-! ### The actions -/

theorem txn_silenceActs (act : Nat) (s : State) : (silenceActs act s).txn = s.txn := by
  simp only [silenceActs, apply_ite State.txn, txn_parkMachine, txn_guardStop, ite_self]

theorem sil_of_offMachine {s t : State} (h : t.offMachine = s.offMachine) : t.sil = s.sil := (congrArg State.sil h :)

theorem sil_guardStop {c : Nat} (hc : c ≠ 0) (s : State) : (guardStop c s).sil = s.sil := by
  cases h : s.grd.st.grants
  · simp only [guardStop, h, Bool.false_eq_true, if_false]
  · obtain ⟨l, hoff⟩ := offMachine_guardStop hc h
    exact (congrArg State.sil hoff :)

theorem sil_silenceActs (act : Nat) (s : State) : (silenceActs act s).sil = s.sil := by
  simp only [silenceActs, apply_ite State.sil, sil_of_offMachine (offMachine_parkMachine s), sil_guardStop (c := 17) (by decide), ite_self]

/-- Action 2 stops a guard that grants permits (R328). -/
theorem silenceActs_stops {s : State} (h : s.grd.st.grants = true) :
    (silenceActs 2 s).grd.st = .safeStop ∧ (silenceActs 2 s).grd.cause = 17 := by
  obtain ⟨l, hoff⟩ := offMachine_guardStop (c := 17) (by decide) h
  exact ⟨(congrArg (fun u : State => u.grd.st) hoff :), (congrArg (fun u : State => u.grd.cause) hoff :)⟩

/-- Settles O18: the report leaves silence active and no transaction OPEN, and the action touches neither. -/
theorem hostSilenceActs : Obligations.HostSilenceActs := by
  intro s hup harmed hact hsus
  refine completes_of_doneIf (exec_hostSilence s) (by rw [hup, harmed, hact, hsus]; rfl) ?_
  dsimp only
  generalize hu : (if s.silActNow = 0 then silenceReported s else wake 5 (silenceReported s)) = u
  have huq : u.quiet = (silenceReported s).quiet := by subst hu; exact quiet_ite _ _ _ _ rfl (quiet_wake 5 _)
  have hoff : u.offMachine = s.silent.offMachine := (offMachine_of_quiet huq).trans (offMachine_silenceReported s)
  have hq := quiet_sync (silenceActs s.silActNow u)
  generalize sync (silenceActs s.silActNow u) = t at hq ⊢
  have hsil : t.sil = s.silent.sil := (congrArg State.sil hq :).trans ((sil_silenceActs _ u).trans (sil_of_offMachine hoff))
  have htxn : t.txn = (silenceReported s).txn := (txn_of_quiet hq).trans ((txn_silenceActs _ u).trans (txn_of_quiet huq))
  refine ⟨by rw [hsil]; rfl, by rw [hsil]; rfl, by rw [hsil]; exact decide_eq_true_iff, fun h2 hgrants => ?stops, fun hopen => ?rollsBack,
    fun h0 hnot => ?onlySilence⟩
  case stops =>
    have hgr : u.grd.st.grants = true := (congrArg (fun v : State => v.grd.st.grants) hoff :).trans hgrants
    obtain ⟨hst, hcause⟩ := silenceActs_stops hgr
    rw [h2] at hq
    rw [grd_of_quiet hq]
    exact ⟨hst, hcause⟩
  case rollsBack => rw [htxn]; exact silenceReported_of_opened hopen
  case onlySilence =>
    have hidle : silenceActs s.silActNow u = u := by rw [h0]; rfl
    have hpark : s.silent = { s with sil.active := true, sil.since := s.now, sil.park := false } := by simp [State.silent, h0]
    rw [hq, hidle, huq, silenceReported_of_not_opened hnot, hpark]

end Sys2Proof.Machine
end

section
/-! What an accepted command leaves, from its meaning at the decoder to its completion statement (R155, R166, R167, R214): what every later
prover of a command needs of `gate`, of the acceptance and of the outcomes that follow it. -/

namespace Sys2Proof.Machine

/-! ### A meaning behind the refusals that stand before it -/

theorem gate_passes {op : Byte} {d : Desc} {form : Bool} {s : State} {k : State → State} (hs : s.serves op) (hform : form = true) :
    gate op d form s k = k s := by
  rw [hform, gate_serves op d s k hs]

/-! ### What the host has been told -/

/-- The completions posted, and HOST's word on whether a sleep request stands. -/
def State.posted (s : State) : List CplEntry × W24 × Bool := (s.ring.cpl, s.ring.cplProd, s.ring.sleepReq)

theorem posted_of_quiet {s t : State} (h : t.quiet = s.quiet) : t.posted = s.posted := (congrArg State.posted h :)

@[simp] theorem posted_raise (c : W16) (v : Nat) (a b : W24) (s : State) : (raise c v a b s).posted = s.posted :=
  posted_of_quiet (quiet_raise c v a b s)

@[simp] theorem posted_finish (r : Ref) (st : Status) (w : W24) (e : Byte) (s : State) : (finish r st w e s).posted = s.posted := by
  simp only [finish, finishC]
  split
  · split
    · rfl
    · rw [posted_of_quiet (quiet_putDone _ _ _ _)]; rfl
  · rfl

@[simp] theorem posted_finishAll (l : List Ref) (st : Status) (w : W24) (e : Byte) (s : State) : (finishAll l st w e s).posted = s.posted :=
  foldl_keeps State.posted _ (fun t r => posted_finish r st w e t) l s

theorem completed_of_posted {op : Byte} {d : Desc} {st : Status} {q : Nat} {r : W24} {x : Byte} {s t u : State}
    (h : Completed op d st q r x s t) (e : u.posted = t.posted) : Completed op d st q r x s u := by
  have hcpl : u.ring.cpl = t.ring.cpl := congrArg Prod.fst e
  have hprod : u.ring.cplProd = t.ring.cplProd := congrArg (fun p => p.2.1) e
  unfold Completed at h ⊢
  rwa [hcpl, hprod]

theorem sleepReq_of_posted {s t : State} (h : t.posted = s.posted) : t.ring.sleepReq = s.ring.sleepReq := congrArg (fun p => p.2.2) h

/-! ### What an acceptance leaves alone -/

theorem rest_of_added {u t : State} (h : Added u t) : t.rest = u.rest := by
  obtain ⟨j, l, p, o, e⟩ := h
  exact (rest_of_quiet e).trans rfl

@[simp] theorem rest_raise (c : W16) (v : Nat) (a b : W24) (s : State) : (raise c v a b s).rest = s.rest := rest_of_quiet (quiet_raise c v a b s)

@[simp] theorem rest_finish (r : Ref) (st : Status) (w : W24) (e : Byte) (s : State) : (finish r st w e s).rest = s.rest := rest_finishC 0 r st w e s

theorem rest_postCpl (op : Byte) (d : Desc) (st : Status) (q : Nat) (r : W24) (x : Byte) (s : State) : (postCpl op d st q r x s).rest = s.rest := by
  obtain ⟨l, p, h⟩ := quiet_postCpl op d st q r x s
  exact (rest_of_quiet h).trans rfl

@[simp] theorem rest_acceptOk (op : Byte) (d : Desc) (r : W24) (x : Byte) (s : State) : (acceptOk op d r x s).rest = s.rest :=
  rest_postCpl _ _ _ _ _ _ _

@[simp] theorem rest_acceptRun (op : Byte) (d : Desc) (st : Status) (r : W24) (x : Byte) (s : State) : (acceptRun op d st r x s).rest = s.rest :=
  rest_postCpl _ _ _ _ _ _ _

@[simp] theorem rest_fetched (s : State) (d : Desc) : (s.fetched d).rest = s.rest := rfl

/-! ### What an acceptance leaves for an outcome -/

theorem takes_not_paused {s : State} {d : Desc} (h : s.takes d) : s.host.paused = false := by
  have hfetch := h.1
  simp only [State.canFetch, Bool.and_eq_true] at hfetch
  exact hostUp_not_paused hfetch.1.1.1.2

theorem acceptRun_awake (op : Byte) (d : Desc) (st : Status) (r : W24) (x : Byte) {s u : State} (hu : Accepting s u) :
    (acceptRun op d st r x u).ring.sleepReq = false := by
  obtain ⟨-, -, -, j, l, p, o, hadd⟩ := acceptRun_spec op d st r x hu
  exact (congrArg (fun w : State => w.ring.sleepReq) hadd :).trans hu.awake

/-- A command accepted for later stands among those without an outcome, and nothing holds its outcome back. -/
theorem acceptRun_stands (op : Byte) (st : Status) (r : W24) (x : Byte) {s : State} {d : Desc} (ht : s.takes d) :
    s.nextRef op d ∈ (acceptRun op d st r x (s.fetched d)).ring.outstanding ∧ (acceptRun op d st r x (s.fetched d)).host.paused = false := by
  obtain ⟨-, -, ho, j, l, p, o, hadd⟩ := acceptRun_spec op d st r x (accepting_fetched ht)
  exact ⟨ho ▸ List.mem_append_right _ (List.mem_singleton_self _),
    (congrArg (fun u : State => u.host.paused) hadd :).trans (takes_not_paused (s := s) ht)⟩

/-! ### From a meaning to a completion statement -/

section
variable {c : Instr} {op : Byte} {d : Desc} {s v : State} {P : State → Prop} (hx : exec c s = command op d s) (ht : s.takes d)
  (hd : decodeOp op d (s.fetched d) = v)
include hx ht hd

/-- A command whose meaning leaves no sleep request ends as its meaning, apart from reports. -/
theorem completes_of_meaning (hsleep : v.ring.sleepReq = false) (hP : ∀ t, t.quiet = v.quiet → P t) : completes c s P :=
  ⟨sync v, by rw [hx, command_takes op d s ht, hd, sleepSync_false _ hsleep], hP _ (quiet_sync v)⟩

variable {r : W24} {x : Byte} {u : State} (hu : Accepting s u)
include hu

/-- A command that ends OK at decode, whatever is reported after its acceptance. -/
theorem acceptsOk_of_meaning (hv : v.quiet = (acceptOk op d r x u).quiet) (hP : ∀ t, Added u t → P t) : acceptsOk c op d r x s P := by
  obtain ⟨hj, hc, j, l, p, o, hadd⟩ := acceptOk_spec op d r x hu
  have hsleep : v.ring.sleepReq = false := (congrArg (fun w : State => w.ring.sleepReq) (hv.trans hadd) :).trans hu.awake
  exact completes_of_meaning hx ht hd hsleep fun t hq =>
    ⟨journaled_of_quiet hj (hq.trans hv), completed_of_quiet hc (hq.trans hv), hP t ⟨j, l, p, o, hq.trans (hv.trans hadd)⟩⟩

/-- A command that ends OK at decode, and whose meaning goes on without posting a completion. -/
theorem completes_of_acceptOk (hv : v.posted = (acceptOk op d r x u).posted)
    (hP : ∀ t, t.quiet = v.quiet → Completed op d .ok (s.jrn.head + 1) r x s t → P t) : completes c s P := by
  obtain ⟨-, hc, j, l, p, o, hadd⟩ := acceptOk_spec op d r x hu
  have hsleep : v.ring.sleepReq = false :=
    (sleepReq_of_posted hv).trans ((congrArg (fun w : State => w.ring.sleepReq) hadd :).trans hu.awake)
  exact completes_of_meaning hx ht hd hsleep fun t hq => hP t hq (completed_of_quiet (completed_of_posted hc hv) hq)

/-- A command accepted for later, and whose meaning goes on without posting a completion. -/
theorem completes_of_acceptRun {st : Status} (hv : v.posted = (acceptRun op d st r x u).posted)
    (hP : ∀ t, t.quiet = v.quiet → Completed op d st (s.jrn.head + 1) r x s t → P t) : completes c s P := by
  obtain ⟨-, hc, -⟩ := acceptRun_spec op d st r x hu
  have hsleep : v.ring.sleepReq = false := (sleepReq_of_posted hv).trans (acceptRun_awake op d st r x hu)
  exact completes_of_meaning hx ht hd hsleep fun t hq => hP t hq (completed_of_quiet (completed_of_posted hc hv) hq)

end

/-- Settles O53: whatever its case, a command answers the state as it stands but for the response, or a state that `sync` has brought into
step; a fault or a refusal of the model is neither. -/
theorem everyCommandCompletes : Obligations.EveryCommandCompletes := by
  intro c s
  obtain ⟨r, h⟩ | ⟨u, h⟩ := answers_exec s c
  · exact ⟨_, h⟩
  · exact ⟨_, h⟩

end Sys2Proof.Machine
end

section
/-! The queries, PARAM_READ and the bulk copies (R163, R171, R172, R175, R180, R295, R331, R455, Tables 6-9, 6-11, 6-14, 6-15). -/

namespace Sys2Proof.Machine

/-! ### The queries -/

/-- A command that reads the state and answers: its form and its answer are all that it adds to `gate`. -/
theorem acceptsOk_of_answer {c : Instr} {op : Byte} {d : Desc} {form : Bool} {k : State → State} {r : W24} {x : Byte} {s : State}
    (hx : exec c s = command op d s) (hop : decodeOp op d (s.fetched d) = gate op d form (s.fetched d) k)
    (hk : k (s.fetched d) = acceptOk op d r x (s.fetched d)) (hform : form = true) (ht : s.takes d) (hs : s.serves op) :
    acceptsOk c op d r x s (OnlyRings s) :=
  acceptsOk_of hx ht ((hop.trans (gate_passes (s := s.fetched d) hs hform)).trans hk) (accepting_fetched ht)
    fun _ h => onlyRings_of_added h rfl

/-- One of four pages, chosen by a chain of tests. -/
theorem page_eq {α : Type} (p : Nat) (a b c e : α) :
    (if p = 0 then a else if p = 1 then b else if p = 2 then c else e) = (match p with | 0 => a | 1 => b | 2 => c | _ => e) := by
  match p with
  | 0 | 1 | 2 | _ + 3 => rfl

theorem vget_eq_getElem {α : Type} {n : Nat} (v : Vector α n) (i : Fin n) (x : α) : vget v i.val x = v[i] := by
  simp [vget, List.getD_eq_getElem?_getD]

theorem guardPage0_fetched (s : State) (d : Desc) : (s.fetched d).guardPage0 = s.guardPage0 := by
  have hfails : (s.fetched d).ackFails = s.ackFails := rfl
  simp only [State.guardPage0, hfails]; rfl

theorem decGuardStatus_answers {s : State} {d : Desc} (hs : s.serves 0x51) (hf : formOk d false false 3 m0 m0 m0 m0 = true) : decGuardStatus d s =
    acceptOk 0x51 d (match fld d.d3 0 2 with
      | 0 => s.guardPage0 | 1 => s.grd.permits.zeroExtend 24 | 2 => s.grd.failing.extractLsb' 0 24
      | _ => (s.grd.failing.extractLsb' 24 8).zeroExtend 24) 0 s := by
  unfold decGuardStatus
  rw [gate_passes hs hf, ← page_eq]

section
variable {s : State} {d : Desc} (ht : s.takes d)
include ht

theorem nop_answers (hs : s.serves 0x01) (hf : formOk d false false m0 m0 m0 m0 m0 = true) : acceptsOk (.nop d) 0x01 d 0 0 s (OnlyRings s) :=
  acceptsOk_of_answer rfl rfl rfl hf ht hs

theorem txnStatus_answers (hs : s.serves 0x13) (hf : formOk d false false m0 m0 m0 m0 m0 = true) :
    acceptsOk (.txnStatus d) 0x13 d (w24 (s.txn.st.code + 8 * s.stagedCount + 8192 * s.txn.failIsl.toNat)) 0 s (OnlyRings s) :=
  acceptsOk_of_answer rfl rfl rfl hf ht hs

theorem fieldRead_answers (hs : s.serves 0x4A) (hf : formOk d false false 3 m0 m0 m0 m0 = true) : acceptsOk (.fieldRead d) 0x4A d
    (match fld d.d3 0 2 with
      | 0 => s.awn.inputs.zeroExtend 24 | 1 => s.awn.drivers | 2 => s.awn.wb.zeroExtend 24 | _ => s.awn.faults)
    (if s.awn.stale = true then 1 else 0) s (OnlyRings s) :=
  page_eq (fld d.d3 0 2) _ _ _ _ ▸ acceptsOk_of_answer rfl rfl rfl hf ht hs

theorem counterRead_answers {i : Fin 8} (hs : s.serves 0x4B) (hf : formOk d false false 0x1F m0 m0 m0 m0 = true)
    (hi : ctrIdx (fld d.d3 0 5) = some i) : acceptsOk (.counterRead d) 0x4B d s.awn.counters[i]
      (if s.awn.stale = true then 0xFF else BitVec.ofNat 8 (min 0xFE s.awn.age[i])) s (OnlyRings s) := by
  have hk : (ctrIdx (fld d.d3 0 5)).getD 0 = i := by rw [hi]; rfl
  rw [← vget_eq_getElem s.awn.counters i 0, ← vget_eq_getElem s.awn.age i 0, ← hk]
  exact acceptsOk_of_answer rfl rfl rfl (by rw [hf, hi]; rfl) ht hs

theorem guardStatus_answers (hs : s.serves 0x51) (hf : formOk d false false 3 m0 m0 m0 m0 = true) : acceptsOk (.guardStatus d) 0x51 d
    (match fld d.d3 0 2 with
      | 0 => s.guardPage0 | 1 => s.grd.permits.zeroExtend 24 | 2 => s.grd.failing.extractLsb' 0 24
      | _ => (s.grd.failing.extractLsb' 24 8).zeroExtend 24) 0 s (OnlyRings s) := by
  have hd := decGuardStatus_answers (s := s.fetched d) hs hf
  rw [guardPage0_fetched] at hd
  exact acceptsOk_of rfl ht hd (accepting_fetched ht) fun _ h => onlyRings_of_added h rfl

theorem fwStatus_answers {i : FwIsland} (hs : s.serves 0x62) (hf : formOk d false false 0xF m0 m0 m0 m0 = true)
    (hi : fwOfNum (fld d.d3 0 4) = some i) : acceptsOk (.fwStatus d) 0x62 d
      (w24 ((s.slots (fwIdx i)).running.val + 4 * bit (s.slots (fwIdx i)).spare.verified + 8 * bit (s.isl (fwNum i) = .held) +
        16 * ((s.slots (fwIdx i)).image.epoch % 256) + 4096 * ((s.slots (fwIdx i)).image.version.toNat % 4096))) 0 s (OnlyRings s) := by
  have hk : (fwOfNum (fld d.d3 0 4)).getD .host = i := by rw [hi]; rfl
  rw [← hk]
  exact acceptsOk_of_answer rfl rfl rfl (by rw [hf, hi]; rfl) ht hs

end

/-- Settles O1: each query is `gate` before one answer read off the state. -/
theorem queriesAnswer : Obligations.QueriesAnswer :=
  ⟨fun _ _ => nop_answers, fun _ _ => txnStatus_answers, fun _ _ => fieldRead_answers, fun _ _ _ ht => counterRead_answers ht,
    fun _ _ => guardStatus_answers, fun _ _ _ ht => fwStatus_answers ht⟩

/-! ### PARAM_READ -/

theorem decParamRead_answers {s : State} {d : Desc} (hs : s.serves 0x08) (hf : formOk d true false 0x1FFFF m0 m0 m0 m0 = true)
    (hbars : s.txnBars d = none) (hpid : pidExists (fld d.d3 0 16) = true)
    (hstaged : d.d3.getLsbD 16 = true → dTxn d = true ∧ isTablePid (fld d.d3 0 16) = false) :
    decParamRead d s =
      acceptOk 0x08 d (if d.d3.getLsbD 16 = true then s.stagedWord (fld d.d3 0 16) else s.committedWord (fld d.d3 0 16)) 0 s := by
  have hform : (formOk d true false 0x1FFFF m0 m0 m0 m0 && (!d.d3.getLsbD 16 || dTxn d)) = true := by
    rw [hf]; cases h : d.d3.getLsbD 16 <;> simp [h, hstaged]
  have htable : ¬ (d.d3.getLsbD 16 && isTablePid (fld d.d3 0 16)) = true := by
    intro h
    obtain ⟨h16, h⟩ := (Bool.and_eq_true _ _).mp h
    rw [(hstaged h16).2] at h
    exact Bool.false_ne_true h
  unfold decParamRead
  rw [gate_passes hs hform]
  simp only [hbars, hpid, Bool.not_true, Bool.false_eq_true, if_false, if_neg htable]

/-- Settles O2: the word is read off the state before anything is posted. -/
theorem paramReadAnswersImage : Obligations.ParamReadAnswersImage := by
  intro s d ht hs hf hbars hpid hstaged
  exact acceptsOk_of rfl ht (decParamRead_answers (s := s.fetched d) hs hf hbars hpid hstaged) (accepting_fetched ht)
    fun _ h => onlyRings_of_added h rfl

/-! ### Bulk copies -/

/-- The state with one copy more waiting for the engine. -/
def State.copyWaits (s : State) (op : Byte) (d : Desc) (first : Nat) : State :=
  { s with ring.bulkWait := s.ring.bulkWait ++ [⟨s.nextRef op d, bulkAddr d, bulkLen d, first⟩] }

theorem acceptBulk_of_room {s : State} (op : Byte) (d : Desc) (first : Nat) (h : bit s.ring.bulkRun.isSome + s.ring.bulkWait.length < 2) :
    acceptBulk op d first s = acceptRun op d .queued 0 0 (s.copyWaits op d first) := if_neg (by omega)

/-- A copy that the engine has room for is queued with its operands. -/
theorem acceptsLater_of_copy {c : Instr} {op : Byte} {d : Desc} {form : Bool} {first : Nat} {s : State} (hx : exec c s = command op d s)
    (hop : decodeOp op d (s.fetched d) = gate op d form (s.fetched d) (acceptBulk op d first)) (hform : form = true) (ht : s.takes d)
    (hs : s.serves op) (hroom : bit s.ring.bulkRun.isSome + s.ring.bulkWait.length < 2) :
    acceptsLater c op d .queued s (fun t => OnlyRings s t ∧
      t.ring.bulkWait = s.ring.bulkWait ++ [⟨s.nextRef op d, bulkAddr d, bulkLen d, first⟩]) := by
  have hu : Accepting s ((s.fetched d).copyWaits op d first) := { accepting_fetched ht with }
  have hd := (hop.trans (gate_passes (s := s.fetched d) hs hform)).trans (acceptBulk_of_room (s := s.fetched d) op d first hroom)
  obtain ⟨-, -, -, j, l, p, o, h⟩ := acceptRun_spec op d .queued 0 0 hu
  refine acceptsLater_of hx ht hd hu rfl rfl rfl rfl (acceptRun_awake op d .queued 0 0 hu) fun t hq => ?_
  have ht := hq.trans h
  exact ⟨(rest_of_quiet ht).trans rfl, (congrArg (fun w : State => w.ring.bulkWait) ht :)⟩

/-- Settles O3: the three commands differ in their form and in the first record or sequence alone. -/
theorem bulkCopiesQueue : Obligations.BulkCopiesQueue :=
  ⟨fun _ _ ht hs hf hb => acceptsLater_of_copy rfl rfl (by rw [hf, hb]; rfl) ht hs,
    fun _ _ ht hs hf hb hlen => acceptsLater_of_copy rfl rfl (by rw [hf, hb, decide_eq_true hlen]; rfl) ht hs,
    fun _ _ ht hs hf hb => acceptsLater_of_copy rfl rfl (by rw [hf, hb]; rfl) ht hs⟩

end Sys2Proof.Machine
end

section
/-! The recorder's commands LOG_MARK, LOG_CHALLENGE and LOG_CLEAR (R177, R436, R456 to R458, Table 15-8). -/

namespace Sys2Proof.Machine

theorem takes_logUp {s : State} {d : Desc} (h : s.takes d) : s.logUp = true := by
  have hfetch := h.1
  simp only [State.canFetch, Bool.and_eq_true] at hfetch
  exact hfetch.2

/-! ### LOG_MARK -/

/-- The state with the record of a LOG_MARK staged, posted and flushed (R177, R443). -/
def State.marked (s : State) (d : Desc) : State :=
  let t := (stage 0x4802 2 0 0 (arg24 d.d3) (arg24 d.d4) (arg24 d.d5) (d.tag.extractLsb' 0 24) s).2
  flushOn 2 s (if t.admits 0x4802 2 then postEvt 0x4802 2 (BitVec.ofNat 32 (s.log.head + 1)) (d.d3.extractLsb' 0 24 |>.zeroExtend 32)
    (d.d4.extractLsb' 0 24 |>.zeroExtend 32) false t else t)

theorem quiet_marked (s : State) (d : Desc) : (s.marked d).quiet = s.quiet := by
  rw [State.marked, quiet_flushOn]
  exact quiet_ite _ _ _ _ (by rw [quiet_postEvt, quiet_stage]) (quiet_stage _ _ _ _ _ _ _ _ _)

/-- With a token and room in the buffer a record is staged, and the command answers its sequence (R436). -/
theorem decLogMark_records {s : State} {d : Desc} (hs : s.serves 0x58) (hf : formOk d false false mA mA mA m0 m0 = true) (hl : s.logUp = true)
    (hroom : s.log.staged.length < 64) (htoken : s.burst 15 = 0 ∨ 0 < s.log.tokens[15]) :
    decLogMark d s = acceptOk 0x58 d (lo24 (s.log.head + 1)) 0 (s.marked d) := by
  have hclass : rateClass (0x4802#16).toNat 2 = 15 := rfl
  have htok : s.burst (rateClass (0x4802#16).toNat 2) = 0 ∨ 0 < s.log.tokens.toList.getD (rateClass (0x4802#16).toNat 2) 0 := by
    rw [hclass]; simpa [List.getD_eq_getElem?_getD] using htoken
  obtain ⟨hseq, -, -⟩ := stage_fresh 0x4802 2 0 0 (arg24 d.d3) (arg24 d.d4) (arg24 d.d5) (d.tag.extractLsb' 0 24) s hl hroom htok
  unfold decLogMark
  rw [gate_passes hs hf]
  simp only [hseq, Nat.add_one_ne_zero, if_false]
  rfl

theorem logMark_answers {s : State} {d : Desc} (ht : s.takes d) (hs : s.serves 0x58) (hf : formOk d false false mA mA mA m0 m0 = true)
    (hroom : s.log.staged.length < 64) (htoken : s.burst 15 = 0 ∨ 0 < s.log.tokens[15]) :
    acceptsOk (.logMark d) 0x58 d (lo24 (s.log.head + 1)) 0 s (OnlyRings s) := by
  have hq := quiet_marked (s.fetched d) d
  exact acceptsOk_of rfl ht (decLogMark_records (s := s.fetched d) hs hf (takes_logUp (s := s) ht) hroom htoken)
    (accepting_of_quiet (accepting_fetched ht) hq) fun _ h => onlyRings_of_added h ((rest_of_quiet hq).trans rfl)

/-! ### LOG_CHALLENGE -/

/-- The nonce of 16 bytes that the free value at hand gives (R456, log 2). -/
def State.freshNonce (s : State) : List Byte := (List.range 16).map (Config.freeNonce s.free)

/-- The nonce held for its purpose and written to the bulk buffer. -/
def State.challenged (s : State) (d : Desc) : State :=
  { s.tick with log.nonce := some (fld d.d3 0 2, s.freshNonce), ring.bulkOut := some (bulkAddr d, dwordsOf s.freshNonce) }

theorem decLogChallenge_answers {s : State} {d : Desc} (hs : s.serves 0x59) (hf : formOk d false false 3 m0 mB mB mB = true)
    (hb : bulkOk d 16 4 = true) (hp : fld d.d3 0 2 ≠ 3) (hdma : d.dmaOk = true) : decLogChallenge d s = acceptOk 0x59 d 0 0 (s.challenged d) := by
  have hform : (formOk d false false 3 m0 mB mB mB && bulkOk d 16 4 && fld d.d3 0 2 != 3) = true := by rw [hf, hb, bne_iff_ne.mpr hp]; rfl
  unfold decLogChallenge
  rw [gate_passes hs hform, hdma]
  rfl

theorem logChallenge_answers {s : State} {d : Desc} (ht : s.takes d) (hs : s.serves 0x59) (hf : formOk d false false 3 m0 mB mB mB = true)
    (hb : bulkOk d 16 4 = true) (hp : fld d.d3 0 2 ≠ 3) (hdma : d.dmaOk = true) : acceptsOk (.logChallenge d) 0x59 d 0 0 s (fun t =>
      ∃ n, t.log.nonce = some (fld d.d3 0 2, n) ∧ n.length = 16 ∧ t.ring.bulkOut = some (bulkAddr d, dwordsOf n)) := by
  refine acceptsOk_of rfl ht (decLogChallenge_answers (s := s.fetched d) hs hf hb hp hdma) { accepting_fetched ht with } ?_
  rintro t ⟨j, l, p, o, h⟩
  exact ⟨s.freshNonce, (congrArg (fun u : State => u.log.nonce) h :), by simp [State.freshNonce], (congrArg (fun u : State => u.ring.bulkOut) h :)⟩

/-! ### LOG_CLEAR -/

/-- The clear that a LOG_CLEAR begins: its regions, the head and the sequence reserved (R458). -/
def State.clearBegun (s : State) (d : Desc) : ClearRun := ⟨d.d3.getLsbD 1, s.log.head, s.log.head + 1⟩

/-- The marker written, the command journaled, and the decoder waiting for the end of the clear (R458, R459). -/
def State.clearJournaled (s : State) (d : Desc) (run : ClearRun) : State :=
  { jrnCmd 0x5A d .ok { s with log.marker := some run } with ring.block := some (.logClear d (s.jrn.head + 1)) }

theorem quiet_clearJournaled (s : State) (d : Desc) (run : ClearRun) :
    (s.clearJournaled d run).quiet = (s.quiet.clearJournaled d run).quiet := rfl

/-- Steps 1 to 3 of a clear, apart from what its flush reports. -/
theorem quiet_startClear (s : State) (d : Desc) :
    (startClear d s).quiet = (({ s with log.clear := some (s.clearBegun d) } : State).clearJournaled d (s.clearBegun d)).quiet := by
  have hstart : startClear d s = (flush (bumpWin s { s with
      log.head := s.log.head + 1, log.reserve := if s.log.reserve < s.log.head + 1 then s.log.reserve + 64 else s.log.reserve
      log.clear := some (s.clearBegun d) })).clearJournaled d (s.clearBegun d) := rfl
  rw [hstart, quiet_clearJournaled, quiet_flush, quiet_bumpWin, quiet_clearJournaled { s with log.clear := _ }]
  rfl

theorem decLogClear_begins {s : State} {d : Desc} (hs : s.serves 0x5A) (hf : formOk d false false 3 m0 mB mB mB = true) (hb : bulkOk d 16 4 = true)
    (h0 : d.d3.getLsbD 0 = true) (hdma : d.dmaOk = true) (hresp : s.clearFail (d.d3.getLsbD 1) (bulkBytes d 16) = none) (hidle : s.log.clear = none) :
    decLogClear d s = startClear d { s with log.nonce := none } := by
  have hform : (formOk d false false 3 m0 mB mB mB && bulkOk d 16 4 && d.d3.getLsbD 0) = true := by rw [hf, hb, h0]; rfl
  unfold decLogClear
  rw [gate_passes hs hform]
  simp only [hdma, hresp, hidle, Bool.not_true, Bool.false_eq_true, if_false, Option.isSome_none]

theorem logClear_begins {s : State} {d : Desc} (ht : s.takes d) (hs : s.serves 0x5A) (hf : formOk d false false 3 m0 mB mB mB = true)
    (hb : bulkOk d 16 4 = true) (h0 : d.d3.getLsbD 0 = true) (hdma : d.dmaOk = true)
    (hresp : s.clearFail (d.d3.getLsbD 1) (bulkBytes d 16) = none) (hidle : s.log.clear = none) : completes (.logClear d) s (fun t =>
      Journaled 0x5A d .ok s t ∧ t.log.nonce = none ∧ t.log.clear = some ⟨d.d3.getLsbD 1, s.log.head, s.log.head + 1⟩ ∧
      t.log.marker = t.log.clear ∧ t.ring.block = some (.logClear d (s.jrn.head + 1)) ∧ t.ring.cpl = s.ring.cpl) := by
  have hq := quiet_startClear { s.fetched d with log.nonce := none } d
  refine completes_of_meaning rfl ht (decLogClear_begins (s := s.fetched d) hs hf hb h0 hdma hresp hidle)
    ((congrArg (fun u : State => u.ring.sleepReq) hq :).trans (takes_awake (s := s) ht)) fun t hv => ?_
  have h := hv.trans hq
  have hclear : t.log.clear = some (s.clearBegun d) := (congrArg (fun u : State => u.log.clear) h :)
  have hmarker : t.log.marker = some (s.clearBegun d) := (congrArg (fun u : State => u.log.marker) h :)
  exact ⟨⟨(congrArg (fun u : State => u.jrn.head) h :), (congrArg (fun u : State => u.jrn.entries.head?) h :)⟩,
    (congrArg (fun u : State => u.log.nonce) h :), hclear, hmarker.trans hclear.symm, (congrArg (fun u : State => u.ring.block) h :),
    (congrArg (fun u : State => u.ring.cpl) h :)⟩

/-- Settles O4: the mark answers the sequence that it is staged under, the challenge is a free value, and a clear begins with its first three
steps; that the marker stands at the acceptance, as the record's reserved sequence does, is log 52. -/
theorem recorderCommandsComplete : Obligations.RecorderCommandsComplete :=
  ⟨fun _ _ => logMark_answers, fun _ _ => logChallenge_answers, fun _ _ => logClear_begins⟩

end Sys2Proof.Machine
end

section
/-! EVENT_FILTER and POWER_STATE (R171, R183, Table 6-9). -/

namespace Sys2Proof.Machine

/-! ### EVENT_FILTER -/

theorem decEventFilter_one {s : State} {d : Desc} {k : Fin 14} (hs : s.serves 0x70) (hf : formOk d false false 0xFF 0xF m0 m0 m0 = true)
    (hk : classPos (256 * fld d.d3 0 8) = k.val) (hone : fld d.d3 0 8 ≠ 0xFF) (hm : fld d.d4 0 4 ≤ 8) :
    decEventFilter d s = acceptOk 0x70 d (w24 s.ring.minSev[k]) 0 { s with ring.minSev := s.ring.minSev.set k (fld d.d4 0 4) } := by
  have hset : vset s.ring.minSev k.val (fld d.d4 0 4) = s.ring.minSev.set k (fld d.d4 0 4) := by
    ext i hi
    simp [vset, Vector.getElem_set, Vector.getElem_setIfInBounds]
  unfold decEventFilter
  rw [gate_passes hs (by rw [hf]; simp [hone, hk, hm])]
  simp only [hone, decide_false, Bool.false_eq_true, if_false, hk, vget_eq_getElem, hset]

theorem decEventFilter_all {s : State} {d : Desc} (hs : s.serves 0x70) (hf : formOk d false false 0xFF 0xF m0 m0 m0 = true)
    (hall : fld d.d3 0 8 = 0xFF) (hm : fld d.d4 0 4 ≤ 8) :
    decEventFilter d s = acceptOk 0x70 d (w24 s.ring.minSev[0]) 0 { s with ring.minSev := Vector.replicate 14 (fld d.d4 0 4) } := by
  unfold decEventFilter
  rw [gate_passes hs (by simp only [hf, hall, hm]; rfl)]
  simp only [hall, decide_true, if_true, show vget s.ring.minSev 0 0 = s.ring.minSev[0] from vget_eq_getElem s.ring.minSev (0 : Fin 14) 0]

/-- A filter command answers the old minimum and leaves the new ones (R183). -/
theorem acceptsOk_of_minSev {d : Desc} {s : State} {old : W24} {m : Vector Nat 14} (ht : s.takes d)
    (hd : decEventFilter d (s.fetched d) = acceptOk 0x70 d old 0 { s.fetched d with ring.minSev := m }) :
    acceptsOk (.eventFilter d) 0x70 d old 0 s (fun t => t.ring.minSev = m ∧ OnlyRings s t) := by
  refine acceptsOk_of rfl ht hd { accepting_fetched ht with } fun t h => ⟨?_, onlyRings_of_added h rfl⟩
  obtain ⟨j, l, p, o, h⟩ := h
  exact (congrArg (fun u : State => u.ring.minSev) h :)

/-! ### POWER_STATE -/

/-- The machine awake again: LINK sends data, and no change of power state runs (R171, R267). -/
def awaken (s : State) : State := { linkWake { s with glb.sleep := false, twp.asleep := false, twp.waking := false } with glb.powerRef := none }

theorem awaken_eq (s : State) : ∃ a : AwnSt, awaken s = { s with
    glb.sleep := false, glb.powerRef := none, twp.asleep := false, twp.waking := false, awn := a } ∧ a.mode ≠ .sleep := by
  unfold awaken linkWake
  split
  · exact ⟨_, rfl, by simp⟩
  · next h => exact ⟨s.awn, rfl, h⟩

theorem powerDone_linkWake {s : State} {r : Ref} (h : s.glb.powerRef = some r) :
    powerDone (linkWake s) = finish r .ok 0 0 { linkWake s with glb.powerRef := none } := by
  have hkeeps : (linkWake s).glb = s.glb := by unfold linkWake; split <;> rfl
  have hrun : (linkWake s).glb.powerRef = some r := by rw [hkeeps]; exact h
  simp only [powerDone, hrun]

/-- An accepted command, and the change of power state that it is. -/
def powerBegun (d : Desc) (s : State) : State := { acceptRun 0x78 d .queued 0 0 s with glb.powerRef := some (s.nextRef 0x78 d) }

theorem decPowerState_active {s : State} {d : Desc} (hs : s.serves 0x78) (hf : formOk d false false 3 m0 m0 m0 m0 = true) (hm : fld d.d3 0 2 = 0)
    (hfree : s.glb.powerRef = none) : decPowerState d s = finish (s.nextRef 0x78 d) .ok 0 0 (awaken (powerBegun d s)) := by
  unfold decPowerState
  rw [gate_passes hs (by rw [hf, hm]; rfl)]
  simp only [hfree, hm, Option.isSome_none, Bool.false_eq_true, if_false, if_true, Nat.zero_ne_one, decide_false, Bool.false_and]
  exact powerDone_linkWake rfl

theorem powerState_wakes {s : State} {d : Desc} (ht : s.takes d) (hs : s.serves 0x78) (hf : formOk d false false 3 m0 m0 m0 m0 = true)
    (hm : fld d.d3 0 2 = 0) (hfree : s.glb.powerRef = none) : completes (.powerState d) s (fun t =>
      t.jrn.head = s.jrn.head + 2 ∧ Completed 0x78 d .queued (s.jrn.head + 1) 0 0 s t ∧
      t.glb.sleep = false ∧ t.glb.powerRef = none ∧ t.twp.asleep = false ∧ t.awn.mode ≠ .sleep) := by
  have hu := accepting_fetched ht
  obtain ⟨⟨hhead, -⟩, -⟩ := acceptRun_spec 0x78 d .queued 0 0 hu
  obtain ⟨hmem, hpaused⟩ := acceptRun_stands 0x78 .queued 0 0 ht
  obtain ⟨x, hawake, hmode⟩ := awaken_eq (powerBegun d (s.fetched d))
  have hd : decodeOp 0x78 d (s.fetched d) = finish (s.nextRef 0x78 d) .ok 0 0 (awaken (powerBegun d (s.fetched d))) :=
    decPowerState_active (s := s.fetched d) hs hf hm hfree
  rw [hawake] at hd
  refine completes_of_acceptRun rfl ht hd hu ((posted_finish _ _ _ _ _).trans rfl) fun t hq hc => ?_
  have hq := hq.trans (quiet_finish .ok 0 0 (by exact hmem) (by exact hpaused))
  exact ⟨(congrArg (fun u : State => u.jrn.head) hq :).trans (congrArg (· + 1) hhead), hc, (congrArg (fun u : State => u.glb.sleep) hq :),
    (congrArg (fun u : State => u.glb.powerRef) hq :), (congrArg (fun u : State => u.twp.asleep) hq :),
    fun h => hmode ((congrArg (fun u : State => u.awn.mode) hq :).symm.trans h)⟩

/-! #### SLEEP -/

@[simp] theorem posted_axDisable (a : Nat) (st : Status) (e : Byte) (s : State) : (axDisable a st e s).posted = s.posted := by
  simp only [axDisable, posted_finishAll]; rfl

@[simp] theorem posted_driveOut (c : Option Nat) (on : Bool) (s : State) : (driveOut c on s).posted = s.posted := by cases c <;> rfl

@[simp] theorem posted_brakeSet (on : Bool) (s : State) : (brakeSet on s).posted = s.posted := posted_driveOut _ _ _

theorem posted_beginSleep (s : State) : (beginSleep s).posted = s.posted := by
  have hclean : (markClean (flush s)).posted = s.posted := posted_of_quiet (quiet_flush s)
  have haxes := foldl_keeps State.posted (fun u a => axDisable a .interlock 0 u) (fun u a => posted_axDisable a .interlock 0 u)
  have hset (u : State) : ({ u with glb.sleep := true } : State).posted = u.posted := rfl
  simp only [beginSleep, hset, apply_ite State.posted, posted_brakeSet, haxes, hclean, ite_self]

theorem posted_powerDone (s : State) : (powerDone s).posted = s.posted := by
  unfold powerDone
  split
  · rfl
  · exact posted_finish _ _ _ _ _

theorem sleep_powerDone (s : State) : (powerDone s).glb.sleep = s.glb.sleep := by
  unfold powerDone
  split
  · rfl
  · exact (congrArg (fun u : State => u.glb.sleep) (rest_finish _ _ _ _ _) :)

/-- SLEEP is entered now, or once LINK has sent SLEEP; in both cases the machine is asleep (R171). -/
theorem decPowerState_sleep {s : State} {d : Desc} (hs : s.serves 0x78) (hf : formOk d false false 3 m0 m0 m0 m0 = true) (hm : fld d.d3 0 2 = 1)
    (hfree : s.glb.powerRef = none) (hawake : s.glb.sleep = false) (hmay : s.maySleep = true) :
    decPowerState d s = beginSleep (powerBegun d s) ∨ decPowerState d s = powerDone (beginSleep (powerBegun d s)) := by
  have hbegun : (powerBegun d s).glb.sleep = false := (congrArg (fun u : State => u.glb.sleep) (rest_acceptRun _ _ _ _ _ s) :).trans hawake
  have hbody : decPowerState d s = if (powerBegun d s).glb.sleep = true then powerDone (powerBegun d s)
      else if ((beginSleep (powerBegun d s)).awn.mode = .data && (beginSleep (powerBegun d s)).isl 6 = .run) = true then beginSleep (powerBegun d s)
      else powerDone (beginSleep (powerBegun d s)) := by
    unfold decPowerState powerBegun
    rw [gate_passes hs (by rw [hf, hm]; rfl)]
    simp only [hfree, hm, hawake, hmay, Option.isSome_none, Bool.false_eq_true, Bool.not_true, Bool.and_false, if_false, Nat.one_ne_zero]
  rw [hbody, hbegun, if_neg Bool.false_ne_true]
  split
  · exact .inl rfl
  · exact .inr rfl

theorem powerState_sleeps {s : State} {d : Desc} (ht : s.takes d) (hs : s.serves 0x78) (hf : formOk d false false 3 m0 m0 m0 m0 = true)
    (hm : fld d.d3 0 2 = 1) (hfree : s.glb.powerRef = none) (hawake : s.glb.sleep = false) (hmay : s.maySleep = true) :
    completes (.powerState d) s (fun t => t.glb.sleep = true ∧ Completed 0x78 d .queued (s.jrn.head + 1) 0 0 s t) := by
  have hsleep : (beginSleep (powerBegun d (s.fetched d))).glb.sleep = true := rfl
  have hpost : (beginSleep (powerBegun d (s.fetched d))).posted = (acceptRun 0x78 d .queued 0 0 (s.fetched d)).posted := posted_beginSleep _
  have hend {v : State} (hd : decodeOp 0x78 d (s.fetched d) = v) (hv : v.posted = (acceptRun 0x78 d .queued 0 0 (s.fetched d)).posted)
      (hg : v.glb.sleep = true) : completes (.powerState d) s (fun t => t.glb.sleep = true ∧ Completed 0x78 d .queued (s.jrn.head + 1) 0 0 s t) :=
    completes_of_acceptRun rfl ht hd (accepting_fetched ht) hv fun t hq hc => ⟨(congrArg (fun u : State => u.glb.sleep) hq :).trans hg, hc⟩
  obtain hd | hd := decPowerState_sleep (s := s.fetched d) hs hf hm hfree hawake hmay
  · exact hend hd hpost hsleep
  · exact hend hd ((posted_powerDone _).trans hpost) ((sleep_powerDone _).trans hsleep)

/-- Settles O5: a filter sets one minimum or all, ACTIVE wakes the machine and ends at once (log 34), and SLEEP leaves it asleep whether or not
LINK has yet to send SLEEP. -/
theorem filterAndPowerComplete : Obligations.FilterAndPowerComplete :=
  ⟨fun s d _ ht hs hf hk hone hm => acceptsOk_of_minSev ht (decEventFilter_one (s := s.fetched d) hs hf hk hone hm),
    fun s d ht hs hf hall hm => acceptsOk_of_minSev ht (decEventFilter_all (s := s.fetched d) hs hf hall hm), fun _ _ => powerState_wakes, fun _ _ => powerState_sleeps⟩

end Sys2Proof.Machine
end

section
/-! A single PARAM_WRITE (R173, R186, R195, R196, Table 6-11). -/

namespace Sys2Proof.Machine

/-! ### What a run of one value asks -/

theorem within_of_formOk {d : Desc} {a b : Bool} {m3 m4 m5 m6 m7 : W32} (h : formOk d a b m3 m4 m5 m6 m7 = true) : within d.d4 m4 = true := by
  simp only [formOk, Bool.and_eq_true] at h
  exact h.1.1.1.2

theorem runBars_single (s : State) (txn : Bool) (run : List (Nat × W24)) (pid : Nat) (v : W24) :
    s.runBars txn run pid [v] = s.valueBars txn run pid v := by
  simp only [State.runBars]
  split
  · next h => exact h.symm
  · next h => exact h.symm

theorem length_assocSet_le {β : Type} (l : List (Nat × β)) (k : Nat) (v : β) : (assocSet l k v).length ≤ l.length + 1 := by
  induction l with
  | nil => rfl
  | cons p l ih =>
    simp only [assocSet]
    split
    · simp
    · simpa using ih

theorem shadowDue_eq (pid : Nat) (s : State) : ∃ a, shadowDue pid s = { s with awn.shadow := a } := by
  unfold shadowDue
  split
  · exact ⟨_, rfl⟩
  · exact ⟨_, rfl⟩

theorem stageOne_eq {pid : Nat} (h : isIdentPid pid = false) (v : W24) (s : State) :
    ∃ a, stageOne pid v s = { s with txn.staged := assocSet s.txn.staged pid v, awn.shadow := a } := by
  obtain ⟨a, ha⟩ := shadowDue_eq pid { s with txn.staged := assocSet s.txn.staged pid v }
  exact ⟨a, by simp only [stageOne, h, Bool.false_eq_true, if_false, ha]⟩

theorem stagedCount_stageOne_le {pid : Nat} (h : isIdentPid pid = false) (v : W24) (s : State) : (stageOne pid v s).stagedCount ≤ s.stagedCount + 1 := by
  obtain ⟨a, ha⟩ := stageOne_eq h v s
  have hlen := length_assocSet_le s.txn.staged pid v
  rw [ha]
  simp only [State.stagedCount]
  omega

section
variable {s : State} {d : Desc} (hs : s.serves 0x09) (hf : formOk d true false 0x1FFFF mA m0 m0 m0 = true) (hone : d.d3.getLsbD 16 = false)
  (hpid : pidExists (fld d.d3 0 16) = true) (hseal : s.sealBars (dTxn d) (fld d.d3 0 16) [arg24 d.d4] = false)
  (hval : s.valueBars (dTxn d) [] (fld d.d3 0 16) (arg24 d.d4) = none)
include hs hf hone hpid hseal hval

/-- The one value that nothing bars is put down for its owner, or staged while there is room (R186, R195). -/
theorem decParamWrite_single (hbars : s.txnBars d = none) (htable : (isTablePid (fld d.d3 0 16) && dTxn d) = false)
    (hact : (dTxn d && s.actBars (fld d.d3 0 16)) = false) : decParamWrite d s =
      if dTxn d = true then
        if 512 < (stageOne (fld d.d3 0 16) (arg24 d.d4) s).stagedCount then refuse 0x09 d .txnFull 0 s
        else acceptOk 0x09 d 1 0 (stageOne (fld d.d3 0 16) (arg24 d.d4) s)
      else acceptOk 0x09 d 1 0 { s with prm.due := assocSet s.prm.due (fld d.d3 0 16) (arg24 d.d4) } := by
  have hlen : ¬ 256 < fld d.d3 0 16 % 256 + 1 := by omega
  unfold decParamWrite
  simp only [hone, Bool.false_eq_true, if_false]
  rw [gate_passes hs hf]
  simp only [hbars, Bool.false_and, Bool.false_eq_true, if_false, writeParams, List.map_cons, List.map_nil, List.length_singleton, hpid, hseal, hact,
    htable, Bool.not_true, List.any_cons, List.any_nil, within_of_formOk hf, Bool.or_self, hlen, runBars_single, hval, stageRun, liveRun]
  rfl

theorem decParamWrite_live (htxn : dTxn d = false) :
    decParamWrite d s = acceptOk 0x09 d 1 0 { s with prm.due := assocSet s.prm.due (fld d.d3 0 16) (arg24 d.d4) } := by
  rw [decParamWrite_single hs hf hone hpid hseal hval (by rw [State.txnBars, htxn]; rfl) (by rw [htxn, Bool.and_false]) (by rw [htxn, Bool.false_and]),
    htxn, if_neg Bool.false_ne_true]

theorem decParamWrite_staged (htxn : dTxn d = true) (hbars : s.txnBars d = none) (htable : isTablePid (fld d.d3 0 16) = false)
    (hident : isIdentPid (fld d.d3 0 16) = false) (hact : s.actBars (fld d.d3 0 16) = false) (hroom : s.stagedCount < 512) :
    decParamWrite d s = acceptOk 0x09 d 1 0 (stageOne (fld d.d3 0 16) (arg24 d.d4) s) := by
  have hcount := stagedCount_stageOne_le hident (arg24 d.d4) s
  rw [decParamWrite_single hs hf hone hpid hseal hval hbars (by rw [htable, Bool.false_and]) (by rw [hact, Bool.and_false]), htxn, if_pos rfl,
    if_neg (by omega)]

end

/-- Settles O8: the run holds one value, which waits for its owner's tick or is staged. -/
theorem paramWriteStagesOrDefers : Obligations.ParamWriteStagesOrDefers := by
  refine ⟨fun s d ht hs hf hone htxn hpid hseal hval => ?live, fun s d ht hs hf hone htxn hbars hpid htable hident hseal hact hval hroom => ?staged⟩
  case live =>
    have hd := decParamWrite_live (s := s.fetched d) hs hf hone hpid (by rw [htxn]; exact hseal) (by rw [htxn]; exact hval) htxn
    refine acceptsOk_of rfl ht hd { accepting_fetched ht with } fun t h => ?_
    have hrest := rest_of_added h
    exact ⟨(congrArg (fun u : State => u.prm.due) hrest :), (congrArg (fun u : State => ({ u with prm.due := [] } : State)) hrest :)⟩
  case staged =>
    have hd := decParamWrite_staged (s := s.fetched d) hs hf hone hpid (by rw [htxn]; exact hseal) (by rw [htxn]; exact hval) htxn hbars htable hident
      hact hroom
    obtain ⟨a, ha⟩ := stageOne_eq hident (arg24 d.d4) (s.fetched d)
    rw [ha] at hd
    refine acceptsOk_of rfl ht hd { accepting_fetched ht with } fun t h => ?_
    have hrest := rest_of_added h
    exact ⟨(congrArg (fun u : State => u.txn.staged) hrest :), (congrArg State.prm hrest :)⟩

end Sys2Proof.Machine
end

section
/-! The lift commands (R174, R349, R350, R360, R362, Table 6-12). -/

namespace Sys2Proof.Machine

theorem liftGate_passes {op : Byte} {d : Desc} {form : Bool} {s : State} {k : State → State} (hs : s.serves op) (hen : s.liftEn = true)
    (hform : form = true) : liftGate op d form s k = k s := by
  rw [liftGate, gate_passes hs hform, hen]; rfl

/-- A command whose whole meaning is its acceptance for later. -/
theorem completes_of_accepted {c : Instr} {op : Byte} {d : Desc} {st : Status} {r : W24} {x : Byte} {s u : State} {P : State → Prop}
    (hx : exec c s = command op d s) (ht : s.takes d) (hd : decodeOp op d (s.fetched d) = acceptRun op d st r x u) (hu : Accepting s u)
    (hP : ∀ t, Journaled op d st s t → Completed op d st (s.jrn.head + 1) r x s t → t.ring.outstanding = s.ring.outstanding ++ [s.nextRef op d] →
      t.rest = u.rest → P t) : completes c s P := by
  obtain ⟨hj, -, ho, -⟩ := acceptRun_spec op d st r x hu
  exact completes_of_acceptRun hx ht hd hu rfl fun t hq hc =>
    hP t (journaled_of_quiet hj hq) hc ((congrArg (fun w : State => w.ring.outstanding) hq :).trans ho)
      ((rest_of_quiet hq).trans (rest_acceptRun _ _ _ _ _ _))

/-! ### LIFT_CALL -/

/-- The call that a LIFT_CALL makes (R349). -/
def State.newCall (s : State) (d : Desc) : Call :=
  ⟨Fin.ofNat 12 (fld d.d3 0 4), Fin.ofNat 4 (fld d.d3 4 2), d.d3.getLsbD 8, (arg24 d.d4).toNat, decide ((arg24 d.d4).toNat = 0),
    s.lift.order, [s.nextRef 0x20 d], false⟩

/-- A call that a LIFT_CALL for its landing joins: the higher priority, the longer dwell, a door cycle if either asks for it (R350). -/
def State.joined (s : State) (d : Desc) (c : Call) : Call :=
  { c with prio := max c.prio (Fin.ofNat 4 (fld d.d3 4 2)), door := c.door || d.d3.getLsbD 8, dwell := max c.dwell (arg24 d.d4).toNat,
           dwellDef := c.dwellDef || decide ((arg24 d.d4).toNat = 0), refs := c.refs ++ [s.nextRef 0x20 d] }

/-- The state with that call added. -/
def State.withNewCall (s : State) (d : Desc) : State :=
  { s with lift.calls := s.lift.calls ++ [s.newCall d], lift.order := s.lift.order + 1 }

/-- The state with the calls for the landing joined. -/
def State.withJoinedCall (s : State) (d : Desc) : State :=
  { s with lift.calls := s.lift.calls.map (fun c => if c.landing.val = fld d.d3 0 4 then s.joined d c else c) }

section
variable {s : State} {d : Desc} (hs : s.serves 0x20) (hen : s.liftEn = true) (hf : formOk d false false 0x13F mA m0 m0 m0 = true)
  (hn : fld d.d3 0 4 < 12) (hw : (arg24 d.d4).toNat ≤ 600000) (hldg : s.ldgEn (fld d.d3 0 4) = true)
  (hprio : (s.pv (ldgP (fld d.d3 0 4) 7)).getLsbD (fld d.d3 4 2) = true) (hdoor : d.d3.getLsbD 8 = true → s.ldgDoor (fld d.d3 0 4) ≠ 0)
  (hhomed : s.lift.st ≠ .notHomed) (hfault : s.lift.st ≠ .fault) (hawake : s.glb.sleep = false)
include hs hen hf hn hw hldg hprio hdoor hhomed hfault hawake

/-- A call that the landing allows joins the one that waits for it, or is added while there is room (R349, R350). -/
theorem decLiftCall_eq : decLiftCall d s = match s.lift.calls.find? (fun c => c.landing.val = fld d.d3 0 4) with
    | some _ => acceptRun 0x20 d .queued (w24 (s.withJoinedCall d).lift.calls.length) 1 (s.withJoinedCall d)
    | none => if 16 ≤ s.lift.calls.length then refuse 0x20 d .busy 3 s
      else acceptRun 0x20 d .queued (w24 (s.lift.calls.length + 1)) 0 (s.withNewCall d) := by
  have hopens : (!d.d3.getLsbD 8 || s.ldgDoor (fld d.d3 0 4) != 0) = true := by
    cases h : d.d3.getLsbD 8 with
    | false => rfl
    | true => simpa using hdoor h
  unfold decLiftCall
  rw [liftGate_passes hs hen (by rw [hf, hldg, hprio, hopens, decide_eq_true hn, decide_eq_true hw]; rfl)]
  simp only [hhomed, hfault, hawake, decide_false, Bool.or_self, Bool.false_eq_true, if_false]
  rfl

theorem decLiftCall_adds (hnew : s.lift.calls.find? (fun c => c.landing.val = fld d.d3 0 4) = none) (hroom : s.lift.calls.length < 16) :
    decLiftCall d s = acceptRun 0x20 d .queued (w24 (s.lift.calls.length + 1)) 0 (s.withNewCall d) := by
  rw [decLiftCall_eq hs hen hf hn hw hldg hprio hdoor hhomed hfault hawake, hnew]
  exact if_neg (by omega)

theorem decLiftCall_joins (hwaits : s.lift.calls.find? (fun c => c.landing.val = fld d.d3 0 4) ≠ none) :
    decLiftCall d s = acceptRun 0x20 d .queued (w24 s.lift.calls.length) 1 (s.withJoinedCall d) := by
  obtain ⟨c, hc⟩ := Option.ne_none_iff_exists'.mp hwaits
  rw [decLiftCall_eq hs hen hf hn hw hldg hprio hdoor hhomed hfault hawake, hc]
  simp only [State.withJoinedCall, List.length_map]

end

/-! ### LIFT_CANCEL -/

/-- A call that a LIFT_CANCEL names and ends: of its landing, or any, and not dispatched (R174). -/
def cancels (d : Desc) (c : Call) : Bool := !c.dispatched && (fld d.d3 0 4 = 15 || c.landing.val = fld d.d3 0 4)

/-- A call that a LIFT_CANCEL leaves. -/
def spares (d : Desc) (c : Call) : Bool := c.dispatched || !(fld d.d3 0 4 = 15 || c.landing.val = fld d.d3 0 4)

theorem decLiftCancel_ends {s : State} {d : Desc} (hs : s.serves 0x21) (hen : s.liftEn = true) (hf : formOk d false false 0xF m0 m0 m0 m0 = true)
    (hn : fld d.d3 0 4 < 12 ∨ fld d.d3 0 4 = 15) (hfree : ∀ c ∈ s.lift.calls, c.dispatched = true → c.landing.val ≠ fld d.d3 0 4) :
    decLiftCancel d s = finishAll ((s.lift.calls.filter (cancels d)).flatMap Call.refs) .superseded 0 0
      (acceptOk 0x21 d (w24 (s.lift.calls.filter (cancels d)).length) 0 { s with lift.calls := s.lift.calls.filter (spares d) }) := by
  have hnum : (decide (fld d.d3 0 4 < 12) || decide (fld d.d3 0 4 = 15)) = true := by simpa using hn
  have hnone : s.lift.calls.any (fun c => c.landing.val = fld d.d3 0 4 && c.dispatched) = false := by
    simp only [List.any_eq_false, Bool.and_eq_true, decide_eq_true_eq]
    exact fun c hc ⟨hland, hdisp⟩ => hfree c hc hdisp hland
  unfold decLiftCancel
  rw [liftGate_passes hs hen (by rw [hf, hnum]; rfl)]
  simp only [hnone, Bool.and_false, Bool.false_eq_true, if_false]
  rfl

/-! ### LIFT_RELEASE -/

/-- The car free of its hold (R360). -/
def State.unheld (s : State) : State :=
  { s with lift.st := .idle, lift.holdCause := 0, lift.holdL3 := false, lift.holdDoor := none, lift.dir := 0 }

theorem decLiftRelease_eq {s : State} {d : Desc} (hs : s.serves 0x24) (hen : s.liftEn = true) (hf : formOk d false false m0 m0 m0 m0 m0 = true) :
    decLiftRelease d s = if (s.lift.st = .hold && !s.holdPersists) = true then raise 0x2005 2 0 0 (acceptOk 0x24 d 1 0 s.unheld)
      else acceptOk 0x24 d 0 0 s := by
  unfold decLiftRelease
  rw [liftGate_passes hs hen hf]
  rfl

/-! ### LIFT_HOLD -/

theorem rest_enterHold (c : Nat) (s : State) : (enterHold c s).rest = ({ s with
    lift.st := .hold, lift.holdCause := Fin.ofNat 7 c, lift.pendHold := none, lift.holdRefs := [], lift.dir := 0, lift.target := 15
    lift.phase := .none, lift.abandon := false, lift.dwell := false, lift.holdL3 := s.lift.holdL3 || c = 6 } : State).rest := by
  simp only [enterHold, rest_finishAll, rest_raise]

@[simp] theorem posted_enterHold (c : Nat) (s : State) : (enterHold c s).posted = s.posted := by
  simp only [enterHold, posted_finishAll, posted_raise]; rfl

/-- The state with a LIFT_HOLD accepted and waiting for its hold. -/
def State.withHoldRef (s : State) (d : Desc) : State :=
  { acceptRun 0x23 d .queued 0 0 s with lift.holdRefs := (acceptRun 0x23 d .queued 0 0 s).lift.holdRefs ++ [s.nextRef 0x23 d] }

theorem lift_acceptRun (op : Byte) (d : Desc) (st : Status) (r : W24) (x : Byte) (s : State) : (acceptRun op d st r x s).lift = s.lift :=
  (congrArg State.lift (rest_acceptRun op d st r x s) :)

theorem decLiftHold_eq {s : State} {d : Desc} (hs : s.serves 0x23) (hen : s.liftEn = true) (hf : formOk d false false m0 m0 m0 m0 m0 = true)
    (hfree : s.lift.st = .idle → s.heldAtSafe 2 = false) (hhomed : s.lift.st ≠ .notHomed) (hfault : s.lift.st ≠ .fault) (hnew : s.lift.st ≠ .hold) :
    decLiftHold d s = holdCause 1 (s.withHoldRef d) := by
  have hbars : (s.heldAtSafe 2 && s.lift.st = .idle) = false := by
    by_cases h : s.lift.st = .idle
    · rw [hfree h]; rfl
    · simp [h]
  unfold decLiftHold
  rw [liftGate_passes hs hen hf]
  simp only [hbars, Bool.false_eq_true, if_false]
  rw [lift_acceptRun]
  split
  · next h => exact absurd h hhomed
  · next h => exact absurd h hfault
  · next h => exact absurd h hnew
  · rw [State.withHoldRef, lift_acceptRun]

/-- In a trip or a door cycle a hold stays pending (R360). -/
theorem holdCause_of_busy {s : State} (c : Nat) (h : s.lift.st = .run ∨ s.lift.st = .approach ∨ s.lift.st = .level ∨ s.lift.st = .dispatch ∨
    s.lift.st = .doorCycle) : holdCause c s = { s with lift.pendHold := some (Fin.ofNat 7 c), lift.holdL3 := s.lift.holdL3 || c = 6 } := by
  unfold holdCause
  rcases h with h | h | h | h | h <;> rw [h]

/-- The state with a LIFT_HOLD accepted and a hold pending on its behalf. -/
def State.withPendingHold (s : State) (d : Desc) : State :=
  { acceptRun 0x23 d .queued 0 0 s with lift := { s.lift with pendHold := some 1, holdRefs := s.lift.holdRefs ++ [s.nextRef 0x23 d] } }

theorem decLiftHold_waits {s : State} {d : Desc} (hs : s.serves 0x23) (hen : s.liftEn = true) (hf : formOk d false false m0 m0 m0 m0 m0 = true)
    (hst : s.lift.st = .run ∨ s.lift.st = .approach ∨ s.lift.st = .level ∨ s.lift.st = .dispatch ∨ s.lift.st = .doorCycle) :
    decLiftHold d s = s.withPendingHold d := by
  have hne (x : CarState) (hx : x = .idle ∨ x = .notHomed ∨ x = .fault ∨ x = .hold) : s.lift.st ≠ x := by
    intro h
    rw [h] at hst
    rcases hx with rfl | rfl | rfl | rfl <;> simp at hst
  have hbusy := holdCause_of_busy (s := s.withHoldRef d) 1 (by rw [State.withHoldRef, lift_acceptRun]; exact hst)
  rw [decLiftHold_eq hs hen hf (fun h => absurd h (hne _ (by simp))) (hne _ (by simp)) (hne _ (by simp)) (hne _ (by simp)), hbusy]
  simp only [State.withHoldRef, State.withPendingHold, lift_acceptRun, Nat.reduceEqDiff, decide_false, Bool.or_false]
  rfl

end Sys2Proof.Machine
end

section
/-! LIFT_HOME (R314, R355, R362, Table 6-12), and what the five lift commands complete as. -/

namespace Sys2Proof.Machine

/-! ### LIFT_HOME -/

theorem rest_endCalls (st : Status) (e : Byte) (s : State) : (endCalls st e s).rest = ({ s with lift.calls := [] } : State).rest := by
  unfold endCalls
  split
  · next h => rw [← List.isEmpty_iff.mp h]
  · rw [rest_raise, rest_finishAll]

@[simp] theorem posted_endCalls (st : Status) (e : Byte) (s : State) : (endCalls st e s).posted = s.posted := by
  simp only [endCalls, apply_ite State.posted, posted_raise, posted_finishAll]; exact ite_self _

/-- The car as a homing leaves it before its stage is looked at: NOT_HOMED, no target, the command as the one that runs (R362). -/
def LiftSt.homing (x : LiftSt) (r : Ref) : LiftSt :=
  { x with st := .notHomed, homeRef := some r, phase := .homeBrake, last := 15, target := 15, dir := 0, dwell := false, holdL3 := false }

/-- A LIFT_HOME accepted, with every call ended. -/
def homeBegun (d : Desc) (s : State) : State :=
  let t := endCalls .superseded 0 (acceptRun 0x22 d .queued 0 0 s)
  { t with lift := t.lift.homing (s.nextRef 0x22 d) }

theorem rest_homeBegun (d : Desc) (s : State) :
    (homeBegun d s).rest = ({ s with lift := { s.lift with calls := [] }.homing (s.nextRef 0x22 d) } : State).rest := by
  have h := (rest_endCalls .superseded 0 (acceptRun 0x22 d .queued 0 0 s)).trans
    (congrArg (fun u : State => ({ u with lift.calls := [] } : State)) (rest_acceptRun 0x22 d .queued 0 0 s))
  exact (congrArg (fun u : State => ({ u with lift := u.lift.homing (s.nextRef 0x22 d) } : State)) h :)

theorem posted_homeBegun (d : Desc) (s : State) : (homeBegun d s).posted = (acceptRun 0x22 d .queued 0 0 s).posted :=
  (posted_endCalls _ _ _).trans rfl

/-- The stage of axis 0 ready. -/
def stageReady (s : State) : State := if (s.axis 0).stage then s else axEnable 0 s

/-- A homing goes on with its brake, or first awaits the stage's verification (R355). -/
def brakeOrVerify (s : State) : State :=
  if (s.axis 0).verifying then axMod 0 (fun x => { x with after := some .stand }) { s with lift.phase := .homeVerify } else brakeSet true s

theorem decLiftHome_begins {s : State} {d : Desc} (hs : s.serves 0x22) (hen : s.liftEn = true) (hf : formOk d false false m0 m0 m0 m0 m0 = true)
    (hawake : s.glb.sleep = false) (hst : s.lift.st = .idle ∨ s.lift.st = .notHomed ∨ s.lift.st = .hold) (hfree : s.lift.homeRef = none)
    (hlift : s.heldAtSafe 2 = false) (haxis : s.axisHeld 0 = false) (hp0 : s.permit 0 = true) (hp16 : s.permit 16 = true)
    (hfault : (s.axis 0).st ≠ .fault) : decLiftHome d s = brakeOrVerify (stageReady (homeBegun d s)) := by
  have hstand : (s.lift.st = .idle || s.lift.st = .notHomed || s.lift.st = .hold) = true := by simpa [or_assoc] using hst
  have hax : (homeBegun d s).axis 0 = s.axis 0 := (congrArg (fun u : State => u.axis 0) (rest_homeBegun d s) :)
  have hne : ¬ ((homeBegun d s).axis 0).st = .fault := by rw [hax]; exact hfault
  unfold decLiftHome
  rw [liftGate_passes hs hen hf]
  simp only [hawake, hstand, hfree, hlift, haxis, hp0, hp16, Option.isSome_none, Bool.not_true, Bool.or_self, Bool.false_eq_true, if_false]
  exact if_neg hne

section
variable (s : State)

/-- Readying the stage leaves alone the car, the channels and permits that gate its brake, and what has been posted. -/
theorem stageReady_keeps : (stageReady s).lift = s.lift ∧ (stageReady s).prm = s.prm ∧ (stageReady s).grd = s.grd ∧
    (stageReady s).posted = s.posted := by
  unfold stageReady axEnable
  split
  · exact ⟨rfl, rfl, rfl, rfl⟩
  · dsimp only
    split <;> exact ⟨rfl, rfl, rfl, rfl⟩

theorem axis_axMod_same {a : Nat} (ha : a < 5) (f : Axis → Axis) : (axMod a f s).axis a = f (s.axis a) := by
  rw [axis_axMod ha, if_pos rfl]

theorem axis_retUsed {a : Nat} (ha : a < 5) : (retUsed a s).axis a = { s.axis a with retained := none, fromRam := false } :=
  axis_axMod_same _ ha _

/-- A stage enabled waits for its verification where it has an encoder, and stands at once where it has none (R283, R314). -/
theorem axis_axEnable {a : Nat} (ha : a < 5) : ((axEnable a s).axis a).stage = true ∧ ((axEnable a s).axis a).verifying = s.encOn a ∧
    (s.encOn a = true → ((axEnable a s).axis a).st = .enabling) := by
  cases h : s.encOn a with
  | true =>
    simp only [axEnable, h, if_true, axis_axMod_same s ha]
    exact ⟨rfl, rfl, fun _ => rfl⟩
  | false =>
    simp only [axEnable, h, Bool.false_eq_true, if_false, axis_retUsed _ ha, axis_axMod_same s ha]
    exact ⟨rfl, rfl, False.elim⟩

end

/-- The stage of axis 0 once it is ready: as it stood, or enabled now. -/
theorem axis_stageReady (s : State) : ((stageReady s).axis 0).stage = true ∧
    ((s.axis 0).stage = true ∧ (s.axis 0).verifying = false ∨ (s.axis 0).stage = false ∧ s.encOn 0 = false → ((stageReady s).axis 0).verifying = false) ∧
    ((s.axis 0).stage = false → s.encOn 0 = true → ((stageReady s).axis 0).verifying = true ∧ ((stageReady s).axis 0).st = .enabling) := by
  obtain ⟨hstage, hverify, hst⟩ := axis_axEnable s (a := 0) (by decide)
  unfold stageReady
  cases h : (s.axis 0).stage with
  | true => simp [h]
  | false => simp +contextual [hstage, hverify, hst]

theorem axis_brakeSet (on : Bool) (s : State) (a : Nat) : (brakeSet on s).axis a = s.axis a := by
  have hdrive (c : Option Nat) (u : State) : (driveOut c on u).axis a = u.axis a := by cases c <;> rfl
  exact hdrive _ _

/-- Whether the brake's output channel lets it be on (R364). -/
def State.brakeGranted (s : State) : Bool := match s.chan 0x2002 with
  | none => true
  | some c => s.outGranted c

theorem brakeGranted_congr {s t : State} (hprm : t.prm = s.prm) (hgrd : t.grd = s.grd) : t.brakeGranted = s.brakeGranted := by
  have h (u : State) : u.brakeGranted = ({ State.reset with prm := u.prm, grd := u.grd } : State).brakeGranted := rfl
  rw [h t, h s, hprm, hgrd]

theorem lift_brakeSet (on : Bool) (s : State) : (brakeSet on s).lift = { s.lift with brake := on && s.brakeGranted && s.permit 16 } := by
  have hdrive (c : Option Nat) (u : State) : (driveOut c on u).lift = u.lift := by cases c <;> rfl
  exact hdrive _ _

/-- A stage that verifies holds the homing up, with the brake as it stands. -/
theorem brakeOrVerify_awaits {s : State} (h : (s.axis 0).verifying = true) : (brakeOrVerify s).lift = { s.lift with phase := .homeVerify } ∧
    (brakeOrVerify s).axis 0 = { s.axis 0 with after := some .stand } := by
  rw [brakeOrVerify, if_pos h]
  exact ⟨rfl, axis_axMod_same { s with lift.phase := .homeVerify } (by decide) _⟩

theorem brakeOrVerify_brakes {s : State} (h : (s.axis 0).verifying = false) :
    (brakeOrVerify s).lift = { s.lift with brake := s.brakeGranted && s.permit 16 } ∧ (brakeOrVerify s).axis 0 = s.axis 0 := by
  rw [brakeOrVerify, if_neg (by rw [h]; exact Bool.false_ne_true)]
  exact ⟨lift_brakeSet true s, axis_brakeSet true s 0⟩

theorem posted_brakeOrVerify (s : State) : (brakeOrVerify s).posted = s.posted := by
  unfold brakeOrVerify
  split
  · rfl
  · exact posted_brakeSet _ _

/-- What a LIFT_HOME leaves, by what the stage of axis 0 was and whether it has an encoder (R314, R355, R362; the verification is log 80). -/
theorem liftHome_begins {s : State} {d : Desc} (ht : s.takes d) (hs : s.serves 0x22) (hen : s.liftEn = true)
    (hf : formOk d false false m0 m0 m0 m0 m0 = true) (hawake : s.glb.sleep = false)
    (hst : s.lift.st = .idle ∨ s.lift.st = .notHomed ∨ s.lift.st = .hold) (hfree : s.lift.homeRef = none)
    (hlift : s.heldAtSafe 2 = false) (haxis : s.axisHeld 0 = false) (hp0 : s.permit 0 = true) (hp16 : s.permit 16 = true)
    (hfault : (s.axis 0).st ≠ .fault) :
    completes (.liftHome d) s (fun t => Completed 0x22 d .queued (s.jrn.head + 1) 0 0 s t ∧ t.lift.st = .notHomed ∧
      t.lift.homeRef = some (s.nextRef 0x22 d) ∧ t.lift.calls = [] ∧ t.lift.last = 15 ∧ t.lift.target = 15 ∧ (t.axis 0).stage = true ∧
      ((s.axis 0).stage = true ∧ (s.axis 0).verifying = false ∨ (s.axis 0).stage = false ∧ s.encOn 0 = false →
        t.lift.phase = .homeBrake ∧ t.lift.brake = s.brakeGranted) ∧
      ((s.axis 0).stage = false → s.encOn 0 = true →
        t.lift.phase = .homeVerify ∧ t.lift.brake = s.lift.brake ∧ (t.axis 0).st = .enabling ∧ (t.axis 0).verifying = true)) := by
  have hd := decLiftHome_begins (s := s.fetched d) hs hen hf hawake hst hfree hlift haxis hp0 hp16 hfault
  have hrest := rest_homeBegun d (s.fetched d)
  have hpost := posted_homeBegun d (s.fetched d)
  generalize homeBegun d (s.fetched d) = u at hd hrest hpost
  obtain ⟨hl, hprm, hgrd, hp⟩ := stageReady_keeps u
  obtain ⟨hstage, hstands, hverify⟩ := axis_stageReady u
  generalize stageReady u = w at hd hl hprm hgrd hp hstage hstands hverify
  have hcar : w.lift = { s.lift with calls := [] }.homing (s.nextRef 0x22 d) := hl.trans (congrArg State.lift hrest :)
  have hax : u.axis 0 = s.axis 0 := (congrArg (fun x : State => x.axis 0) hrest :)
  have henc : u.encOn 0 = s.encOn 0 := (congrArg (fun x : State => x.encOn 0) hrest :)
  have hgranted : w.brakeGranted = s.brakeGranted := brakeGranted_congr (hprm.trans (congrArg State.prm hrest :)) (hgrd.trans (congrArg State.grd hrest :))
  have hpermit : w.permit 16 = true := (congrArg (fun g : GuardSt => g.permits.getLsbD 16) (hgrd.trans (congrArg State.grd hrest :)) :).trans hp16
  rw [hax, henc] at hstands hverify
  refine completes_of_acceptRun rfl ht hd (accepting_fetched ht) ((posted_brakeOrVerify w).trans (hp.trans hpost)) fun t hq hc => ?_
  have htl : t.lift = (brakeOrVerify w).lift := (congrArg State.lift hq :)
  have hta : t.axis 0 = (brakeOrVerify w).axis 0 := axis_of_quiet hq 0
  rw [htl, hta]
  cases h : (w.axis 0).verifying with
  | true =>
    obtain ⟨hl', ha'⟩ := brakeOrVerify_awaits h
    rw [hl', ha', hcar]
    exact ⟨hc, rfl, rfl, rfl, rfl, rfl, hstage, fun hno => absurd (h.symm.trans (hstands hno)) (by decide),
      fun hoff hon => ⟨rfl, rfl, (hverify hoff hon).2, h⟩⟩
  | false =>
    obtain ⟨hl', ha'⟩ := brakeOrVerify_brakes h
    rw [hl', ha', hcar, hgranted, hpermit, Bool.and_true]
    exact ⟨hc, rfl, rfl, rfl, rfl, rfl, hstage, fun _ => ⟨rfl, rfl⟩, fun hoff hon => absurd (h.symm.trans (hverify hoff hon).1) (by decide)⟩

/-! ### The statement -/

theorem liftCall_adds {s : State} {d : Desc} (ht : s.takes d)
    (hd : decLiftCall d (s.fetched d) = acceptRun 0x20 d .queued (w24 (s.lift.calls.length + 1)) 0 ((s.fetched d).withNewCall d)) :
    completes (.liftCall d) s (fun t => Journaled 0x20 d .queued s t ∧
      Completed 0x20 d .queued (s.jrn.head + 1) (w24 (s.lift.calls.length + 1)) 0 s t ∧
      t.ring.outstanding = s.ring.outstanding ++ [s.nextRef 0x20 d] ∧
      t.lift = { s.lift with calls := s.lift.calls ++ [s.newCall d], order := s.lift.order + 1 } ∧
      ({ t.rest with lift := {} } : State) = { s.rest with lift := {} }) :=
  completes_of_accepted rfl ht hd { accepting_fetched ht with } fun _ hj hc ho hr =>
    ⟨hj, hc, ho, (congrArg State.lift hr :), (congrArg (fun u : State => ({ u with lift := {} } : State)) hr :)⟩

theorem liftCall_joins {s : State} {d : Desc} (ht : s.takes d)
    (hd : decLiftCall d (s.fetched d) = acceptRun 0x20 d .queued (w24 s.lift.calls.length) 1 ((s.fetched d).withJoinedCall d)) :
    completes (.liftCall d) s (fun t => Journaled 0x20 d .queued s t ∧
      Completed 0x20 d .queued (s.jrn.head + 1) (w24 s.lift.calls.length) 1 s t ∧
      t.lift = { s.lift with calls := s.lift.calls.map (fun c => if c.landing.val = fld d.d3 0 4 then s.joined d c else c) } ∧
      ({ t.rest with lift := {} } : State) = { s.rest with lift := {} }) :=
  completes_of_accepted rfl ht hd { accepting_fetched ht with } fun _ hj hc _ hr =>
    ⟨hj, hc, (congrArg State.lift hr :), (congrArg (fun u : State => ({ u with lift := {} } : State)) hr :)⟩

theorem liftCancel_ends {s : State} {d : Desc} (ht : s.takes d) (hs : s.serves 0x21) (hen : s.liftEn = true)
    (hf : formOk d false false 0xF m0 m0 m0 m0 = true) (hn : fld d.d3 0 4 < 12 ∨ fld d.d3 0 4 = 15)
    (hfree : ∀ c ∈ s.lift.calls, c.dispatched = true → c.landing.val ≠ fld d.d3 0 4) : completes (.liftCancel d) s (fun t =>
      Completed 0x21 d .ok (s.jrn.head + 1) (w24 (s.lift.calls.filter (cancels d)).length) 0 s t ∧
      t.lift = { s.lift with calls := s.lift.calls.filter (spares d) } ∧ ({ t.rest with lift := {} } : State) = { s.rest with lift := {} }) := by
  have hd := decLiftCancel_ends (s := s.fetched d) hs hen hf hn hfree
  have hu : Accepting s { s.fetched d with lift.calls := s.lift.calls.filter (spares d) } := { accepting_fetched ht with }
  refine completes_of_acceptOk rfl ht hd hu (posted_finishAll _ _ _ _ _) fun t hq hc => ?_
  have hr := ((rest_of_quiet hq).trans (rest_finishAll _ _ _ _ _)).trans (rest_acceptOk _ _ _ _ _)
  exact ⟨hc, (congrArg State.lift hr :), (congrArg (fun u : State => ({ u with lift := {} } : State)) hr :)⟩

theorem liftHold_holds {s : State} {d : Desc} (ht : s.takes d) (hs : s.serves 0x23) (hen : s.liftEn = true)
    (hf : formOk d false false m0 m0 m0 m0 m0 = true) (hst : s.lift.st = .idle) (hfree : s.heldAtSafe 2 = false) :
    completes (.liftHold d) s (fun t => Completed 0x23 d .queued (s.jrn.head + 1) 0 0 s t ∧ t.lift.st = .hold ∧
      t.lift.holdCause = 1 ∧ t.lift.pendHold = none ∧ t.lift.holdRefs = [] ∧ t.lift.calls = s.lift.calls) := by
  have hne (x : CarState) (hx : x ≠ .idle) : (s.fetched d).lift.st ≠ x := fun h => hx (h.symm.trans hst)
  have hd := decLiftHold_eq (s := s.fetched d) hs hen hf (fun _ => hfree) (hne _ (by decide)) (hne _ (by decide)) (hne _ (by decide))
  have hidle : ((s.fetched d).withHoldRef d).lift.st = .idle := (congrArg LiftSt.st (lift_acceptRun 0x23 d .queued 0 0 (s.fetched d)) :).trans hst
  have henter : holdCause 1 ((s.fetched d).withHoldRef d) = enterHold 1 ((s.fetched d).withHoldRef d) := by rw [holdCause, hidle]
  have hpost : (enterHold 1 ((s.fetched d).withHoldRef d)).posted = (acceptRun 0x23 d .queued 0 0 (s.fetched d)).posted := posted_enterHold _ _
  refine completes_of_acceptRun rfl ht (hd.trans henter) (accepting_fetched ht) hpost fun t hq hc => ?_
  have hr := (rest_of_quiet hq).trans (rest_enterHold 1 _)
  have hcalls : ((s.fetched d).withHoldRef d).lift.calls = s.lift.calls := (congrArg LiftSt.calls (lift_acceptRun 0x23 d .queued 0 0 (s.fetched d)) :)
  exact ⟨hc, (congrArg (fun u : State => u.lift.st) hr :), (congrArg (fun u : State => u.lift.holdCause) hr :),
    (congrArg (fun u : State => u.lift.pendHold) hr :), (congrArg (fun u : State => u.lift.holdRefs) hr :),
    (congrArg (fun u : State => u.lift.calls) hr :).trans hcalls⟩

theorem liftHold_waits {s : State} {d : Desc} (ht : s.takes d) (hs : s.serves 0x23) (hen : s.liftEn = true)
    (hf : formOk d false false m0 m0 m0 m0 m0 = true)
    (hst : s.lift.st = .run ∨ s.lift.st = .approach ∨ s.lift.st = .level ∨ s.lift.st = .dispatch ∨ s.lift.st = .doorCycle) :
    acceptsLater (.liftHold d) 0x23 d .queued s (fun t =>
      t.lift = { s.lift with pendHold := some 1, holdRefs := s.lift.holdRefs ++ [s.nextRef 0x23 d] } ∧
      ({ t.rest with lift := {} } : State) = { s.rest with lift := {} }) := by
  have hd := decLiftHold_waits (s := s.fetched d) hs hen hf hst
  have hu := accepting_fetched ht
  refine acceptsLater_of rfl ht hd hu rfl rfl rfl rfl (acceptRun_awake 0x23 d .queued 0 0 hu) fun t hq => ⟨(congrArg State.lift hq :), ?_⟩
  have hr := rest_acceptRun 0x23 d .queued 0 0 (s.fetched d)
  exact ((congrArg (fun u : State => ({ u with lift := {} } : State)) (rest_of_quiet hq) :).trans
    (congrArg (fun u : State => ({ u with lift := {} } : State)) hr :))

theorem liftRelease_frees {s : State} {d : Desc} (ht : s.takes d) (hs : s.serves 0x24) (hen : s.liftEn = true)
    (hf : formOk d false false m0 m0 m0 m0 m0 = true) (hst : s.lift.st = .hold) (hp : s.holdPersists = false) :
    acceptsOk (.liftRelease d) 0x24 d 1 0 s (fun t => t.lift = s.unheld.lift ∧ ({ t.rest with lift := {} } : State) = { s.rest with lift := {} }) := by
  have hd := (decLiftRelease_eq (s := s.fetched d) hs hen hf).trans (if_pos (by
    rw [Bool.and_eq_true, decide_eq_true_eq]; exact ⟨hst, by rw [show (s.fetched d).holdPersists = false from hp]; rfl⟩))
  have hu : Accepting s (s.fetched d).unheld := { accepting_fetched ht with }
  refine acceptsOk_of_meaning (op := 0x24) rfl ht hd hu (quiet_raise _ _ _ _ _) fun t h => ?_
  have hr := rest_of_added h
  exact ⟨(congrArg State.lift hr :), (congrArg (fun u : State => ({ u with lift := {} } : State)) hr :)⟩

theorem liftRelease_holds {s : State} {d : Desc} (ht : s.takes d) (hs : s.serves 0x24) (hen : s.liftEn = true)
    (hf : formOk d false false m0 m0 m0 m0 m0 = true) (h : s.lift.st ≠ .hold ∨ s.holdPersists = true) :
    acceptsOk (.liftRelease d) 0x24 d 0 0 s (OnlyRings s) := by
  have hd := (decLiftRelease_eq (s := s.fetched d) hs hen hf).trans (if_neg (by
    rw [Bool.and_eq_true, decide_eq_true_eq]
    rintro ⟨hst, hp⟩
    rcases h with h | h
    · exact h hst
    · rw [show (s.fetched d).holdPersists = true from h] at hp; exact Bool.false_ne_true hp))
  exact acceptsOk_of rfl ht hd (accepting_fetched ht) fun _ h => onlyRings_of_added h rfl

/-- Settles O20, command by command. A stage with an encoder awaits its verification before a homing goes on (log 80). -/
theorem liftCommandsComplete : Obligations.LiftCommandsComplete := by
  refine ⟨fun s d ht hs hen hf hn hw hldg hprio hdoor hhomed hfault hawake => ⟨fun hnew hroom => ?_, fun hwaits => ?_⟩, fun s d => liftCancel_ends,
    fun s d ht hs hen hf => liftHome_begins ht hs hen hf, fun s d ht hs hen hf => ⟨liftHold_holds ht hs hen hf, liftHold_waits ht hs hen hf⟩,
    fun s d ht hs hen hf => ⟨liftRelease_frees ht hs hen hf, liftRelease_holds ht hs hen hf⟩⟩
  · exact liftCall_adds ht (decLiftCall_adds (s := s.fetched d) hs hen hf hn hw hldg hprio hdoor hhomed hfault hawake hnew hroom)
  · exact liftCall_joins ht (decLiftCall_joins (s := s.fetched d) hs hen hf hn hw hldg hprio hdoor hhomed hfault hawake hwaits)

end Sys2Proof.Machine
end

section
/-! The door commands (R175, R379 to R381, Table 6-12). -/

namespace Sys2Proof.Machine

/-! ### One door changed -/

theorem fld_one_lt (v : W32) : fld v 0 1 < 2 := (v.extractLsb' 0 1).isLt

theorem dr_drMod {k : Nat} (hk : k < 2) (f : Door → Door) (s : State) (j : Nat) : (drMod k f s).dr j = if j = k then f (s.dr k) else s.dr j := by
  by_cases hj : j = k
  · subst hj; simp [State.dr, drMod, vmap, vget, List.getD_eq_getElem?_getD, hk]
  · simp [State.dr, drMod, vmap, vget, List.getD_eq_getElem?_getD, List.getElem?_set_ne (Ne.symm hj), hj]

theorem drMod_drMod {k : Nat} (hk : k < 2) (f g : Door → Door) (s : State) : drMod k f (drMod k g s) = drMod k (fun x => f (g x)) s := by
  have h : ((drMod k g s).dr k) = g (s.dr k) := by rw [dr_drMod hk, if_pos rfl]
  show ({ s with door := (s.door.setIfInBounds k (g (s.dr k))).setIfInBounds k (f ((drMod k g s).dr k)) } : State) = _
  rw [h, Vector.setIfInBounds_setIfInBounds]
  rfl

/-- From `s` to `t`, apart from reports, journal and rings, door `k` becomes `x` and nothing else changes. -/
def DoorOnly (k : Nat) (x : Door) (s t : State) : Prop :=
  t.dr k = x ∧ (∀ j, j ≠ k → t.dr j = s.dr j) ∧ ({ t.rest with door := s.door } : State) = s.rest

theorem doorOnly_of_rest {k : Nat} (hk : k < 2) {f : Door → Door} {s t : State} (h : t.rest = drMod k f s.rest) : DoorOnly k (f (s.dr k)) s t := by
  have hdr (j : Nat) : t.dr j = if j = k then f (s.dr k) else s.dr j := (congrArg (fun u : State => u.dr j) h :).trans (dr_drMod hk f s.rest j)
  exact ⟨(hdr k).trans (if_pos rfl), fun j hj => (hdr j).trans (if_neg hj), (congrArg (fun u : State => ({ u with door := s.door } : State)) h :)⟩

theorem rest_drMod (k : Nat) (f : Door → Door) (s : State) : (drMod k f s).rest = drMod k f s.rest := rfl

@[simp] theorem posted_drMod (k : Nat) (f : Door → Door) (s : State) : (drMod k f s).posted = s.posted := rfl

theorem rest_endOpen (k : Nat) (st : Status) (e : Byte) (s : State) :
    (endOpen k st e s).rest = drMod k (fun x => { x with openRefs := [] }) s.rest := rest_finishAll _ _ _ _ _

theorem rest_endClose (k : Nat) (st : Status) (e : Byte) (s : State) :
    (endClose k st e s).rest = drMod k (fun x => { x with closeRefs := [] }) s.rest := rest_finishAll _ _ _ _ _

@[simp] theorem posted_endOpen (k : Nat) (st : Status) (e : Byte) (s : State) : (endOpen k st e s).posted = s.posted :=
  posted_finishAll _ _ _ _ _

@[simp] theorem posted_endClose (k : Nat) (st : Status) (e : Byte) (s : State) : (endClose k st e s).posted = s.posted :=
  posted_finishAll _ _ _ _ _

/-! ### The meanings -/

theorem doorGate_passes {op : Byte} {d : Desc} {form : Bool} {s : State} {k : Nat → State → State} (hs : s.serves op) (hform : form = true)
    (hen : s.drEn (fld d.d3 0 1) = true) (hfree : (s.dr (fld d.d3 0 1)).cycle = false) :
    doorGate op d form s k = k (fld d.d3 0 1) s := by
  simp only [doorGate]
  rw [gate_passes hs (by rw [hform, hen]; rfl)]
  simp only [hfree, Bool.false_eq_true, if_false]

/-- The hold-open time that a DOOR_OPEN asks for; none asks for the parameter (R379). -/
def openHold (d : Desc) : Option Nat := if d.d4 = 0#32 then none else some (arg24 d.d4).toNat

section
variable {s : State} {d : Desc} (hs : s.serves 0x28) (hf : formOk d false false 1 mA m0 m0 m0 = true) (hw : (arg24 d.d4).toNat ≤ 600000)
  (hen : s.drEn (fld d.d3 0 1) = true) (hfree : (s.dr (fld d.d3 0 1)).cycle = false) (hawake : s.glb.sleep = false) (hlift : s.heldAtSafe 2 = false)
  (haxis : s.axisHeld (fld d.d3 0 1 + 1) = false) (hpermit : s.drPermit (fld d.d3 0 1) = true)
include hs hf hw hen hfree hawake hlift haxis hpermit

theorem decDoorOpen_opens (hst : (s.dr (fld d.d3 0 1)).st = .closedLocked) : decDoorOpen d s =
    endClose (fld d.d3 0 1) .superseded 0 (drMod (fld d.d3 0 1)
      (fun y => { y with openRefs := y.openRefs ++ [s.nextRef 0x28 d], openDue := true, closeDue := false })
      (drMod (fld d.d3 0 1) (fun y => { y with holdMs := openHold d }) (acceptRun 0x28 d .queued 0 0 s))) := by
  unfold decDoorOpen
  rw [doorGate_passes hs (by rw [hf, decide_eq_true hw]; rfl) hen hfree]
  simp only [hst, hawake, hlift, haxis, hpermit, Bool.or_self, Bool.not_true, Bool.false_eq_true, if_false, reduceCtorEq]
  rfl

theorem decDoorOpen_prolongs (hst : (s.dr (fld d.d3 0 1)).st = .opened) : decDoorOpen d s =
    finish (s.nextRef 0x28 d) .ok 0 0 (drMod (fld d.d3 0 1)
      (fun y => { y with
        holdEnd := some (s.now + (openHold d).getD (s.pn (drP (fld d.d3 0 1) 0x0C)) * 1000), holdInf := false, closeDue := false })
      (drMod (fld d.d3 0 1) (fun y => { y with holdMs := openHold d }) (acceptRun 0x28 d .queued 0 0 s))) := by
  unfold decDoorOpen
  rw [doorGate_passes hs (by rw [hf, decide_eq_true hw]; rfl) hen hfree]
  simp only [hst, hawake, hlift, haxis, hpermit, Bool.or_self, Bool.not_true, Bool.false_eq_true, if_false, reduceCtorEq]
  rfl

end

section
variable {s : State} {d : Desc} (hs : s.serves 0x29) (hf : formOk d false false 1 m0 m0 m0 m0 = true)
  (hen : s.drEn (fld d.d3 0 1) = true) (hfree : (s.dr (fld d.d3 0 1)).cycle = false) (hawake : s.glb.sleep = false)
include hs hf hen hfree hawake

theorem decDoorClose_closes (hlift : s.heldAtSafe 2 = false) (haxis : s.axisHeld (fld d.d3 0 1 + 1) = false)
    (hst : (s.dr (fld d.d3 0 1)).st = .opened) : decDoorClose d s =
      endOpen (fld d.d3 0 1) .superseded 0 (drMod (fld d.d3 0 1)
        (fun y => { y with closeRefs := y.closeRefs ++ [s.nextRef 0x29 d], closeDue := true, openDue := false, holdInf := false })
        (acceptRun 0x29 d .queued 0 0 s)) := by
  unfold decDoorClose
  rw [doorGate_passes hs hf hen hfree]
  simp only [hst, hawake, hlift, haxis, Bool.or_self, Bool.false_and, Bool.false_eq_true, if_false]

theorem decDoorClose_ends (hst : (s.dr (fld d.d3 0 1)).st = .closedLocked) : decDoorClose d s =
    finish (s.nextRef 0x29 d) .ok 0 0 (endOpen (fld d.d3 0 1) .superseded 0
      (drMod (fld d.d3 0 1) (fun y => { y with openDue := false }) (acceptRun 0x29 d .queued 0 0 s))) := by
  unfold decDoorClose
  rw [doorGate_passes hs hf hen hfree]
  simp only [hst, hawake, bne_self_eq_false, Bool.and_false, Bool.false_eq_true, if_false]

end

/-- An OPEN door with a DOOR_HOLD on it: held with no end for 0, else for longer, at most 600 s in all (R381, log 88). -/
def Door.held (x : Door) (now n : Nat) : Door :=
  if n = 0 then { x with holdInf := true, closeDue := false }
  else { x with closeDue := false, holdEnd := some (now + min 600000000 ((x.holdEnd.getD now) - now + n * 1000)) }

theorem decDoorHold_holds {s : State} {d : Desc} (hs : s.serves 0x2A) (hf : formOk d false false 1 mA m0 m0 m0 = true)
    (hen : s.drEn (fld d.d3 0 1) = true) (hfree : (s.dr (fld d.d3 0 1)).cycle = false) (hst : (s.dr (fld d.d3 0 1)).st = .opened) :
    decDoorHold d s = acceptOk 0x2A d 0 0
      (drMod (fld d.d3 0 1) (fun _ => (s.dr (fld d.d3 0 1)).held s.now (arg24 d.d4).toNat) s) := by
  unfold decDoorHold
  rw [doorGate_passes hs hf hen hfree]
  exact if_neg (by rw [hst]; decide)

/-! ### The completions -/

/-- A door command that is accepted, and whose meaning goes on with its door alone. -/
theorem completes_of_door {c : Instr} {op : Byte} {d : Desc} {s v : State} {k : Nat} {f : Door → Door} {P : State → Prop} (hk : k < 2)
    (hx : exec c s = command op d s) (ht : s.takes d) (hd : decodeOp op d (s.fetched d) = v)
    (hpost : v.posted = (acceptRun op d .queued 0 0 (s.fetched d)).posted) (hrest : v.rest = drMod k f s.rest)
    (hP : ∀ t, t.quiet = v.quiet → Completed op d .queued (s.jrn.head + 1) 0 0 s t → DoorOnly k (f (s.dr k)) s t → P t) : completes c s P :=
  completes_of_acceptRun hx ht hd (accepting_fetched ht) hpost fun t hq hc => hP t hq hc (doorOnly_of_rest hk ((rest_of_quiet hq).trans hrest))

section
variable {s : State} {d : Desc} (ht : s.takes d) (hs : s.serves 0x28) (hf : formOk d false false 1 mA m0 m0 m0 = true)
  (hw : (arg24 d.d4).toNat ≤ 600000) (hen : s.drEn (fld d.d3 0 1) = true) (hfree : (s.dr (fld d.d3 0 1)).cycle = false)
  (hawake : s.glb.sleep = false) (hlift : s.heldAtSafe 2 = false) (haxis : s.axisHeld (fld d.d3 0 1 + 1) = false)
  (hpermit : s.drPermit (fld d.d3 0 1) = true)
include ht hs hf hw hen hfree hawake hlift haxis hpermit

theorem doorOpen_opens (hst : (s.dr (fld d.d3 0 1)).st = .closedLocked) : completes (.doorOpen d) s (fun t =>
    Completed 0x28 d .queued (s.jrn.head + 1) 0 0 s t ∧ DoorOnly (fld d.d3 0 1) { s.dr (fld d.d3 0 1) with
      holdMs := openHold d, openRefs := (s.dr (fld d.d3 0 1)).openRefs ++ [s.nextRef 0x28 d]
      openDue := true, closeDue := false, closeRefs := [] } s t) := by
  have hk := fld_one_lt d.d3
  have hd := decDoorOpen_opens (s := s.fetched d) hs hf hw hen hfree hawake hlift haxis hpermit hst
  exact completes_of_door hk rfl ht hd (by simp only [posted_endClose, posted_drMod])
    (by simp only [rest_endClose, rest_drMod, rest_acceptRun, rest_fetched, drMod_drMod hk]; rfl) fun t _ hc hdoor => ⟨hc, hdoor⟩

theorem doorOpen_prolongs (hst : (s.dr (fld d.d3 0 1)).st = .opened) : completes (.doorOpen d) s (fun t =>
    Completed 0x28 d .queued (s.jrn.head + 1) 0 0 s t ∧
    t.ring.outstanding = (s.ring.outstanding ++ [s.nextRef 0x28 d]).erase (s.nextRef 0x28 d) ∧
    DoorOnly (fld d.d3 0 1) { s.dr (fld d.d3 0 1) with
      holdMs := openHold d, holdEnd := some (s.now + (openHold d).getD (s.pn (drP (fld d.d3 0 1) 0x0C)) * 1000)
      holdInf := false, closeDue := false } s t) := by
  have hk := fld_one_lt d.d3
  have hd := decDoorOpen_prolongs (s := s.fetched d) hs hf hw hen hfree hawake hlift haxis hpermit hst
  obtain ⟨-, -, ho, -⟩ := acceptRun_spec 0x28 d .queued 0 0 (accepting_fetched ht)
  obtain ⟨hmem, hpaused⟩ := acceptRun_stands 0x28 .queued 0 0 ht
  refine completes_of_door hk rfl ht hd (by simp only [posted_finish, posted_drMod])
    (by simp only [rest_finish, rest_drMod, rest_acceptRun, rest_fetched, drMod_drMod hk]; rfl) fun t hq hc hdoor => ⟨hc, ?_, hdoor⟩
  have hq := hq.trans (quiet_finish .ok 0 0 (by exact hmem) (by exact hpaused))
  exact (congrArg (fun u : State => u.ring.outstanding) hq :).trans (congrArg (·.erase (s.nextRef 0x28 d)) ho :)

end

section
variable {s : State} {d : Desc} (ht : s.takes d) (hs : s.serves 0x29) (hf : formOk d false false 1 m0 m0 m0 m0 = true)
  (hen : s.drEn (fld d.d3 0 1) = true) (hfree : (s.dr (fld d.d3 0 1)).cycle = false) (hawake : s.glb.sleep = false)
include ht hs hf hen hfree hawake

theorem doorClose_closes (hst : (s.dr (fld d.d3 0 1)).st = .opened) (hlift : s.heldAtSafe 2 = false)
    (haxis : s.axisHeld (fld d.d3 0 1 + 1) = false) : completes (.doorClose d) s (fun t =>
      Completed 0x29 d .queued (s.jrn.head + 1) 0 0 s t ∧ DoorOnly (fld d.d3 0 1) { s.dr (fld d.d3 0 1) with
        closeRefs := (s.dr (fld d.d3 0 1)).closeRefs ++ [s.nextRef 0x29 d], closeDue := true, openDue := false
        holdInf := false, openRefs := [] } s t) := by
  have hk := fld_one_lt d.d3
  have hd := decDoorClose_closes (s := s.fetched d) hs hf hen hfree hawake hlift haxis hst
  exact completes_of_door hk rfl ht hd (by simp only [posted_endOpen, posted_drMod])
    (by simp only [rest_endOpen, rest_drMod, rest_acceptRun, rest_fetched, drMod_drMod hk]; rfl) fun t _ hc hdoor => ⟨hc, hdoor⟩

theorem doorClose_ends (hst : (s.dr (fld d.d3 0 1)).st = .closedLocked) : completes (.doorClose d) s (fun t =>
    Completed 0x29 d .queued (s.jrn.head + 1) 0 0 s t ∧
    DoorOnly (fld d.d3 0 1) { s.dr (fld d.d3 0 1) with openDue := false, openRefs := [] } s t) := by
  have hk := fld_one_lt d.d3
  have hd := decDoorClose_ends (s := s.fetched d) hs hf hen hfree hawake hst
  exact completes_of_door hk rfl ht hd (by simp only [posted_finish, posted_endOpen, posted_drMod])
    (by simp only [rest_finish, rest_endOpen, rest_drMod, rest_acceptRun, rest_fetched, drMod_drMod hk]; rfl) fun t _ hc hdoor => ⟨hc, hdoor⟩

end

theorem doorHold_holds {s : State} {d : Desc} (ht : s.takes d) (hs : s.serves 0x2A) (hf : formOk d false false 1 mA m0 m0 m0 = true)
    (hen : s.drEn (fld d.d3 0 1) = true) (hfree : (s.dr (fld d.d3 0 1)).cycle = false) (hst : (s.dr (fld d.d3 0 1)).st = .opened) :
    acceptsOk (.doorHold d) 0x2A d 0 0 s (DoorOnly (fld d.d3 0 1) ((s.dr (fld d.d3 0 1)).held s.now (arg24 d.d4).toNat) s) := by
  have hd := decDoorHold_holds (s := s.fetched d) hs hf hen hfree hst
  have hu : Accepting s (drMod (fld d.d3 0 1) (fun _ => ((s.fetched d).dr (fld d.d3 0 1)).held s.now (arg24 d.d4).toNat) (s.fetched d)) :=
    { accepting_fetched ht with }
  exact acceptsOk_of rfl ht hd hu fun t h =>
    doorOnly_of_rest (f := fun _ => (s.dr (fld d.d3 0 1)).held s.now (arg24 d.d4).toNat) (fld_one_lt d.d3) (rest_of_added h)

/-- Settles O21, command by command. A DOOR_HOLD with a time keeps a hold with no end that stands (log 88). -/
theorem doorCommandsComplete : Obligations.DoorCommandsComplete := by
  refine ⟨fun s d ht hs hf hw hen hfree hawake hlift haxis hpermit => ⟨fun hst => ?_, fun hst => ?_⟩,
    fun s d ht hs hf hen hfree hawake => ⟨doorClose_closes ht hs hf hen hfree hawake, doorClose_ends ht hs hf hen hfree hawake⟩,
    fun s d => doorHold_holds⟩
  · exact doorOpen_opens ht hs hf hw hen hfree hawake hlift haxis hpermit hst
  · have hget (n : Nat) : (openHold d).getD n = if d.d4 = 0#32 then n else (arg24 d.d4).toNat := by unfold openHold; split <;> rfl
    obtain ⟨t, hx, hc, ho, hdoor, hrest⟩ := doorOpen_prolongs ht hs hf hw hen hfree hawake hlift haxis hpermit hst
    rw [hget] at hdoor
    exact ⟨t, hx, hc, hdoor, ho, hrest⟩

end Sys2Proof.Machine
end

section
/-! The field commands that pass a request to LINK (R236, R237, R242, R271 to R273, R528, Table 6-14). -/

namespace Sys2Proof.Machine

/-! ### What ends of field writes and pulses leave alone -/

/-- Everything but reports, journal, rings and the field writes, with the completions posted. -/
def State.besideWrites (s : State) : State × List CplEntry × W24 × Bool := ({ s.rest with awn.writes := [] }, s.posted)

theorem besideWrites_endWrite (id : Nat) (st : Status) (e : Byte) (s : State) : (endWrite id st e s).besideWrites = s.besideWrites := by
  unfold endWrite
  split
  · rfl
  · split
    · simp only [State.besideWrites, rest_finish, posted_finish]; rfl
    · rfl

theorem besideWrites_endWrites (p : FieldCmd → Bool) (st : Status) (e : Byte) (s : State) : (endWrites p st e s).besideWrites = s.besideWrites :=
  foldl_keeps State.besideWrites _ (fun t i => besideWrites_endWrite i st e t) _ s

/-- The pulses on none of a mask's channels. -/
def pulsesOff (m : BitVec 24) (l : List PulseCmd) : List PulseCmd := l.filter (fun p => !m.getLsbD p.ch.val)

theorem rest_endPulses (m : BitVec 24) (st : Status) (e : Byte) (s : State) :
    (endPulses m st e s).rest = { s.rest with awn.pulses := pulsesOff m s.awn.pulses } := rest_finishAll _ _ _ _ _

theorem posted_endPulses (m : BitVec 24) (st : Status) (e : Byte) (s : State) : (endPulses m st e s).posted = s.posted :=
  posted_finishAll _ _ _ _ _

/-! ### FIELD_WRITE -/

/-- The channels that a FIELD_WRITE switches on. -/
def fieldOn (d : Desc) : BitVec 24 := fieldMask d &&& fieldVals d

/-- The channels that it switches off. -/
def fieldOff (d : Desc) : BitVec 24 := fieldMask d &&& ~~~fieldVals d

/-- Its channels switched off, with the writes and pulses that it supersedes ended. -/
def fieldCleared (d : Desc) (s : State) : State :=
  endPulses (fieldMask d) .superseded 0 (endWrites (fun w => w.wait &&& fieldOff d != 0#24) .superseded 0 (cmdOff (fieldOff d) s))

/-- The new write, and the decoder waiting for it. -/
def fieldBegun (d : Desc) (serial wait : BitVec 24) (t : State) : State :=
  { t with
    awn.cmd := t.awn.cmd ||| fieldOn d
    awn.nextId := t.awn.nextId + 1
    awn.writes := t.awn.writes ++ [{ id := t.awn.nextId, mask := fieldMask d, on := fieldOn d, serial := serial, wait := wait }]
    ring.block := some (.fieldWrite d t.awn.nextId) }

theorem decFieldWrite_begins {s : State} {d : Desc} (hs : s.serves 0x48) (hf : formOk d false false mA mA 0xFFFF m0 m0 = true)
    (hlow : (arg24 d.d3).extractLsb' 0 8 = 0#8) (hout : ∀ c ∈ chansOf (fieldMask d), s.func c = 3 ∧ s.lifted c = false)
    (hfresh : s.awn.stale = false) (hon : fieldOn d ≠ 0#24 → s.glb.sleep = false ∧ s.effLevel < 3)
    (hpermit : ∀ c ∈ chansOf (fieldOn d), s.outGranted c = true)
    (hvalve : ∀ b : Fin 2, s.overlap b = 2 → s.conflicts b (fieldOn d) = false) : decFieldWrite d s =
      fieldBegun d (s.serialOf (fieldOn d)) (s.waits 0 (fieldOn d) ||| s.waits 1 (fieldOn d)) (fieldCleared d s) := by
  have houts : (chansOf (fieldMask d)).all (fun c => decide (s.func c = 3)) = true :=
    List.all_eq_true.mpr fun c hc => decide_eq_true (hout c hc).1
  have hfree : (chansOf (fieldMask d)).any s.lifted = false := by
    rw [List.any_eq_false]; exact fun c hc => by rw [(hout c hc).2]; exact Bool.false_ne_true
  have hgranted : (chansOf (fieldOn d)).any (fun c => !s.outGranted c) = false := by
    rw [List.any_eq_false]; exact fun c hc => by rw [hpermit c hc]; exact Bool.false_ne_true
  have hwake : (fieldOn d != 0#24 && s.glb.sleep) = false := by
    by_cases h : fieldOn d = 0#24
    · rw [h]; rfl
    · rw [(hon h).1, Bool.and_false]
  have hlevel : (fieldOn d != 0#24 && decide (3 ≤ s.effLevel)) = false := by
    by_cases h : fieldOn d = 0#24
    · rw [h]; rfl
    · rw [decide_eq_false (Nat.not_le.mpr (hon h).2), Bool.and_false]
  have hbank (b : Fin 2) : (decide (s.overlap b = 2) && s.conflicts b (fieldOn d)) = false := by
    by_cases h : s.overlap b = 2
    · rw [hvalve b h, Bool.and_false]
    · rw [decide_eq_false h, Bool.false_and]
  unfold decFieldWrite
  rw [gate_passes hs (by rw [hf, hlow]; exact houts)]
  change (if s.awn.stale = true then _ else if (chansOf (fieldMask d)).any s.lifted = true then _
    else if (fieldOn d != 0#24 && s.glb.sleep) = true then _ else if (fieldOn d != 0#24 && decide (3 ≤ s.effLevel)) = true then _
    else if (chansOf (fieldOn d)).any (fun c => !s.outGranted c) = true then _
    else if (decide (s.overlap 0 = 2) && s.conflicts 0 (fieldOn d) || decide (s.overlap 1 = 2) && s.conflicts 1 (fieldOn d)) = true then _ else _) = _
  rw [hfresh, hfree, hwake, hlevel, hgranted, hbank 0, hbank 1]
  rfl

theorem fieldCleared_keeps (d : Desc) (s : State) : (fieldCleared d s).awn.cmd = s.awn.cmd &&& ~~~fieldOff d ∧
    (fieldCleared d s).awn.nextId = s.awn.nextId ∧ (fieldCleared d s).awn.pulses = pulsesOff (fieldMask d) s.awn.pulses ∧
    (fieldCleared d s).posted = s.posted ∧ ({ (fieldCleared d s).rest with awn := s.awn } : State) = s.rest := by
  have hwrites := besideWrites_endWrites (fun w => w.wait &&& fieldOff d != 0#24) .superseded 0 (cmdOff (fieldOff d) s)
  unfold fieldCleared
  generalize endWrites (fun w => w.wait &&& fieldOff d != 0#24) .superseded 0 (cmdOff (fieldOff d) s) = u at hwrites
  have hbeside : ({ u.rest with awn.writes := [] } : State) = { (cmdOff (fieldOff d) s).rest with awn.writes := [] } := congrArg Prod.fst hwrites
  have hrest := rest_endPulses (fieldMask d) .superseded 0 u
  have hpulses : u.awn.pulses = s.awn.pulses := (congrArg (fun w : State => w.awn.pulses) hbeside :)
  refine ⟨(congrArg (fun w : State => w.awn.cmd) hrest :).trans (congrArg (fun w : State => w.awn.cmd) hbeside :),
    (congrArg (fun w : State => w.awn.nextId) hrest :).trans (congrArg (fun w : State => w.awn.nextId) hbeside :),
    (congrArg (fun w : State => w.awn.pulses) hrest :).trans (congrArg (pulsesOff (fieldMask d)) hpulses),
    (posted_endPulses _ _ _ u).trans (congrArg Prod.snd hwrites), ?_⟩
  exact (congrArg (fun w : State => ({ w with awn := s.awn } : State)) hrest :).trans
    (congrArg (fun w : State => ({ w with awn := s.awn } : State)) hbeside :)

/-- What is switched on is not switched off: the order does not matter. -/
theorem or_fieldOn_andNot_fieldOff (d : Desc) (c : BitVec 24) : c &&& ~~~fieldOff d ||| fieldOn d = (c ||| fieldOn d) &&& ~~~fieldOff d := by
  have hdisjoint : fieldOn d &&& ~~~fieldOff d = fieldOn d := by
    ext i
    simp only [fieldOn, fieldOff, BitVec.getElem_and, BitVec.getElem_not]
    cases (fieldMask d)[i] <;> cases (fieldVals d)[i] <;> rfl
  rw [BitVec.and_or_distrib_right, hdisjoint]

theorem fieldWrite_begins {s : State} {d : Desc} {serial wait : BitVec 24} (ht : s.takes d)
    (hd : decFieldWrite d (s.fetched d) = fieldBegun d serial wait (fieldCleared d (s.fetched d))) : completes (.fieldWrite d) s (fun t =>
      t.awn.cmd = (s.awn.cmd ||| fieldOn d) &&& ~~~fieldOff d ∧ t.ring.block = some (.fieldWrite d s.awn.nextId) ∧
      t.awn.nextId = s.awn.nextId + 1 ∧ t.awn.pulses = pulsesOff (fieldMask d) s.awn.pulses ∧
      t.ring.cplProd = s.ring.cplProd ∧ t.ring.cpl = s.ring.cpl ∧ ({ t.rest with awn := s.awn } : State) = s.rest) := by
  obtain ⟨hcmd, hid, hpulses, hposted, hrest⟩ := fieldCleared_keeps d (s.fetched d)
  generalize fieldCleared d (s.fetched d) = u at hd hcmd hid hpulses hposted hrest
  have hsleep : u.ring.sleepReq = false := (sleepReq_of_posted hposted).trans (takes_awake (s := s) ht)
  refine completes_of_meaning rfl ht hd hsleep fun t hq => ⟨?_, ?_, ?_, (congrArg (fun w : State => w.awn.pulses) hq :).trans hpulses,
    (congrArg (fun w : State => w.ring.cplProd) hq :).trans (congrArg (fun p => p.2.1) hposted :),
    (congrArg (fun w : State => w.ring.cpl) hq :).trans (congrArg Prod.fst hposted :),
    (congrArg (fun w : State => ({ w with awn := s.awn } : State)) (rest_of_quiet hq) :).trans hrest⟩
  · calc t.awn.cmd = u.awn.cmd ||| fieldOn d := (congrArg (fun w : State => w.awn.cmd) hq :)
      _ = s.awn.cmd &&& ~~~fieldOff d ||| fieldOn d := congrArg (· ||| fieldOn d) hcmd
      _ = (s.awn.cmd ||| fieldOn d) &&& ~~~fieldOff d := or_fieldOn_andNot_fieldOff d _
  · exact (congrArg (fun w : State => w.ring.block) hq :).trans (congrArg (fun n => some (Block.fieldWrite d n)) hid)
  · exact (congrArg (fun w : State => w.awn.nextId) hq :).trans (congrArg (· + 1) hid)

/-! ### FIELD_PULSE -/

/-- The field part of the machine with a new pulse on channel `c`: it takes the channel over from the writes on their way and from a
pulse on it (R273). -/
def AwnSt.pulsed (a : AwnSt) (c : Nat) (p : PulseCmd) : AwnSt :=
  { a with
    writes := a.writes.map (fun w => if w.acked then w else { w with mask := w.mask &&& ~~~ chBit c })
    pulses := pulsesOff (chBit c) a.pulses ++ [p] }

/-- The pulse that a FIELD_PULSE asks for. -/
def State.newPulse (s : State) (d : Desc) : PulseCmd :=
  ⟨Fin.ofNat 24 (fld d.d3 0 5 - 8), arg24 d.d4, s.nextRef 0x49 d, s.serialOf (chBit (fld d.d3 0 5)) != 0#24, none⟩

/-- A pulse due on channel `c`, in a state in which the one before it on that channel has ended. -/
def pulseDue (c : Nat) (p : PulseCmd) (u : State) : State :=
  { u with
    awn.writes := u.awn.writes.map (fun w => if w.acked then w else { w with mask := w.mask &&& ~~~ chBit c })
    awn.pulses := u.awn.pulses ++ [p] }

theorem decFieldPulse_begins {s : State} {d : Desc} (hs : s.serves 0x49) (hf : formOk d false false 0x1F mA m0 m0 m0 = true)
    (hc : 8 ≤ fld d.d3 0 5) (hout : s.func (fld d.d3 0 5) = 3) (hlo : 1 ≤ (arg24 d.d4).toNat) (hhi : (arg24 d.d4).toNat ≤ 8388607)
    (hfresh : s.awn.stale = false) (hfree : s.lifted (fld d.d3 0 5) = false) (hawake : s.glb.sleep = false) (hlevel : s.effLevel < 3)
    (hgranted : s.outGranted (fld d.d3 0 5) = true)
    (hvalve : ∀ b, bankOf (fld d.d3 0 5) = some b → s.overlap b = 2 → s.conflicts b (chBit (fld d.d3 0 5)) = false) : decFieldPulse d s =
      pulseDue (fld d.d3 0 5) (s.newPulse d) (endPulses (chBit (fld d.d3 0 5)) .superseded 0 (acceptRun 0x49 d .queued 0 0 s)) := by
  unfold decFieldPulse
  rw [gate_passes hs (by rw [hf, hout, decide_eq_true hc, decide_eq_true hlo, decide_eq_true hhi]; rfl)]
  simp only [hfresh, hfree, hawake, hgranted, Nat.not_le.mpr hlevel, Bool.not_true, Bool.false_eq_true, if_false]
  refine if_neg ?_
  cases h : bankOf (fld d.d3 0 5) with
  | none => exact Bool.false_ne_true
  | some b =>
    by_cases ho : s.overlap b = 2
    · simp [hvalve b h ho]
    · simp [ho]

theorem fieldPulse_begins {s : State} {d : Desc} (ht : s.takes d) (hd : decFieldPulse d (s.fetched d) = pulseDue (fld d.d3 0 5) (s.newPulse d)
      (endPulses (chBit (fld d.d3 0 5)) .superseded 0 (acceptRun 0x49 d .queued 0 0 (s.fetched d)))) : completes (.fieldPulse d) s (fun t =>
      Completed 0x49 d .queued (s.jrn.head + 1) 0 0 s t ∧ t.awn = s.awn.pulsed (fld d.d3 0 5) (s.newPulse d) ∧
      ({ t.rest with awn := s.awn } : State) = s.rest) := by
  have hrest := rest_endPulses (chBit (fld d.d3 0 5)) .superseded 0 (acceptRun 0x49 d .queued 0 0 (s.fetched d))
  have haccept := rest_acceptRun 0x49 d .queued 0 0 (s.fetched d)
  have hawn : (acceptRun 0x49 d .queued 0 0 (s.fetched d)).awn = s.awn := (congrArg State.awn haccept :)
  rw [haccept, hawn] at hrest
  have hpost := posted_endPulses (chBit (fld d.d3 0 5)) .superseded 0 (acceptRun 0x49 d .queued 0 0 (s.fetched d))
  generalize endPulses (chBit (fld d.d3 0 5)) .superseded 0 (acceptRun 0x49 d .queued 0 0 (s.fetched d)) = u at hd hrest hpost
  refine completes_of_acceptRun rfl ht hd (accepting_fetched ht) hpost fun t hq hc => ?_
  have hr : t.rest = pulseDue (fld d.d3 0 5) (s.newPulse d) u.rest := rest_of_quiet hq
  rw [hrest] at hr
  exact ⟨hc, (congrArg State.awn hr :), (congrArg (fun w : State => ({ w with awn := s.awn } : State)) hr :)⟩

/-! ### COUNTER_CLEAR -/

theorem decCounterClear_waits {s : State} {d : Desc} {k : Fin 8} (hs : s.serves 0x4C) (hf : formOk d false false 0x1F m0 m0 m0 m0 = true)
    (hk : ctrIdx (fld d.d3 0 5) = some k) (hfresh : s.awn.stale = false) : decCounterClear d s =
      { s with awn.clrDue := setB s.awn.clrDue k.val true, ring.block := some (.counterClear d k) } := by
  unfold decCounterClear
  rw [gate_passes hs (by rw [hf, hk]; rfl), hk]
  simp only [hfresh, Option.getD_some, Bool.false_eq_true, if_false]

theorem counterClear_waits {s : State} {d : Desc} {k : Fin 8} (ht : s.takes d) (hs : s.serves 0x4C)
    (hf : formOk d false false 0x1F m0 m0 m0 m0 = true) (hk : ctrIdx (fld d.d3 0 5) = some k) (hfresh : s.awn.stale = false) :
    completes (.counterClear d) s (fun t => t.awn = { s.awn with clrDue := setB s.awn.clrDue k.val true } ∧
      t.ring.block = some (.counterClear d k) ∧ t.ring.cplProd = s.ring.cplProd ∧ t.jrn = s.jrn ∧ ({ t.rest with awn := s.awn } : State) = s.rest) := by
  have hd := decCounterClear_waits (s := s.fetched d) hs hf hk hfresh
  refine completes_of_meaning rfl ht hd (takes_awake (s := s) ht) fun t hq => ?_
  exact ⟨(congrArg State.awn hq :), (congrArg (fun w : State => w.ring.block) hq :), (congrArg (fun w : State => w.ring.cplProd) hq :),
    (congrArg State.jrn hq :), (congrArg (fun w : State => ({ w with awn := s.awn } : State)) (rest_of_quiet hq) :)⟩

/-- Settles O26, command by command. A FIELD_WRITE drops the pulses on its channels at decode (log 29). -/
theorem fieldCommandsComplete : Obligations.FieldCommandsComplete := by
  refine ⟨fun s d ht hs hf hlow hout hfresh hon hpermit hvalve => ?_,
    fun s d ht hs hf hc hout hlo hhi hfresh hfree hawake hlevel hgranted hvalve => ?_, fun s d k => counterClear_waits⟩
  · exact fieldWrite_begins ht (decFieldWrite_begins (s := s.fetched d) hs hf hlow hout hfresh hon hpermit hvalve)
  · exact fieldPulse_begins ht (decFieldPulse_begins (s := s.fetched d) hs hf hc hout hlo hhi hfresh hfree hawake hlevel hgranted hvalve)

end Sys2Proof.Machine
end

section
/-! The events of a transaction and of live parameters: votes, safe points, the deadline, the commit point, the apply strobe and the ticks at which
live values come into force (R186, R196, R199, R201, R203, R205, R208, R209, Table 7-4). -/

namespace Sys2Proof.Machine

/-! ### The rows -/

/-- What the vote of an island does (R196, R198, R205). -/
def voteCast (n : Nat) (s : State) : State :=
  if s.votesYes n then
    txnAdvance (if s.needsSafe n then { s with txn.voted := setB s.txn.voted n true }
      else { s with txn.voted := setB s.txn.voted n true, txn.atSafe := setB s.txn.atSafe n true })
  else rollback 3 n (if n = 0 then refuseIdent s else s)

theorem exec_txnVote (i : Island) (s : State) : exec (.txnVote i) s = doneIf (s.txn.st = .preparing && s.touches (islNum i) &&
    !s.txn.voted.getLsbD (islNum i) && s.canVote (islNum i)) (voteCast (islNum i)) s := rfl

theorem exec_safePointReached (i : Island) (s : State) : exec (.safePointReached i) s = doneIf ((s.txn.st = .preparing || s.txn.st = .waiting) &&
    s.touches (islNum i) && s.needsSafe (islNum i) && !s.txn.atSafe.getLsbD (islNum i) && s.atSafePoint (islNum i))
    (fun s => txnAdvance { s with txn.atSafe := setB s.txn.atSafe (islNum i) true }) s := rfl

theorem exec_txnDeadline (s : State) : exec .txnDeadline s = doneIf (s.txn.st = .preparing || s.txn.st = .waiting)
    (fun s => rollback 2 s.lateIsland s) s := rfl

theorem exec_commitPoint (s : State) : exec .commitPoint s = doneIf (!s.txn.imageDone && s.txn.written && s.logUp &&
    (s.txn.st = .applying || (s.txn.st = .preparing && s.allVoted && s.allSafe))) commitPoint s := rfl

theorem exec_applyStrobe (s : State) : exec .applyStrobe s = doneIf (s.txn.st = .applying && s.txn.imageDone) strobe s := rfl

/-- The live values that wait for the tick of an island (R186). -/
def State.dueAt (s : State) (i : Island) : List (Nat × W24) := s.prm.due.filter (fun p => blockOwner (p.1 / 256) = islNum i)

/-- The state with those values no longer due. -/
def State.dueTaken (s : State) (i : Island) : State := { s with prm.due := s.prm.due.filter (fun p => blockOwner (p.1 / 256) != islNum i) }

theorem exec_liveParamApply (i : Island) (s : State) : exec (.liveParamApply i) s =
    doneIf (!(s.dueAt i).isEmpty) (fun u => (s.dueAt i).foldl applyLive (u.dueTaken i)) s := rfl

/-! ### Votes, safe points and the deadline -/

/-- Whether or not the transaction moves on, it keeps the votes and the islands marked at their safe points. -/
theorem txnAdvance_keeps (s : State) : (txnAdvance s).txn.voted = s.txn.voted ∧ (txnAdvance s).txn.atSafe = s.txn.atSafe := by
  unfold txnAdvance
  split
  · exact ⟨rfl, rfl⟩ -- a vote or the image is missing
  · split
    · rw [txn_txnTo]; exact ⟨rfl, rfl⟩ -- APPLYING
    · split
      · rw [txn_txnTo, txn_raise]; exact ⟨rfl, rfl⟩ -- WAITING
      · exact ⟨rfl, rfl⟩

theorem txnVote_counts {s : State} {i : Island} (hst : s.txn.st = .preparing) (htouch : s.touches (islNum i) = true)
    (hopen : s.txn.voted.getLsbD (islNum i) = false) (hcan : s.canVote (islNum i) = true) : completes (.txnVote i) s (fun t =>
      if s.votesYes (islNum i) = true then t.txn.voted = setB s.txn.voted (islNum i) true
      else t.txn.st = .rolledBack ∧ t.txn.failCause = 3 ∧ t.txn.failIsl = BitVec.ofNat 4 (islNum i) ∧ t.txn.staged = []) := by
  refine completes_of_doneIf (exec_txnVote i s) (by rw [hst, htouch, hopen, hcan]; rfl) ?_
  rw [txn_sync]
  by_cases hyes : s.votesYes (islNum i) = true
  · rw [if_pos hyes]
    rw [voteCast, if_pos hyes, (txnAdvance_keeps _).1]
    split <;> rfl
  · rw [if_neg hyes, voteCast, if_neg hyes]
    exact rollback_leaves 3 (islNum i) _

theorem safePointReached_marks {s : State} {i : Island} (hst : s.txn.st = .preparing ∨ s.txn.st = .waiting) (htouch : s.touches (islNum i) = true)
    (hneeds : s.needsSafe (islNum i) = true) (hopen : s.txn.atSafe.getLsbD (islNum i) = false) (hsafe : s.atSafePoint (islNum i) = true) :
    completes (.safePointReached i) s (fun t => t.txn.atSafe = setB s.txn.atSafe (islNum i) true ∧ t.txn.voted = s.txn.voted) := by
  have hwaits : (decide (s.txn.st = .preparing) || decide (s.txn.st = .waiting)) = true := by simpa using hst
  refine completes_of_doneIf (exec_safePointReached i s) (by rw [hwaits, htouch, hneeds, hopen, hsafe]; rfl) ?_
  rw [txn_sync]
  exact (txnAdvance_keeps _).symm

theorem txnDeadline_rollsBack {s : State} (hst : s.txn.st = .preparing ∨ s.txn.st = .waiting) : completes .txnDeadline s (fun t =>
    t.txn.st = .rolledBack ∧ t.txn.failCause = 2 ∧ t.txn.failIsl = BitVec.ofNat 4 s.lateIsland ∧ t.txn.staged = []) := by
  refine completes_of_doneIf (exec_txnDeadline s) (by simpa using hst) ?_
  rw [txn_sync]
  exact rollback_leaves 2 s.lateIsland s

/-! ### The commit point -/

/-- Staged tables go to the spare copies of their banks alone (R294). -/
theorem writeTables_eq (e : Nat) (s : State) : ∃ v, writeTables e s = { s with prm.tblNv := v } := by
  refine List.foldlRecOn (motive := fun u => ∃ v, u = ({ s with prm.tblNv := v } : State)) _ _ ⟨_, rfl⟩ ?_
  rintro u ⟨v, rfl⟩ k -
  dsimp only
  split
  · exact ⟨_, rfl⟩
  · exact ⟨_, rfl⟩

/-- A staged identity record goes to the spare identity copy alone (R507). -/
theorem writeIdent_eq (e : Nat) (s : State) : ∃ v, writeIdent e s = { s with prm.identNv := v } := by
  unfold writeIdent
  split
  · exact ⟨_, rfl⟩
  · exact ⟨_, rfl⟩

/-- The image that the commit point writes (R208, R209). -/
def State.newBank (s : State) : Bank := ⟨true, s.prm.highEpoch + 1, s.txn.id, s.nextImage⟩

theorem commitPoint_eq {s : State} (hst : s.txn.st = .applying) : ∃ tbl idn bad, commitPoint s = { s with
    prm.tblNv := tbl, prm.identNv := idn, prm.highEpoch := s.prm.highEpoch + 1
    prm.bankA := if s.spare.1 then s.newBank else s.prm.bankA, prm.bankB := if s.spare.2 then s.newBank else s.prm.bankB
    glb.defaults := false, glb.bankBad := bad, txn.imageDone := true, txn.deadline := none } := by
  obtain ⟨tbl, htbl⟩ := writeTables_eq (s.prm.highEpoch + 1) s
  obtain ⟨idn, hidn⟩ := writeIdent_eq (s.prm.highEpoch + 1) { s with prm.tblNv := tbl }
  simp only [commitPoint, htbl, hidn]
  exact ⟨tbl, idn, _, if_pos hst⟩

theorem commitPoint_writes {s : State} (hst : s.txn.st = .applying) (hopen : s.txn.imageDone = false) (hwritten : s.txn.written = true)
    (hlog : s.logUp = true) : completes .commitPoint s (fun t =>
      t.txn.st = .applying ∧ t.txn.imageDone = true ∧ t.prm.highEpoch = s.prm.highEpoch + 1 ∧
      t.glb.defaults = false ∧ t.prm.committed = s.prm.committed ∧
      (s.spare.1 = true → t.prm.bankA = ⟨true, s.prm.highEpoch + 1, s.txn.id, s.nextImage⟩) ∧
      (s.spare.2 = true → t.prm.bankB = ⟨true, s.prm.highEpoch + 1, s.txn.id, s.nextImage⟩)) := by
  obtain ⟨tbl, idn, bad, hpoint⟩ := commitPoint_eq hst
  refine completes_of_doneIf_quiet (exec_commitPoint s) (by rw [hopen, hwritten, hlog, hst]; rfl) (congrArg State.quiet hpoint) fun t hq => ?_
  exact ⟨(congrArg (fun u : State => u.txn.st) hq :).trans hst, (congrArg (fun u : State => u.txn.imageDone) hq :),
    (congrArg (fun u : State => u.prm.highEpoch) hq :), (congrArg (fun u : State => u.glb.defaults) hq :),
    (congrArg (fun u : State => u.prm.committed) hq :), fun ha => (congrArg (fun u : State => u.prm.bankA) hq :).trans (if_pos ha),
    fun hb => (congrArg (fun u : State => u.prm.bankB) hq :).trans (if_pos hb)⟩

/-! ### Live values -/

theorem prm_of_rest {s t : State} (h : t.rest = s.rest) : t.prm = s.prm := (congrArg State.prm h :)

@[simp] theorem prm_sync (s : State) : (sync s).prm = s.prm := prm_of_rest (rest_of_quiet (quiet_sync s))

/-- What a new value does at once, to a running move or a rate class, is no parameter (R287, R448). -/
@[simp] theorem prm_valueEffect (pid : Nat) (s : State) : (valueEffect pid s).prm = s.prm := by
  have hmove (a : Nat) : (retuneMove a pid s).prm = s.prm := by unfold retuneMove; split <;> rfl
  simp only [valueEffect, apply_ite State.prm, hmove, ite_self]

@[simp] theorem prm_sliceDue (pid : Nat) (s : State) : (sliceDue pid s).prm = s.prm := by
  unfold sliceDue
  split
  · rfl
  · split <;> rfl

@[simp] theorem prm_shadowDue (pid : Nat) (s : State) : (shadowDue pid s).prm = s.prm := by
  obtain ⟨a, ha⟩ := shadowDue_eq pid s
  rw [ha]

theorem prm_applyLive (s : State) (p : Nat × W24) : (applyLive s p).prm = { s.prm with live := assocSet s.prm.live p.1 p.2 } := by
  simp only [applyLive, liveSlice, apply_ite State.prm, prm_shadowDue, prm_sliceDue, prm_valueEffect, ite_self]

theorem prm_foldl_applyLive (l : List (Nat × W24)) (s : State) :
    (l.foldl applyLive s).prm = { s.prm with live := l.foldl (fun m p => assocSet m p.1 p.2) s.prm.live } := by
  induction l generalizing s with
  | nil => rfl
  | cons p l ih => rw [List.foldl_cons, ih, prm_applyLive]; rfl

theorem liveParamApply_applies {s : State} {i : Island} (hmine : s.dueAt i ≠ []) : completes (.liveParamApply i) s (fun t =>
    t.prm.due = s.prm.due.filter (fun p => blockOwner (p.1 / 256) != islNum i) ∧
    t.prm.live = (s.dueAt i).foldl (fun l p => assocSet l p.1 p.2) s.prm.live) := by
  refine completes_of_doneIf (exec_liveParamApply i s) (by simpa using hmine) ?_
  rw [prm_sync, prm_foldl_applyLive]
  exact ⟨rfl, rfl⟩

/-- Settles O9, event by event: whether its transaction then moves on or not, a vote or a safe point keeps the marks of the others. -/
theorem transactionEventsComplete : Obligations.TransactionEventsComplete :=
  ⟨fun _ _ => txnVote_counts, fun _ _ => safePointReached_marks, fun _ => txnDeadline_rollsBack, fun _ => commitPoint_writes,
    fun _ _ => liveParamApply_applies⟩

/-! ### The apply strobe -/

/-- The committed image, the live values above it, and the epoch in force (R186, R209). -/
def State.inForce (s : State) : List (Nat × W24) × List (Nat × W24) × Nat := (s.prm.committed, s.prm.live, s.prm.epoch)

theorem inForce_of_prm {s t : State} (h : t.prm = s.prm) : t.inForce = s.inForce := by simp only [State.inForce, h]

theorem inForce_of_offMachine {s t : State} (h : t.offMachine = s.offMachine) : t.inForce = s.inForce := (congrArg State.inForce h :)

@[simp] theorem inForce_withTxn (x : TxnSt) (s : State) : ({ s with txn := x } : State).inForce = s.inForce := rfl

@[simp] theorem inForce_raise (c : W16) (v : Nat) (a b : W24) (s : State) : (raise c v a b s).inForce = s.inForce :=
  inForce_of_offMachine (offMachine_raise c v a b s)

@[simp] theorem inForce_finish (r : Ref) (st : Status) (w : W24) (e : Byte) (s : State) : (finish r st w e s).inForce = s.inForce :=
  inForce_of_offMachine (offMachine_finish r st w e s)

@[simp] theorem inForce_txnTo (st : TxnState) (s : State) : (txnTo st s).inForce = s.inForce := by
  have hirq (u : State) : (sendIrq 7 u).inForce = u.inForce := inForce_of_offMachine (offMachine_sendIrq 7 u)
  simp only [txnTo, apply_ite State.inForce, hirq]; exact ite_self _

theorem inForce_strobeField (old s : State) : (strobeField old s).inForce = s.inForce := by
  have hslices := foldl_keeps State.inForce (fun (u : State) c => if fastOwned old.pv c = fastOwned s.pv c then u else sliceDue (fldP c 3) u)
    (fun u c => by simp only [apply_ite State.inForce, inForce_of_prm (prm_sliceDue _ u), ite_self])
  have hshare (u : State) : (if old.touches 8 then { u with awn.strobeDue := true, awn.shadow := [] } else u : State).inForce = u.inForce := by
    split <;> rfl
  simp only [strobeField, hshare, hslices, inForce_of_offMachine (offMachine_endField _ _ _ _ _)]
  rfl

theorem inForce_strobeLift (old s : State) : (strobeLift old s).inForce = s.inForce := by
  have hlift (u : State) (x : Vector Door 2) : ({ (if s.liftEn then u else { u with lift.st := .notHomed } : State) with door := x } : State).inForce =
      u.inForce := by split <;> rfl
  simp only [strobeLift]
  refine (hlift _ _).trans ?_
  exact inForce_of_offMachine (offMachine_finishAll _ _ _ _ _)

theorem inForce_strobeGuard (old s : State) : (strobeGuard old s).inForce = s.inForce := by
  have hoff (u : State) : (twpOff u).inForce = u.inForce := by
    simp only [twpOff, apply_ite State.inForce, inForce_raise]; exact ite_self _
  simp only [strobeGuard, apply_ite State.inForce, inForce_raise, hoff, ite_self]
  rfl

theorem inForce_strobeIdent (old s : State) : (strobeIdent old s).inForce = s.inForce := by
  simp only [strobeIdent]
  split
  · rfl
  · rw [inForce_raise]
    split <;> rfl

/-- The image that the strobe brings into force, with its epoch, and the live values of no staged PID (R201, R209). -/
theorem inForce_strobe (s : State) : (strobe s).inForce =
    (s.nextImage, s.prm.live.filter (fun p => !(s.txn.staged.map Prod.fst).contains p.1), s.prm.highEpoch) := by
  have haxes := foldl_keeps State.inForce (fun u a => strobeAxis s a u) (fun _ _ => rfl) (List.range 5)
  have heffects := foldl_keeps State.inForce (fun u p => valueEffect p u) (fun u p => inForce_of_prm (prm_valueEffect p u))
    (s.txn.staged.map Prod.fst)
  simp only [strobe, inForce_txnTo]
  split <;>
    simp only [inForce_finish, inForce_withTxn, inForce_raise, inForce_strobeIdent, inForce_of_offMachine (offMachine_limitScan _), inForce_strobeGuard,
      inForce_strobeLift, inForce_strobeField, inForce_of_offMachine (offMachine_grindEnable _), heffects, haxes] <;>
    rfl

/-- What the strobe leaves of the transaction: nothing staged, and its id as the last committed one (R201). -/
theorem txn_strobe (s : State) : (strobe s).txn.st = .idle ∧ (strobe s).txn.staged = [] ∧ (strobe s).txn.tables = [] ∧
    (strobe s).txn.idWords = none ∧ (strobe s).txn.lastId = s.txn.id ∧ (strobe s).txn.lastCommit = true := by
  simp only [strobe, txn_txnTo]
  split <;> simp only [txn_finish, and_self]

/-- Settles O10: whatever the switched islands do besides, the image, its live values and its epoch stay as the strobe first sets them. -/
theorem strobeAppliesAll : Obligations.StrobeAppliesAll := by
  intro s hst hdone
  refine completes_of_doneIf (exec_applyStrobe s) (by rw [hst, hdone]; rfl) ?_
  have h := inForce_strobe s
  rw [txn_sync, prm_sync]
  exact ⟨congrArg Prod.fst h, congrArg (fun p => p.2.2) h, congrArg (fun p => p.2.1) h, txn_strobe s⟩

end Sys2Proof.Machine
end

section
/-! TXN_BEGIN, TXN_COMMIT and TXN_ROLLBACK (R191, R193, R197, R198, R202, R205, R208, R338, Table 6-11). -/

namespace Sys2Proof.Machine

/-! ### A state of the transaction -/

theorem quiet_txnTo (st : TxnState) (s : State) : (txnTo st s).quiet = ({ s with txn.st := st } : State).quiet := by
  simp only [txnTo]
  split
  · next h => rw [← h]
  · exact quiet_sendIrq 7 _

/-- A command that ends OK at decode and leaves the transaction and the nonce as given (R191). -/
theorem acceptsOk_of_txn {c : Instr} {op : Byte} {d : Desc} {r : W24} {s u : State} {x : TxnSt} {n : Option (Nat × List Byte)} {E : State → Prop}
    (hx : exec c s = command op d s) (ht : s.takes d) (hd : decodeOp op d (s.fetched d) = acceptOk op d r 0 u)
    (hu : u.quiet = ({ s.fetched d with txn := x, log.nonce := n } : State).quiet)
    (hE : ∀ t : State, t.rest = ({ s with txn := x, log.nonce := n } : State).rest → E t) : acceptsOk c op d r 0 s E := by
  have hset : Accepting s { s.fetched d with txn := x, log.nonce := n } := { accepting_fetched ht with }
  exact acceptsOk_of hx ht hd (accepting_of_quiet hset hu) fun t h => hE t ((rest_of_added h).trans ((rest_of_quiet hu).trans rfl))

/-! ### TXN_BEGIN -/

/-- The transaction that a TXN_BEGIN opens (R193). -/
def TxnSt.begun (x : TxnSt) (d : Desc) (auth : Bool) : TxnSt :=
  { x with
    st := .opened, id := dTxnId d, force := d.d4.getLsbD 0, authd := auth, deadlineMs := (arg24 d.d3).toNat, failIsl := 15, failCause := 0
    voted := 0, atSafe := 0, written := false, imageDone := false, ref := none }

theorem txnOpen_eq (op : Byte) (d : Desc) (auth : Bool) (s : State) : ∃ u, txnOpen op d auth s = acceptOk op d ((dTxnId d).zeroExtend 24) 0 u ∧
    u.quiet = ({ s with txn := s.txn.begun d auth } : State).quiet := by
  refine ⟨_, rfl, ?_⟩
  rw [quiet_raise, quiet_txnTo]
  rfl

/-- An unseal response that is right answers a nonce held for the purpose 2, which is used (R177, R338). -/
theorem useNonce_of_unsealOk {s : State} {id : W16} {l : List Byte} (h : s.unsealOk id l = true) :
    useNonce 2 s = { s with log.nonce := none } := by
  unfold State.unsealOk at h
  split at h
  · next hn => simp only [useNonce, hn, if_true]
  · exact absurd h Bool.false_ne_true

section
variable {s : State} {d : Desc} (hs : s.serves 0x10) (hst : s.txn.st = .idle ∨ s.txn.st = .rolledBack) (hid : dTxnId d ≠ 0)
  (hnew : dTxnId d ≠ s.txn.lastId) (hlo : 1 ≤ (arg24 d.d3).toNat) (hhi : (arg24 d.d3).toNat ≤ 10000)
include hs hst hid hnew hlo hhi

/-- A TXN_BEGIN of a form, a state and an id that nothing refuses: what is left to judge is its unseal response (R193, R338). -/
theorem decTxnBegin_passes
    (hform : (formOk d false true mA 3 (if d.d4.getLsbD 1 then mB else m0) (if d.d4.getLsbD 1 then mB else m0) (if d.d4.getLsbD 1 then mB else m0) &&
      (!d.d4.getLsbD 1 || bulkOk d 32 4)) = true) : decTxnBegin d s =
      if !d.d4.getLsbD 1 then txnOpen 0x10 d false s
      else if !d.dmaOk then bulkFail 0x10 d false s
      else if s.unsealOk (dTxnId d) (bulkBytes d 32) then txnOpen 0x10 d true (useNonce 2 s)
      else refuse 0x10 d .authFail 0 (raise 0x380A 5 ((dTxnId d).zeroExtend 24) 0 (useNonce 2 s)) := by
  have hopen : ¬ (s.txn.st != .idle && s.txn.st != .rolledBack) = true := by
    obtain h | h := hst <;> rw [h] <;> decide
  have hgiven : (dTxnId d != 0#16) = true := bne_iff_ne.mpr hid
  unfold decTxnBegin
  rw [gate_passes hs (by rw [hform, hgiven, decide_eq_true hlo, decide_eq_true hhi]; rfl), if_neg hopen, if_neg hnew]

theorem decTxnBegin_plain (hf : formOk d false true mA 3 m0 m0 m0 = true) (hplain : d.d4.getLsbD 1 = false) :
    decTxnBegin d s = txnOpen 0x10 d false s := by
  rw [decTxnBegin_passes hs hst hid hnew hlo hhi (by rw [hplain]; simpa using hf), hplain]
  rfl

theorem decTxnBegin_unseals (hf : formOk d false true mA 3 mB mB mB = true) (hkeyed : d.d4.getLsbD 1 = true) (hb : bulkOk d 32 4 = true)
    (hdma : d.dmaOk = true) (hresp : s.unsealOk (dTxnId d) (bulkBytes d 32) = true) :
    decTxnBegin d s = txnOpen 0x10 d true { s with log.nonce := none } := by
  rw [decTxnBegin_passes hs hst hid hnew hlo hhi (by rw [hkeyed, if_pos rfl, hf, hb]; rfl)]
  simp only [hkeyed, hdma, hresp, Bool.not_true, Bool.false_eq_true, if_false, if_true, useNonce_of_unsealOk hresp]

end

section
variable {s : State} {d : Desc} (ht : s.takes d) (hs : s.serves 0x10)
include ht hs

theorem txnBegin_opens (hf : formOk d false true mA 3 m0 m0 m0 = true) (hplain : d.d4.getLsbD 1 = false)
    (hst : s.txn.st = .idle ∨ s.txn.st = .rolledBack) (hid : dTxnId d ≠ 0) (hnew : dTxnId d ≠ s.txn.lastId) (hlo : 1 ≤ (arg24 d.d3).toNat)
    (hhi : (arg24 d.d3).toNat ≤ 10000) : acceptsOk (.txnBegin d) 0x10 d ((dTxnId d).zeroExtend 24) 0 s (fun t =>
      t.txn.st = .opened ∧ t.txn.id = dTxnId d ∧ t.txn.deadlineMs = (arg24 d.d3).toNat ∧ t.txn.force = d.d4.getLsbD 0 ∧ t.txn.authd = false ∧
      ({ t.rest with txn := {} } : State) = { s.rest with txn := {} }) := by
  obtain ⟨u, hopen, hu⟩ := txnOpen_eq 0x10 d false (s.fetched d)
  refine acceptsOk_of_txn (n := s.log.nonce) rfl ht ((decTxnBegin_plain (s := s.fetched d) hs hst hid hnew hlo hhi hf hplain).trans hopen) hu
    fun t h => ?_
  have htxn : t.txn = s.txn.begun d false := (congrArg State.txn h :)
  rw [htxn]
  exact ⟨rfl, rfl, rfl, rfl, rfl, (congrArg (fun w : State => ({ w with txn := {} } : State)) h :)⟩

theorem txnBegin_unseals (hf : formOk d false true mA 3 mB mB mB = true) (hkeyed : d.d4.getLsbD 1 = true) (hb : bulkOk d 32 4 = true)
    (hst : s.txn.st = .idle ∨ s.txn.st = .rolledBack) (hid : dTxnId d ≠ 0) (hnew : dTxnId d ≠ s.txn.lastId) (hlo : 1 ≤ (arg24 d.d3).toNat)
    (hhi : (arg24 d.d3).toNat ≤ 10000) (hdma : d.dmaOk = true) (hresp : s.unsealOk (dTxnId d) (bulkBytes d 32) = true) :
    acceptsOk (.txnBegin d) 0x10 d ((dTxnId d).zeroExtend 24) 0 s (fun t =>
      t.txn.st = .opened ∧ t.txn.id = dTxnId d ∧ t.txn.authd = true ∧ t.log.nonce = none) := by
  obtain ⟨u, hopen, hu⟩ := txnOpen_eq 0x10 d true { s.fetched d with log.nonce := none }
  have hd := decTxnBegin_unseals (s := s.fetched d) hs hst hid hnew hlo hhi hf hkeyed hb hdma hresp
  refine acceptsOk_of_txn (n := none) rfl ht (hd.trans hopen) hu fun t h => ?_
  have htxn : t.txn = s.txn.begun d true := (congrArg State.txn h :)
  rw [htxn]
  exact ⟨rfl, rfl, rfl, (congrArg (fun w : State => w.log.nonce) h :)⟩

end

/-! ### TXN_COMMIT -/

section
variable {s : State} {d : Desc} (hs : s.serves 0x11) (hf : formOk d false true m0 m0 m0 m0 m0 = true) (hst : s.txn.st = .opened)
  (hid : dTxnId d = s.txn.id)
include hs hf hst hid

/-- A TXN_COMMIT of the OPEN transaction closes it, or begins its commit (R197, R202). -/
theorem decTxnCommit_passes : decTxnCommit d s =
    if (s.stagedCount = 0 && !s.glb.defaults) = true then
      acceptOk 0x11 d (lo24 s.prm.epoch) 0 (txnTo .idle { s with txn.lastId := s.txn.id, txn.lastCommit := true, txn.authd := false })
    else startCommit 0x11 d s := by
  have hfree : s.committing = false := by rw [State.committing, hst]; rfl
  have hown : ¬ (s.txn.st != .opened || dTxnId d != s.txn.id) = true := by rw [hst, hid]; simp
  unfold decTxnCommit
  rw [gate_passes hs hf, hfree, if_neg Bool.false_ne_true, if_neg hown]

theorem decTxnCommit_empty (hnone : s.stagedCount = 0) (hdefaults : s.glb.defaults = false) : decTxnCommit d s =
    acceptOk 0x11 d (lo24 s.prm.epoch) 0 (txnTo .idle { s with txn.lastId := s.txn.id, txn.lastCommit := true, txn.authd := false }) := by
  rw [decTxnCommit_passes hs hf hst hid, if_pos (by rw [hnone, hdefaults]; rfl)]

theorem decTxnCommit_begins (hsome : s.stagedCount ≠ 0) : decTxnCommit d s = startCommit 0x11 d s := by
  rw [decTxnCommit_passes hs hf hst hid, if_neg (by simp [hsome])]

end

theorem txnCommit_closes {s : State} {d : Desc} (ht : s.takes d) (hs : s.serves 0x11) (hf : formOk d false true m0 m0 m0 m0 m0 = true)
    (hst : s.txn.st = .opened) (hid : dTxnId d = s.txn.id) (hnone : s.stagedCount = 0) (hdefaults : s.glb.defaults = false) :
    acceptsOk (.txnCommit d) 0x11 d (lo24 s.prm.epoch) 0 s (fun t =>
      t.txn.st = .idle ∧ t.txn.lastId = s.txn.id ∧ t.txn.lastCommit = true ∧ ({ t.rest with txn := {} } : State) = { s.rest with txn := {} }) := by
  refine acceptsOk_of_txn (n := s.log.nonce) rfl ht (decTxnCommit_empty (s := s.fetched d) hs hf hst hid hnone hdefaults)
    ((quiet_txnTo _ _).trans rfl) fun t h => ?_
  exact ⟨(congrArg (fun w : State => w.txn.st) h :), (congrArg (fun w : State => w.txn.lastId) h :),
    (congrArg (fun w : State => w.txn.lastCommit) h :), (congrArg (fun w : State => ({ w with txn := {} } : State)) h :)⟩

/-- The state with the commit begun: the deadline runs, nobody has voted, and the spare bank fails its CRC until the image's header is
written (R203, R208). -/
def State.deadlineRuns (s : State) : State :=
  imageBegin { s with txn.deadline := some (s.now + 1000 * s.txn.deadlineMs), txn.voted := 0, txn.atSafe := 0 }

/-- Some touched island that needs its safe point is not there (R198). -/
def State.waitsForSafe (s : State) : Bool := (List.range 9).any (fun i => s.needsSafe i && !s.atSafePoint i)

/-- The islands that need their safe points and stand there (R199). -/
def State.standsSafe (s : State) : BitVec 9 := BitVec.ofNat 9 (bitsOf ((List.range 9).map (fun i => s.needsSafe i && s.atSafePoint i)))

/-- The outcome that a TXN_COMMIT is accepted with (R198, R202). -/
def State.commitStatus (s : State) : Status := if s.waitsForSafe = true then .deferred else .queued

/-- What is judged of the islands does not hang on the first steps of the commit. -/
theorem commitStatus_deadlineRuns (s : State) : s.deadlineRuns.commitStatus = s.commitStatus := rfl

/-- The state in which a TXN_COMMIT is accepted. -/
def State.commitReady (s : State) : State := { s.deadlineRuns with txn.atSafe := s.deadlineRuns.standsSafe }

/-- A TXN_COMMIT accepted, and the transaction in PREPARING (R197). -/
def commitBegun (op : Byte) (d : Desc) (s : State) : State :=
  let t := acceptRun op d s.deadlineRuns.commitStatus 0 0 s.commitReady
  txnTo .preparing { t with txn.ref := some (s.deadlineRuns.nextRef op d), txn.written := t.logUp }

theorem startCommit_eq (op : Byte) (d : Desc) (s : State) :
    startCommit op d s = if (commitBegun op d s).txn.force = true then quiesce (commitBegun op d s) else commitBegun op d s := rfl

theorem txn_acceptRun (op : Byte) (d : Desc) (st : Status) (r : W24) (x : Byte) (s : State) : (acceptRun op d st r x s).txn = s.txn :=
  txn_of_rest (rest_acceptRun op d st r x s)

theorem txn_commitBegun (op : Byte) (d : Desc) (s : State) : ∃ w, (commitBegun op d s).txn =
    { s.commitReady.txn with st := .preparing, ref := some (s.nextRef op d), written := w } := by
  simp only [commitBegun, txn_txnTo, txn_acceptRun]
  exact ⟨_, rfl⟩

theorem quiet_commitBegun (op : Byte) (d : Desc) (s : State) : (commitBegun op d s).quiet =
    ({ acceptRun op d s.commitStatus 0 0 s.commitReady with txn := (commitBegun op d s).txn } : State).quiet := by
  simp only [commitBegun, quiet_txnTo, txn_txnTo, commitStatus_deadlineRuns]

theorem txnCommit_begins {s : State} {d : Desc} (ht : s.takes d) (hs : s.serves 0x11) (hf : formOk d false true m0 m0 m0 m0 m0 = true)
    (hst : s.txn.st = .opened) (hid : dTxnId d = s.txn.id) (hsome : s.stagedCount ≠ 0) (hforce : s.txn.force = false) :
    acceptsLater (.txnCommit d) 0x11 d s.commitStatus s (fun t => t.txn.st = .preparing ∧ t.txn.voted = 0 ∧
      t.txn.deadline = some (s.now + 1000 * s.txn.deadlineMs) ∧ t.txn.ref = some (s.nextRef 0x11 d) ∧ t.txn.staged = s.txn.staged ∧
      t.prm.committed = s.prm.committed) := by
  have hu : Accepting s (s.fetched d).commitReady := { accepting_fetched ht with }
  have hq : (commitBegun 0x11 d (s.fetched d)).quiet = ({ acceptRun 0x11 d s.commitStatus 0 0 (s.fetched d).commitReady with
      txn := (commitBegun 0x11 d (s.fetched d)).txn } : State).quiet := quiet_commitBegun 0x11 d (s.fetched d)
  obtain ⟨w, htxn⟩ := txn_commitBegun 0x11 d (s.fetched d)
  have hd : decodeOp 0x11 d (s.fetched d) = commitBegun 0x11 d (s.fetched d) := by
    refine (decTxnCommit_begins (s := s.fetched d) hs hf hst hid hsome).trans ((startCommit_eq _ _ _).trans (if_neg ?_))
    rw [htxn]
    exact ne_true_of_eq_false hforce
  generalize commitBegun 0x11 d (s.fetched d) = v at hq htxn hd
  refine acceptsLater_of rfl ht hd hu (congrArg State.jrn hq :) (congrArg (fun u : State => u.ring.cpl) hq :)
    (congrArg (fun u : State => u.ring.cplProd) hq :) (congrArg (fun u : State => u.ring.outstanding) hq :)
    ((congrArg (fun u : State => u.ring.sleepReq) hq :).trans (acceptRun_awake 0x11 d _ 0 0 hu)) fun t hv => ?_
  have hprm : t.prm = (acceptRun 0x11 d s.commitStatus 0 0 (s.fetched d).commitReady).prm :=
    (prm_of_rest (rest_of_quiet (hv.trans hq)) :)
  rw [txn_of_quiet hv, htxn, hprm, prm_of_rest (rest_acceptRun _ _ _ _ _ _)]
  exact ⟨rfl, rfl, rfl, rfl, rfl, rfl⟩

/-- Settles O7: what a touched island needs and where it stands are judged on the state before the command; that FIELD waits for its slices
whatever is staged is log 43. -/
theorem commitBegins : Obligations.CommitBegins := fun _ _ => txnCommit_begins

/-! ### TXN_ROLLBACK -/

/-- A transaction that has rolled back (R205, Table 7-4). -/
def TxnSt.rolledBack (x : TxnSt) (cause isl : Nat) : TxnSt :=
  { x with
    st := .rolledBack, staged := [], tables := [], idWords := none, voted := 0, atSafe := 0, written := false, imageDone := false
    failIsl := BitVec.ofNat 4 isl, failCause := BitVec.ofNat 4 cause, lastId := x.id, lastCommit := false, authd := false, deadline := none
    ref := none }

theorem discardShares_eq (s : State) : ∃ a, discardShares s = { s with
    awn := a, txn := { s.txn with
      staged := [], tables := [], idWords := none, voted := 0, atSafe := 0, written := false, imageDone := false } } := by
  simp only [discardShares]
  split
  · exact ⟨_, rfl⟩
  · exact ⟨s.awn, rfl⟩

/-- The rollback of a transaction whose commit has not begun: nothing else changes but LINK's shadow slices (R205, R255). -/
theorem quiet_rollback_of_opened {s : State} (hst : s.txn.st = .opened) (href : s.txn.ref = none) (c i : Nat) :
    ∃ a, (rollback c i s).quiet = ({ s with txn := s.txn.rolledBack c i, awn := a } : State).quiet := by
  have hfree : s.committing = false := by rw [State.committing, hst]; rfl
  obtain ⟨a, hshares⟩ := discardShares_eq s
  have hset {u v : State} (h : u.quiet = v.quiet) :
      ({ u with txn.st := .rolledBack } : State).quiet = ({ v with txn.st := .rolledBack } : State).quiet :=
    (congrArg (fun w : State => ({ w with txn.st := .rolledBack } : State)) h :)
  simp only [rollback, hfree, Bool.false_eq_true, if_false, href, quiet_txnTo, hshares]
  exact ⟨a, hset (quiet_raise _ _ _ _ _)⟩

/-- A completion rests on what `quiet` keeps alone. -/
theorem quiet_postCpl_congr (op : Byte) (d : Desc) (st : Status) (q : Nat) (r : W24) (x : Byte) {s t : State} (h : t.quiet = s.quiet) :
    (postCpl op d st q r x t).quiet = (postCpl op d st q r x s).quiet := by
  have hrun : t.host.running = s.host.running := (congrArg (fun u : State => u.host.running) h :)
  have hdma : t.dmaOpen = s.dmaOpen := (congrArg State.dmaOpen h :)
  simp only [postCpl, hrun, hdma]
  split
  · exact h
  · split
    · rw [quiet_putCpl, quiet_putCpl]
      exact (congrArg (fun u : State => ({ u with
        ring.cpl := ⟨u.ring.cplProd, d.tag, st, op, BitVec.ofNat 32 q, r, x, phaseOf (u.ringLog 1) u.ring.cplProd⟩ :: u.ring.cpl
        ring.cplProd := u.ring.cplProd + 1 } : State)) h :)
    · exact h

theorem decTxnRollback_eq {s : State} {d : Desc} (hs : s.serves 0x12) (hf : formOk d false true m0 m0 m0 m0 m0 = true)
    (hst : s.txn.st = .opened) (hid : dTxnId d = s.txn.id) : decTxnRollback d s =
    postCpl 0x12 d .ok (s.jrn.head + 1) (w24 s.stagedCount) 0 (rollback 1 15 (jrnCmd 0x12 d .ok s)) := by
  have hbusy : ¬ (decide (s.txn.st = .applying) && decide (dTxnId d = s.txn.id)) = true := by rw [hst]; simp
  have hown : ¬ (!(decide (s.txn.st = .opened) || decide (s.txn.st = .preparing) || decide (s.txn.st = .waiting)) || dTxnId d != s.txn.id) = true := by
    rw [hst, hid]; simp
  unfold decTxnRollback
  rw [gate_passes hs hf, if_neg hbusy, if_neg hown]
  rfl

theorem txnRollback_rollsBack {s : State} {d : Desc} (ht : s.takes d) (hs : s.serves 0x12) (hf : formOk d false true m0 m0 m0 m0 m0 = true)
    (hst : s.txn.st = .opened) (hid : dTxnId d = s.txn.id) (href : s.txn.ref = none) :
    acceptsOk (.txnRollback d) 0x12 d (w24 s.stagedCount) 0 s (fun t =>
      t.txn.st = .rolledBack ∧ t.txn.failCause = 1 ∧ t.txn.failIsl = 15 ∧ t.txn.staged = [] ∧ t.txn.tables = [] ∧ t.txn.idWords = none ∧
      t.txn.lastId = s.txn.id ∧ t.txn.lastCommit = false ∧ t.prm = s.prm) := by
  obtain ⟨a, hback⟩ := quiet_rollback_of_opened (s := jrnCmd 0x12 d .ok (s.fetched d)) hst href 1 15
  have hu : Accepting s { s.fetched d with txn := s.txn.rolledBack 1 15, awn := a } := { accepting_fetched ht with }
  have hd : decodeOp 0x12 d (s.fetched d) = _ := decTxnRollback_eq (s := s.fetched d) hs hf hst hid
  refine acceptsOk_of_meaning rfl ht hd hu (quiet_postCpl_congr _ _ _ _ _ _ hback) fun t h => ?_
  have hrest := rest_of_added h
  have htxn : t.txn = s.txn.rolledBack 1 15 := txn_of_rest hrest
  rw [htxn]
  exact ⟨rfl, rfl, rfl, rfl, rfl, rfl, rfl, rfl, (prm_of_rest hrest :)⟩

/-- Settles O6: a begin and an empty commit set the transaction alone and use a nonce, and a rollback comes between its journal entry and
its completion. -/
theorem transactionsOpenAndClose : Obligations.TransactionsOpenAndClose :=
  ⟨fun _ _ => txnBegin_opens, fun _ _ => txnBegin_unseals, fun _ _ => txnCommit_closes, fun _ _ => txnRollback_rollsBack⟩

end Sys2Proof.Machine
end

section
/-! The frames of the Awn link: what their words carry, and what their CRC-24 shows (R245, R247 to R249, Tables 8-5 and 8-6). -/

namespace Sys2Proof.Machine

/-! ### The CRC-24 bit by bit (R248) -/

/-- One bit of the CRC-24: the remainder doubled, modulo the polynomial. -/
def crcStep (c : W24) : W24 := if c.msb then (c <<< 1) ^^^ 0x864CFB#24 else c <<< 1

theorem crc24Bits_eq_iterate (n : Nat) (c : W24) : crc24Bits n c = crcStep^[n] c := by
  induction n generalizing c with
  | zero => rfl
  | succ n ih => exact ih (crcStep c)

theorem repeat_eq_iterate {α : Type} (f : α → α) (n : Nat) (a : α) : Nat.repeat f n a = f^[n] a := by
  induction n with
  | zero => rfl
  | succ n ih => rw [Function.iterate_succ_apply', ← ih]; rfl

theorem crc24Bits_add (m n : Nat) (c : W24) : crc24Bits (m + n) c = crc24Bits m (crc24Bits n c) := by
  simp only [crc24Bits_eq_iterate, Function.iterate_add_apply]

/-- The polynomial is odd, so the lowest bit tells whether it was added. -/
theorem getLsbD_zero_crcStep (c : W24) : (crcStep c).getLsbD 0 = c.msb := by
  unfold crcStep
  split <;> simp_all

theorem crcStep_eq_shiftLeft (c : W24) : crcStep c ^^^ (if c.msb then 0x864CFB#24 else 0) = c <<< 1 := by
  unfold crcStep
  split <;> simp

/-- No two remainders become one: the top bit is told by the lowest bit of the result, the others are shifted. -/
theorem crcStep_injective : Function.Injective crcStep := by
  intro c c' h
  have hmsb : c.msb = c'.msb := by rw [← getLsbD_zero_crcStep c, h, getLsbD_zero_crcStep c']
  have hshift : c <<< 1 = c' <<< 1 := by rw [← crcStep_eq_shiftLeft c, ← crcStep_eq_shiftLeft c', h, hmsb]
  apply BitVec.eq_of_getLsbD_eq
  intro i hi
  by_cases htop : i = 23
  · subst htop; simpa only [BitVec.msb_eq_getLsbD_last] using hmsb
  · have hbit := congrArg (fun x : W24 => x.getLsbD (i + 1)) hshift
    have hbit (x : W24) : (x <<< 1).getLsbD (i + 1) = x.getLsbD i := by
      simp only [BitVec.getLsbD_shiftLeft, Nat.add_sub_cancel, decide_eq_true (show i + 1 < 24 by omega), Nat.not_lt.mpr (Nat.le_add_left 1 i),
        decide_false, Bool.not_false, Bool.true_and]
    rw [← hbit c, hshift, hbit c']

theorem crc24Bits_injective (n : Nat) : Function.Injective (crc24Bits n) := by
  rw [show crc24Bits n = crcStep^[n] from funext (crc24Bits_eq_iterate n)]
  exact crcStep_injective.iterate n

/-! ### One word changed (R248, R249) -/

theorem foldl_injective {α β : Type} {f : β → α → β} (hf : ∀ a, Function.Injective (f · a)) (l : List α) :
    Function.Injective (fun b => l.foldl f b) := by
  induction l with
  | nil => exact Function.injective_id
  | cons a l ih => exact ih.comp (hf a)

/-- One word taken into the CRC. -/
def crcWord (c w : W24) : W24 := crc24Bits 24 (c ^^^ w)

theorem crc24_eq_foldl (l : List W24) : crc24 l = l.foldl crcWord 0xB704CE#24 := rfl

theorem crcWord_injective_left (w : W24) : Function.Injective (crcWord · w) :=
  fun _ _ h => (BitVec.xor_left_inj w).mp (crc24Bits_injective 24 h)

theorem crcWord_injective_right (c : W24) : Function.Injective (crcWord c) :=
  fun _ _ h => (BitVec.xor_right_inj c).mp (crc24Bits_injective 24 h)

theorem crc24_ne_of_word_ne (pre post : List W24) {w w' : W24} (h : w ≠ w') : crc24 (pre ++ w :: post) ≠ crc24 (pre ++ w' :: post) := by
  rw [crc24_eq_foldl, crc24_eq_foldl, List.foldl_append, List.foldl_append, List.foldl_cons, List.foldl_cons]
  exact fun heq => h (crcWord_injective_right _ (foldl_injective crcWord_injective_left post heq))

/-- The noise on one word alone. -/
theorem noisy_one_word (pre post : List W24) (w e : W24) :
    noisy (pre ++ w :: post) (List.replicate pre.length 0#24 ++ [e]) = pre ++ (w ^^^ e) :: post := by
  induction pre with
  | nil => simp [noisy]
  | cons a pre ih =>
    show (a ^^^ 0#24) :: noisy (pre ++ w :: post) (List.replicate pre.length 0#24 ++ [e]) = _
    rw [ih, BitVec.xor_zero]; rfl

theorem ne_xor_of_ne_zero {w e : W24} (h : e ≠ 0#24) : w ≠ w ^^^ e := fun heq => h (by simpa using (congrArg (w ^^^ ·) heq).symm)

/-- A frame with one word changed is fourteen words followed by what is not their CRC. -/
theorem noisy_breaks_crc {b : List W24} (hb : b.length = 14) {i : Nat} {e : W24} (hi : i < 15) (he : e ≠ 0#24) :
    ∃ b' x, noisy (b ++ [crc24 b]) (List.replicate i 0#24 ++ [e]) = b' ++ [x] ∧ x ≠ crc24 b' := by
  by_cases hlast : i = 14
  · refine ⟨b, crc24 b ^^^ e, ?_, (ne_xor_of_ne_zero he).symm⟩
    rw [hlast, ← hb, noisy_one_word]
  · have hlt : i < b.length := by omega
    obtain ⟨pre, w, post, rfl, rfl⟩ : ∃ pre w post, b = pre ++ w :: post ∧ pre.length = i :=
      ⟨b.take i, b[i], b.drop (i + 1), by simp, by simp; omega⟩
    refine ⟨pre ++ (w ^^^ e) :: post, crc24 (pre ++ w :: post), ?_, crc24_ne_of_word_ne pre post (ne_xor_of_ne_zero he)⟩
    rw [List.append_assoc, List.cons_append, noisy_one_word, List.append_assoc, List.cons_append]

theorem decodeG_bad_crc {b : List W24} {x : W24} (hx : x ≠ crc24 b) : decodeG (b ++ [x]) = none := by
  unfold decodeG
  split
  · next a b' c d e f w0 w1 w2 w3 w4 w5 w6 w7 x' heq =>
    obtain ⟨rfl, hlast⟩ := List.append_inj' (t₂ := [x']) (s₂ := [a, b', c, d, e, f, w0, w1, w2, w3, w4, w5, w6, w7]) heq rfl
    obtain rfl : x = x' := List.singleton_inj.mp hlast
    simp [hx]
  · rfl

theorem decodeH_bad_crc {b : List W24} {x : W24} (hx : x ≠ crc24 b) : decodeH (b ++ [x]) = none := by
  unfold decodeH
  split
  · next a b' c d e f c0 c1 c2 c3 g v t m x' heq =>
    obtain ⟨rfl, hlast⟩ := List.append_inj' (t₂ := [x']) (s₂ := [a, b', c, d, e, f, c0, c1, c2, c3, g, v, t, m]) heq rfl
    obtain rfl : x = x' := List.singleton_inj.mp hlast
    simp [hx]
  · rfl

/-- Settles O55: a changed word changes what the CRC is over, or the CRC itself. -/
theorem oneBadWordIsSeen : Obligations.OneBadWordIsSeen := by
  refine ⟨fun g i e hi he => ?_, fun h i e hi he => ?_⟩
  · obtain ⟨b, x, hnoisy, hx⟩ := noisy_breaks_crc (b := g.body) rfl hi he
    rw [encodeG, hnoisy, decodeG_bad_crc hx]
  · obtain ⟨b, x, hnoisy, hx⟩ := noisy_breaks_crc (b := h.body) rfl hi he
    rw [encodeH, hnoisy, decodeH_bad_crc hx]

/-! ### What was sent is what is read (R247) -/

/-- A field above the lower part of a word is found in the upper part. The width of a frame's word is a numeral, which `simp` would not match
with a sum: hence `no_index`. -/
theorem extractLsb'_append_high {v w n len : Nat} (x : BitVec v) (y : BitVec w) (h : w ≤ n) :
    @BitVec.extractLsb' (v + w) n len (@HAppend.hAppend (BitVec v) (BitVec w) (no_index (BitVec (v + w))) _ x y) = x.extractLsb' (n - w) len := by
  rw [BitVec.extractLsb'_append_eq_ite, dif_neg (Nat.not_lt.mpr h)]

/-- The lower part of a word is found at its place. -/
theorem extractLsb'_append_low {v w : Nat} (x : BitVec v) (y : BitVec w) :
    @BitVec.extractLsb' (v + w) 0 w (@HAppend.hAppend (BitVec v) (BitVec w) (no_index (BitVec (v + w))) _ x y) = y :=
  BitVec.extractLsb'_append_eq_right

/-- Settles O54: the CRC is the sender's, the reserved bits read 0, and every field lies where the receiver looks for it. -/
theorem framesRoundTrip : Obligations.FramesRoundTrip := by
  refine ⟨fun g hk => ?_, fun h hk => ?_⟩
  · simp [encodeG, GFrame.body, decodeG, extractLsb'_append_high, extractLsb'_append_low, hk]
  · simp [encodeH, HFrame.body, decodeH, extractLsb'_append_high, extractLsb'_append_low, hk]

/-! ### Words as bytes (R245, R248) -/

/-- A byte at the top of a word. -/
def topByte (b : Byte) : W24 := b.zeroExtend 24 <<< (16 : Nat)

/-- One byte taken into the CRC. -/
def crcByte (c : W24) (b : Byte) : W24 := crc24Bits 8 (c ^^^ topByte b)

theorem crc24Bytes_eq_foldl (l : List Byte) : crc24Bytes l = l.foldl crcByte 0xB704CE#24 := rfl

theorem crcStep_xor {c x : W24} (hx : x.msb = false) : crcStep (c ^^^ x) = crcStep c ^^^ (x <<< 1) := by
  have hmsb : (c ^^^ x).msb = c.msb := by rw [BitVec.msb_xor, hx, Bool.xor_false]
  unfold crcStep
  rw [hmsb, BitVec.shiftLeft_xor_distrib]
  split
  · rw [BitVec.xor_assoc, BitVec.xor_assoc, BitVec.xor_comm (x <<< 1)]
  · rfl

/-- Bits that do not reach the top within `n` steps are only shifted. -/
theorem crc24Bits_xor {n : Nat} {c x : W24} (hx : ∀ i < n, x.getMsbD i = false) : crc24Bits n (c ^^^ x) = crc24Bits n c ^^^ (x <<< n) := by
  induction n generalizing c x with
  | zero => simp [crc24Bits]
  | succ n ih =>
    have hmsb : x.msb = false := hx 0 (Nat.succ_pos n)
    show crc24Bits n (crcStep (c ^^^ x)) = crc24Bits n (crcStep c) ^^^ _
    rw [crcStep_xor hmsb, ih, ← BitVec.shiftLeft_add, Nat.add_comm 1 n]
    intro i hi
    rw [BitVec.getMsbD_shiftLeft]
    exact hx (i + 1) (by omega)

theorem getLsbD_topByte (b : Byte) {i : Nat} (hi : i < 24) : (topByte b).getLsbD i = (!decide (i < 16) && b.getLsbD (i - 16)) := by
  simp [topByte, hi]

theorem topByte_eq_append (b : Byte) : topByte b = b ++ 0#16 := by
  refine BitVec.eq_of_getLsbD_eq fun i hi => ?_
  rw [getLsbD_topByte b hi, show (b ++ 0#16 : W24).getLsbD i = _ from BitVec.getLsbD_append]
  by_cases h : i < 16 <;> simp [h]

/-- A word is its top byte and what lies below. -/
theorem word_eq_top_xor_rest (w : W24) : w = topByte (w.extractLsb' 16 8) ^^^ (w.setWidth 16).setWidth 24 := by
  refine BitVec.eq_of_getLsbD_eq fun i hi => ?_
  rw [BitVec.getLsbD_xor, getLsbD_topByte _ hi, BitVec.getLsbD_extractLsb', BitVec.getLsbD_setWidth, BitVec.getLsbD_setWidth]
  by_cases h : i < 16
  · simp [h, hi]
  · simp [h, show i - 16 < 8 by omega, Nat.add_sub_cancel' (Nat.not_lt.mp h)]

/-- Eight steps take in a word's top byte; the rest of the word has moved up by one byte. -/
theorem crc24Bits_topByte (c w : W24) : crc24Bits 8 (c ^^^ w) = crcByte c (w.extractLsb' 16 8) ^^^ (w <<< 8) := by
  have hclear : ∀ i < 8, ((w.setWidth 16).setWidth 24 : W24).getMsbD i = false := fun i hi => by
    simp [BitVec.getMsbD_eq_getLsbD, BitVec.getLsbD_setWidth]; omega
  have hshift : ((w.setWidth 16).setWidth 24 : W24) <<< 8 = w <<< 8 := by
    refine BitVec.eq_of_getLsbD_eq fun i hi => ?_
    simp [hi, show i - 8 < 24 by omega, show i - 8 < 16 by omega]
  calc crc24Bits 8 (c ^^^ w) = crc24Bits 8 ((c ^^^ topByte (w.extractLsb' 16 8)) ^^^ (w.setWidth 16).setWidth 24) := by
        conv_lhs => rw [word_eq_top_xor_rest w]
        rw [BitVec.xor_assoc]
    _ = crcByte c (w.extractLsb' 16 8) ^^^ (w <<< 8) := by
        rw [crc24Bits_xor hclear, hshift, crcByte, topByte]

/-- The bytes of a word, the most significant first. -/
def wordBytes (w : W24) : List Byte := [w.extractLsb' 16 8, w.extractLsb' 8 8, w.extractLsb' 0 8]

theorem crcWord_eq_bytes (c w : W24) : crcWord c w = (wordBytes w).foldl crcByte c := by
  have hup (n : Nat) (hn : n ≤ 16) : (w <<< n).extractLsb' 16 8 = w.extractLsb' (16 - n) 8 := by
    refine BitVec.eq_of_getLsbD_eq fun i hi => ?_
    simp only [BitVec.getLsbD_extractLsb', BitVec.getLsbD_shiftLeft, decide_eq_true (show 16 + i < 24 by omega),
      decide_eq_false (show ¬ 16 + i < n by omega), show 16 + i - n = 16 - n + i by omega, Bool.not_false, Bool.true_and]
  have hgone : w <<< 24 = 0#24 := BitVec.shiftLeft_eq_zero (by decide)
  rw [crcWord, crc24Bits_add 16 8, crc24Bits_topByte, crc24Bits_add 8 8, crc24Bits_topByte, ← BitVec.shiftLeft_add, crc24Bits_topByte,
    ← BitVec.shiftLeft_add, hup 8 (by decide), hup (8 + 8) (by decide), hgone, BitVec.xor_zero]
  rfl

theorem crc24_eq_bytes (l : List W24) : crc24 l = crc24Bytes (l.flatMap wordBytes) := by
  rw [crc24_eq_foldl, crc24Bytes_eq_foldl, List.foldl_flatMap, funext₂ crcWord_eq_bytes]

theorem crc24Bytes_concat (l : List Byte) (b : Byte) :
    crc24Bytes (l ++ [b]) = Nat.repeat crcStep 8 (crc24Bytes l ^^^ (b ++ 0#16)) := by
  rw [repeat_eq_iterate, ← crc24Bits_eq_iterate, ← topByte_eq_append, crc24Bytes_eq_foldl, List.foldl_append]
  rfl

/-- Settles O56: the CRC takes in a word as its three bytes, because bits that have not reached the top are only shifted. -/
theorem frameCrcIsOverItsBytes : Obligations.FrameCrcIsOverItsBytes :=
  ⟨fun g => congrArg some (crc24_eq_bytes g.body), fun h => congrArg some (crc24_eq_bytes h.body), rfl, crc24Bytes_concat, by decide +kernel⟩

end Sys2Proof.Machine
end

section
/-! Input, output and bank events on the Husk (R225 to R243, R273): each changes the flags and drivers that it names, and LINK learns of it with
the next H-frame (R13). -/

namespace Sys2Proof.Machine

/-! ### Inputs -/

/-- An edge counted or measured changes the counters and the frequency measurements alone (R229, R230). -/
theorem countEdge_eq (c : Nat) (up : Bool) (now : Nat) (s : State) :
    ∃ n m, countEdge c up now s = { s with husk.counters := n, husk.meas := m } := by
  unfold countEdge
  split
  · exact ⟨_, _, rfl⟩
  · dsimp only
    split
    · exact ⟨_, _, rfl⟩
    · split
      · split
        · exact ⟨_, _, rfl⟩
        · split <;> exact ⟨_, _, rfl⟩
      · exact ⟨_, _, rfl⟩

/-- In mode 3 both edges count (R229). -/
theorem countEdge_both {c : Nat} {i : Fin 8} (up : Bool) (now : Nat) {s : State} (hi : ctrIdx c = some i) (hmode : s.hv (fldP c 5) = 3) :
    countEdge c up now s = { s with husk.counters := vset s.husk.counters i.val (vget s.husk.counters i.val 0 + 1) } := by
  simp only [countEdge, hi, hmode]; rfl

theorem countEdge_none {c : Nat} (up : Bool) (now : Nat) {s : State} (hi : ctrIdx c = none) : countEdge c up now s = s := by
  simp only [countEdge, hi]

/-- An input taken to its other level, before what follows of it. -/
def State.inputTurned (ch : Fin 16) (s : State) : State := { s with husk.inputs := setB s.husk.inputs ch.val (!s.husk.inputs.getLsbD ch.val) }

/-- A change of an input as FIELD takes it. -/
def State.inputChanged (ch : Fin 16) (now : Nat) (s : State) : State :=
  let t := countEdge ch.val (!s.husk.inputs.getLsbD ch.val) now (s.inputTurned ch)
  if s.hv (fldP ch.val 7) = 1 then find .wake t else t

/-- What a change of an input makes of the Husk. -/
theorem inputChanged_eq (ch : Fin 16) (now : Nat) (s : State) : ∃ h : HuskSt, s.inputChanged ch now = { s with husk := h } ∧
    h.inputs = setB s.husk.inputs ch.val (!s.husk.inputs.getLsbD ch.val) ∧
    h.counters = (countEdge ch.val (!s.husk.inputs.getLsbD ch.val) now (s.inputTurned ch)).husk.counters ∧
    h.news = s.husk.news ++ (if s.hv (fldP ch.val 7) = 1 then [.wake] else []) := by
  obtain ⟨n, m, h⟩ := countEdge_eq ch.val (!s.husk.inputs.getLsbD ch.val) now (s.inputTurned ch)
  simp only [State.inputChanged, h]
  split
  · exact ⟨_, rfl, rfl, rfl, rfl⟩
  · exact ⟨_, rfl, rfl, rfl, (List.append_nil _).symm⟩

/-- A channel is an input (R225). -/
def State.isInput (s : State) (ch : Fin 16) : Bool := s.hv (fldP ch.val 0) = 1 || s.hv (fldP ch.val 0) = 2

theorem isInput_of {s : State} {ch : Fin 16} (h : s.hv (fldP ch.val 0) = 1 ∨ s.hv (fldP ch.val 0) = 2) : s.isInput ch = true := by
  rw [State.isInput, Bool.or_eq_true, decide_eq_true_eq, decide_eq_true_eq]; exact h

theorem exec_debouncedChange (ch : Fin 16) (sub : Fin 48) (s : State) : exec (.debouncedChange ⟨ch, sub⟩) s =
    doneIf (s.fieldUp && s.isInput ch) (fun s => s.inputChanged ch (48 * s.now + sub.val)) s := rfl

theorem debouncedChange_turns {s : State} (ch : Fin 16) (sub : Fin 48) (hup : s.fieldUp = true) (hin : s.hv (fldP ch.val 0) = 1 ∨ s.hv (fldP ch.val 0) = 2) :
    completes (.debouncedChange ⟨ch, sub⟩) s (fun t => t.husk.inputs = setB s.husk.inputs ch.val (!s.husk.inputs.getLsbD ch.val) ∧
      (∀ i : Fin 8, ctrIdx ch.val = some i → s.hv (fldP ch.val 5) = 3 → t.husk.counters = vset s.husk.counters i.val (vget s.husk.counters i.val 0 + 1)) ∧
      (ctrIdx ch.val = none → t.husk.counters = s.husk.counters) ∧
      t.husk.news = s.husk.news ++ (if s.hv (fldP ch.val 7) = 1 then [.wake] else []) ∧
      ({ t.rest with husk := {} } : State) = { s.rest with husk := {} }) := by
  obtain ⟨h, heq, hinputs, hcounters, hnews⟩ := inputChanged_eq ch (48 * s.now + sub.val) s
  refine completes_of_doneIf_quiet (exec_debouncedChange ch sub s) (by rw [hup, isInput_of hin]; rfl) (congrArg State.quiet heq) fun t hq => ?_
  rw [husk_of_quiet hq]
  refine ⟨hinputs, fun i hi hmode => ?_, fun hi => ?_, hnews, (congrArg (fun u : State => ({ u with husk := {} } : State)) (rest_of_quiet hq) :)⟩
  · exact hcounters.trans (congrArg (fun u : State => u.husk.counters) (countEdge_both (s := s.inputTurned ch) _ _ hi hmode))
  · exact hcounters.trans (congrArg (fun u : State => u.husk.counters) (countEdge_none (s := s.inputTurned ch) _ _ hi) :)

theorem exec_fldWireBreak (ch : Fin 16) (b : Bool) (s : State) : exec (.fldWireBreak ch b) s =
    doneIf (s.fieldUp && s.isInput ch && s.hv (fldP ch.val 2) = 1 && s.husk.wb.getLsbD ch.val != b) (fun s =>
      findEvent (if b then 0x3008 else 0x3009) (if b then 4 else 2) (w24 ch.val) 0 { s with husk.wb := setB s.husk.wb ch.val b }) s := rfl

theorem fldWireBreak_sets {s : State} {ch : Fin 16} {b : Bool} (hup : s.fieldUp = true) (hin : s.hv (fldP ch.val 0) = 1 ∨ s.hv (fldP ch.val 0) = 2)
    (hdetect : s.hv (fldP ch.val 2) = 1) (hnew : s.husk.wb.getLsbD ch.val ≠ b) : completesAs (.fldWireBreak ch b) s { s with
      husk.wb := setB s.husk.wb ch.val b
      husk.news := s.husk.news ++ [.event (if b then 0x3008 else 0x3009) (if b then 4 else 2) (w24 ch.val) 0] } :=
  completesAs_of_doneIf (exec_fldWireBreak ch b s) (by rw [hup, isInput_of hin, decide_eq_true hdetect, bne_iff_ne.mpr hnew]; rfl) rfl

/-! ### Outputs -/

theorem exec_fldOutFault (ch : Fin 32) (kind : Nat) (s : State) : exec (.fldOutFault ch kind) s =
    doneIf (s.fieldUp && 8 ≤ ch.val && s.husk.out.getLsbD (ch.val - 8) && 1 ≤ kind && kind ≤ 3) (fun s =>
      findEvent 0x300A 4 (w24 ch.val) (w24 kind)
        (outOff (chBit ch.val) (pulseCut (chBit ch.val) { s with husk.faults := setB s.husk.faults (ch.val - 8) true }))) s := rfl

theorem exec_fldOpenLoad (ch : Fin 32) (o : Bool) (s : State) : exec (.fldOpenLoad ch o) s =
    doneIf (s.fieldUp && 8 ≤ ch.val && s.husk.out.getLsbD (ch.val - 8) && s.hv (fldP ch.val 2) = 1 && s.husk.openLoad.getLsbD (ch.val - 8) != o)
      (fun s => if o then findEvent 0x300B 3 (w24 ch.val) 0 { s with husk.openLoad := setB s.husk.openLoad (ch.val - 8) o }
        else { s with husk.openLoad := setB s.husk.openLoad (ch.val - 8) o }) s := rfl

theorem exec_pulseEnd (ch : Fin 32) (s : State) : exec (.pulseEnd ch) s =
    doneIf (8 ≤ ch.val && s.husk.pulsing.getLsbD (ch.val - 8) && !s.husk.riseFor.getLsbD (ch.val - 8) &&
        !s.husk.waiting.any (fun j => j.val = ch.val - 8)) (fun s =>
      find (.pulseEnd (Fin.ofNat 24 (ch.val - 8)) s.husk.gSeq) (outOff (chBit ch.val) (pulseCut (chBit ch.val) s))) s := rfl

theorem fldOutFault_latches {s : State} {ch : Fin 32} {kind : Nat} (hup : s.fieldUp = true) (hch : 8 ≤ ch.val)
    (hon : s.husk.out.getLsbD (ch.val - 8) = true) (hlo : 1 ≤ kind) (hhi : kind ≤ 3) : completes (.fldOutFault ch kind) s (fun t =>
      t.husk.faults = setB s.husk.faults (ch.val - 8) true ∧ t.husk.out = s.husk.out &&& ~~~chBit ch.val ∧
      t.husk.news = s.husk.news ++ [.event 0x300A 4 (w24 ch.val) (w24 kind)] ∧ t.awn = s.awn) := by
  refine completes_of_doneIf_quiet (exec_fldOutFault ch kind s) (by rw [hup, hon, decide_eq_true hch, decide_eq_true hlo, decide_eq_true hhi]; rfl) rfl fun t hq => ?_
  obtain ⟨_, _, _, _, _, _, hoff⟩ := outOff_eq (chBit ch.val) (pulseCut (chBit ch.val) { s with husk.faults := setB s.husk.faults (ch.val - 8) true })
  rw [husk_of_quiet hq, awn_of_quiet hq, hoff]
  exact ⟨rfl, rfl, rfl, rfl⟩

theorem fldOpenLoad_sets {s : State} {ch : Fin 32} {o : Bool} (hup : s.fieldUp = true) (hch : 8 ≤ ch.val)
    (hon : s.husk.out.getLsbD (ch.val - 8) = true) (hdetect : s.hv (fldP ch.val 2) = 1) (hnew : s.husk.openLoad.getLsbD (ch.val - 8) ≠ o) :
    completesAs (.fldOpenLoad ch o) s { s with
      husk.openLoad := setB s.husk.openLoad (ch.val - 8) o
      husk.news := s.husk.news ++ (if o then [.event 0x300B 3 (w24 ch.val) 0] else []) } := by
  refine completesAs_of_doneIf (exec_fldOpenLoad ch o s) (by rw [hup, hon, decide_eq_true hch, decide_eq_true hdetect, bne_iff_ne.mpr hnew]; rfl) ?_
  cases o with
  | true => rfl
  | false => simp only [Bool.false_eq_true, if_false, List.append_nil]

theorem pulseEnd_records {s : State} {ch : Fin 32} (hch : 8 ≤ ch.val) (hrun : s.husk.pulsing.getLsbD (ch.val - 8) = true)
    (hrise : s.husk.riseFor.getLsbD (ch.val - 8) = false) (hwait : ∀ j ∈ s.husk.waiting, j.val ≠ ch.val - 8) :
    completes (.pulseEnd ch) s (fun t => t.husk.out = s.husk.out &&& ~~~chBit ch.val ∧ t.husk.pulsing = s.husk.pulsing &&& ~~~chBit ch.val ∧
      t.husk.news = s.husk.news ++ [.pulseEnd (Fin.ofNat 24 (ch.val - 8)) s.husk.gSeq] ∧ t.awn = s.awn) := by
  have hnone : s.husk.waiting.any (fun j => decide (j.val = ch.val - 8)) = false := by simpa using hwait
  refine completes_of_doneIf_quiet (exec_pulseEnd ch s) (by rw [hrun, hrise, hnone, decide_eq_true hch]; rfl) rfl fun t hq => ?_
  obtain ⟨_, _, _, _, _, _, hoff⟩ := outOff_eq (chBit ch.val) (pulseCut (chBit ch.val) s)
  rw [husk_of_quiet hq, awn_of_quiet hq, hoff]
  exact ⟨rfl, rfl, rfl, rfl⟩

/-! ### Banks -/

theorem getLsbD_setB_self {n : Nat} (x : BitVec n) {i : Nat} (hi : i < n) (b : Bool) : (setB x i b).getLsbD i = b := by
  rw [getLsbD_setB x i i b hi, if_pos rfl]

/-- A bank's switch settled leaves no bank rising that has not been. -/
theorem rising_settleBank (b : Fin 2) {s : State} (h : s.husk.rising.getLsbD b.val = false) : (settleBank b s).husk.rising.getLsbD b.val = false := by
  have hclear := getLsbD_setB_self s.husk.rising b.isLt false
  unfold settleBank
  dsimp only
  split
  · split
    · exact h
    · split <;> exact hclear
  · exact h

theorem exec_bankRise (b : Fin 2) (s : State) : exec (.bankRise b) s = doneIf (s.husk.rising.getLsbD b.val) (fun s => settleBank b { s with
    husk.rising := setB s.husk.rising b.val false, husk.out := s.husk.out ||| (s.husk.riseFor &&& bankMask b)
    husk.riseFor := s.husk.riseFor &&& ~~~(s.husk.riseFor &&& bankMask b) }) s := rfl

theorem bankRise_switchesOn {s : State} {b : Fin 2} (h : s.husk.rising.getLsbD b.val = true) : completes (.bankRise b) s (fun t =>
    t.husk.out = s.husk.out ||| (s.husk.riseFor &&& bankMask b) ∧ t.husk.rising.getLsbD b.val = false ∧
    t.husk.riseFor = s.husk.riseFor &&& ~~~(s.husk.riseFor &&& bankMask b)) := by
  refine completes_of_doneIf_quiet (exec_bankRise b s) h rfl fun t hq => ?_
  rw [husk_of_quiet hq]
  refine ⟨?_, rising_settleBank b (getLsbD_setB_self _ b.isLt false), ?_⟩ <;>
  · obtain ⟨_, _, _, hset⟩ := settleBank_eq b { s with
      husk.rising := setB s.husk.rising b.val false, husk.out := s.husk.out ||| (s.husk.riseFor &&& bankMask b)
      husk.riseFor := s.husk.riseFor &&& ~~~(s.husk.riseFor &&& bankMask b) }
    rw [hset]

theorem clamping_outOff (m : BitVec 24) (s : State) :
    (outOff m s).husk.clamping = s.husk.clamping ||| (s.husk.out &&& m &&& 0xFF0000) := by
  obtain ⟨_, _, _, h⟩ := settleBanks_eq ({ s with
    husk.out := s.husk.out &&& ~~~ m
    husk.clamping := s.husk.clamping ||| (s.husk.out &&& m &&& 0xFF0000)
    husk.riseFor := s.husk.riseFor &&& ~~~ m
    husk.waiting := s.husk.waiting.filter (fun k => !m.getLsbD k.val) } : State)
  exact (congrArg (fun u : State => u.husk.clamping) h :)

/-- A bank latched as tripped with its valves off, its switch as it may close. -/
def bankLatched (b : Fin 2) (s : State) : State :=
  outOff (bankMask b) (pulseCut (bankMask b) { s with husk.tripped := setB s.husk.tripped b.val true })

theorem bankLatched_keeps (b : Fin 2) (s : State) : (bankLatched b s).husk.tripped = setB s.husk.tripped b.val true ∧
    (bankLatched b s).husk.out = s.husk.out &&& ~~~bankMask b ∧ (bankLatched b s).husk.news = s.husk.news ∧
    (bankLatched b s).husk.clamping = s.husk.clamping ||| (s.husk.out &&& bankMask b &&& 0xFF0000) := by
  have hclamp := clamping_outOff (bankMask b) (pulseCut (bankMask b) { s with husk.tripped := setB s.husk.tripped b.val true })
  obtain ⟨_, _, _, _, _, _, hoff⟩ := outOff_eq (bankMask b) (pulseCut (bankMask b) { s with husk.tripped := setB s.husk.tripped b.val true })
  refine ⟨?_, ?_, ?_, hclamp⟩ <;> rw [bankLatched, hoff] <;> rfl

/-- A bank's switch opened at once. -/
def bankOpened (b : Fin 2) (t : State) : State :=
  { t with husk.bankOn := setB t.husk.bankOn b.val false, husk.closing := setB t.husk.closing b.val false, husk.rising := setB t.husk.rising b.val false }

theorem tripBank_atOnce (b : Fin 2) (cause : Nat) (s : State) :
    tripBank b cause true s = findEvent 0x300C 5 (w24 b.val) (w24 cause) (bankOpened b (bankLatched b s)) := rfl

theorem tripBank_closing (b : Fin 2) (cause : Nat) (s : State) :
    tripBank b cause false s = findEvent 0x300C 5 (w24 b.val) (w24 cause) (bankLatched b s) := rfl

/-- A bank tripped at once: its switch is open too. -/
theorem tripBank_opens {c : Instr} {p : Bool} {b : Fin 2} {cause : Nat} {s : State} (hx : exec c s = doneIf p (tripBank b cause true) s)
    (hp : p = true) : completes c s (fun t => t.husk.tripped = setB s.husk.tripped b.val true ∧ t.husk.out = s.husk.out &&& ~~~bankMask b ∧
      t.husk.bankOn.getLsbD b.val = false ∧ t.husk.rising.getLsbD b.val = false ∧
      t.husk.news = s.husk.news ++ [.event 0x300C 5 (w24 b.val) (w24 cause)]) := by
  obtain ⟨htripped, hout, hnews, -⟩ := bankLatched_keeps b s
  have hclear (x : BitVec 2) : (setB x b.val false).getLsbD b.val = false := getLsbD_setB_self x b.isLt false
  refine completes_of_doneIf_quiet hx hp (congrArg State.quiet (tripBank_atOnce b cause s)) fun t hq => ?_
  generalize bankLatched b s = u at htripped hout hnews hq
  rw [husk_of_quiet hq, ← hnews]
  exact ⟨htripped, hout, hclear _, hclear _, rfl⟩

theorem exec_bankRiseTimeout (b : Fin 2) (s : State) : exec (.bankRiseTimeout b) s = doneIf (s.husk.rising.getLsbD b.val) (tripBank b 1 true) s := rfl
theorem exec_bankShort (b : Fin 2) (s : State) : exec (.bankShort b) s = doneIf (s.husk.bankOn.getLsbD b.val) (tripBank b 1 true) s := rfl
theorem exec_fldBankTrip (b : Fin 2) (s : State) : exec (.fldBankTrip b) s =
    doneIf (s.husk.bankOn.getLsbD b.val && s.husk.out &&& bankMask b != 0#24) (tripBank b 2 false) s := rfl

/-- A bank trip leaves the switch to close through its sequence (R241). -/
theorem fldBankTrip_trips {s : State} {b : Fin 2} (hbank : s.husk.bankOn.getLsbD b.val = true) (hon : s.husk.out &&& bankMask b ≠ 0#24) :
    completes (.fldBankTrip b) s (fun t => t.husk.tripped = setB s.husk.tripped b.val true ∧ t.husk.out = s.husk.out &&& ~~~bankMask b ∧
      t.husk.clamping = s.husk.clamping ||| (s.husk.out &&& bankMask b &&& 0xFF0000) ∧
      t.husk.news = s.husk.news ++ [.event 0x300C 5 (w24 b.val) 2]) := by
  obtain ⟨htripped, hout, hnews, hclamp⟩ := bankLatched_keeps b s
  refine completes_of_doneIf_quiet (exec_fldBankTrip b s) (by rw [hbank, bne_iff_ne.mpr hon]; rfl) (congrArg State.quiet (tripBank_closing b 2 s))
    fun t hq => ?_
  generalize bankLatched b s = u at htripped hout hnews hclamp hq
  rw [husk_of_quiet hq, ← hnews]
  exact ⟨htripped, hout, hclamp, rfl⟩

theorem exec_demagEnd (ch : Fin 32) (s : State) : exec (.demagEnd ch) s = doneIf (24 ≤ ch.val && s.husk.clamping.getLsbD (ch.val - 8))
    (fun s => settleBanks { s with husk.clamping := setB s.husk.clamping (ch.val - 8) false }) s := rfl

theorem demagEnd_clears {s : State} {ch : Fin 32} (hch : 24 ≤ ch.val) (hclamp : s.husk.clamping.getLsbD (ch.val - 8) = true) :
    completes (.demagEnd ch) s (fun t => t.husk.clamping = setB s.husk.clamping (ch.val - 8) false ∧ t.husk.out = s.husk.out) := by
  refine completes_of_doneIf_quiet (exec_demagEnd ch s) (by rw [hclamp, decide_eq_true hch]; rfl) rfl fun t hq => ?_
  obtain ⟨_, _, _, hset⟩ := settleBanks_eq { s with husk.clamping := setB s.husk.clamping (ch.val - 8) false }
  rw [husk_of_quiet hq, hset]
  exact ⟨rfl, rfl⟩

theorem exec_fldDemagSlow (b : Fin 2) (s : State) : exec (.fldDemagSlow b) s =
    doneIf (s.husk.closing.getLsbD b.val && s.husk.clamping &&& bankMask b != 0#24) (fun s =>
      findEvent 0x300D 4 (w24 b.val) (s.husk.clamping &&& bankMask b)
        { s with husk.bankOn := setB s.husk.bankOn b.val false, husk.closing := setB s.husk.closing b.val false }) s := rfl

theorem fldDemagSlow_opens {s : State} {b : Fin 2} (hclose : s.husk.closing.getLsbD b.val = true) (hclamp : s.husk.clamping &&& bankMask b ≠ 0#24) :
    completesAs (.fldDemagSlow b) s { s with
      husk.bankOn := setB s.husk.bankOn b.val false, husk.closing := setB s.husk.closing b.val false
      husk.news := s.husk.news ++ [.event 0x300D 4 (w24 b.val) (s.husk.clamping &&& bankMask b)] } :=
  completesAs_of_doneIf (exec_fldDemagSlow b s) (by rw [hclose, bne_iff_ne.mpr hclamp]; rfl) rfl

theorem bankShort_trips {s : State} {b : Fin 2} (hbank : s.husk.bankOn.getLsbD b.val = true) : completes (.bankShort b) s (fun t =>
    t.husk.tripped = setB s.husk.tripped b.val true ∧ t.husk.out = s.husk.out &&& ~~~bankMask b ∧ t.husk.bankOn.getLsbD b.val = false ∧
    t.husk.news = s.husk.news ++ [.event 0x300C 5 (w24 b.val) 1]) := by
  obtain ⟨t, ht, htripped, hout, hopen, -, hnews⟩ := tripBank_opens (exec_bankShort b s) hbank
  exact ⟨t, ht, htripped, hout, hopen, hnews⟩

/-- Settles O31, row by row. Each row changes the Husk alone: its event, wake or pulse end waits in `husk.news` for the next H-frame (log 89). -/
theorem fieldChannelEvents : Obligations.FieldChannelEvents :=
  ⟨fun _ ch sub => debouncedChange_turns ch sub, fun _ _ _ => fldWireBreak_sets, fun _ _ _ => fldOutFault_latches, fun _ _ _ => fldOpenLoad_sets,
    fun _ b h => ⟨bankRise_switchesOn h, tripBank_opens (exec_bankRiseTimeout b _) h⟩,
    fun _ _ h => ⟨bankShort_trips h, fldBankTrip_trips h⟩, fun _ _ => demagEnd_clears, fun _ _ => fldDemagSlow_opens, fun _ _ => pulseEnd_records⟩

end Sys2Proof.Machine
end

section
/-! Lost frames: safe states on the Husk, STALE on the Grain, and the Husk's own watchdog (R249, R256 to R262). -/

namespace Sys2Proof.Machine

/-! ### Channel bits -/

/-- A sum of distinct powers of two has the bits of its exponents. -/
theorem testBit_sum_powers (q : Nat → Bool) (n : Nat) :
    ((List.range n).map (fun k => if q k then 2 ^ k else 0)).sum < 2 ^ n ∧
    ∀ i, (((List.range n).map (fun k => if q k then 2 ^ k else 0)).sum).testBit i = (decide (i < n) && q i) := by
  induction n with
  | zero => simp
  | succ n ih =>
    obtain ⟨hlt, hbit⟩ := ih
    rw [List.sum_range_succ]
    generalize ((List.range n).map (fun k => if q k then 2 ^ k else 0)).sum = x at hlt hbit
    cases hq : q n with
    | false =>
      refine ⟨by simp; omega, fun i => ?_⟩
      simp only [Bool.false_eq_true, if_false, Nat.add_zero, hbit]
      by_cases hi : i = n
      · simp [hi, hq]
      · simp [show i < n + 1 ↔ i < n by omega]
    | true =>
      refine ⟨by simp; omega, fun i => ?_⟩
      simp only [if_true, Nat.add_comm x]
      obtain hi | rfl | hi := Nat.lt_trichotomy i n
      · rw [Nat.testBit_two_pow_add_gt hi, hbit, decide_eq_true hi, decide_eq_true (by omega)]
      · rw [Nat.testBit_two_pow_add_eq, hbit, hq]; simp
      · have hsmall : 2 ^ n + x < 2 ^ i := calc
          2 ^ n + x < 2 ^ (n + 1) := by omega
          _ ≤ 2 ^ i := Nat.pow_le_pow_right (by decide) hi
        rw [Nat.testBit_lt_two_pow hsmall, decide_eq_false (by omega), Bool.false_and]

theorem getLsbD_chMask (p : Nat → Bool) {k : Nat} (hk : k < 24) : (chMask p).getLsbD k = p (k + 8) := by
  have hsum : (List.range 24).foldr (fun k n => (if p (k + 8) then 2 ^ k else 0) + n) 0 =
      ((List.range 24).map (fun k => if p (k + 8) then 2 ^ k else 0)).sum := by rw [List.sum_eq_foldr, List.foldr_map]
  rw [chMask, BitVec.getLsbD_ofNat, hsum, (testBit_sum_powers (fun k => p (k + 8)) 24).2 k, decide_eq_true hk, Bool.true_and, Bool.true_and]

/-! ### What switching outputs leaves of the Husk (R238 to R243) -/

/-- The state without what the switching of outputs changes: drivers, banks, valves that wait, rise or clamp, pulses and held safe states. -/
def State.besideOutputs (s : State) : State :=
  { s with
    husk.out := 0, husk.clamping := 0, husk.riseFor := 0, husk.waiting := [], husk.bankOn := 0, husk.rising := 0, husk.closing := 0
    husk.tripped := 0, husk.pulsing := 0, husk.held := 0 }

@[simp] theorem besideOutputs_settleBank (b : Fin 2) (s : State) : (settleBank b s).besideOutputs = s.besideOutputs := by
  obtain ⟨_, _, _, h⟩ := settleBank_eq b s
  rw [h]; rfl

@[simp] theorem besideOutputs_outOff (m : BitVec 24) (s : State) : (outOff m s).besideOutputs = s.besideOutputs := by
  obtain ⟨_, _, _, _, _, _, h⟩ := outOff_eq m s
  rw [h]; rfl

@[simp] theorem besideOutputs_pulseCut (m : BitVec 24) (s : State) : (pulseCut m s).besideOutputs = s.besideOutputs := rfl

/-! ### Safe states (R257 to R260) -/

/-- The driver of a channel that takes its safe state: OFF off, ON on where no fault latches it and it is no valve, HOLD as it was. -/
def safeDriver (safe k : Nat) (fault out : Bool) : Bool :=
  if safe = 0 then false else if safe = 1 then out || (decide (k < 16) && !fault) else out

/-- The channels of a mask that safe states switch off, and those that they switch on. -/
def State.safeOffs (s : State) (m : BitVec 24) : BitVec 24 :=
  chMask (fun c => m.getLsbD (c - 8) && (s.safeOf c = 0 || (s.safeOf c != 1 && !s.husk.out.getLsbD (c - 8))))
def State.safeOns (s : State) (m : BitVec 24) : BitVec 24 :=
  chMask (fun c => m.getLsbD (c - 8) && s.safeOf c = 1 && c < 24 && !s.husk.faults.getLsbD (c - 8))

/-- The outputs of a mask hold their safe states, those of another mask are switched on. -/
def safeTaken (on m : BitVec 24) (t : State) : State := { t with husk.out := t.husk.out ||| on, husk.held := t.husk.held ||| m }

theorem takeSafe_def (m : BitVec 24) (s : State) : takeSafe m s = safeTaken (s.safeOns (m &&& s.outputs)) (m &&& s.outputs)
    (pulseCut (s.safeOffs (m &&& s.outputs) ||| s.safeOns (m &&& s.outputs)) (outOff (s.safeOffs (m &&& s.outputs)) s)) := rfl

theorem out_takeSafe (m : BitVec 24) (s : State) :
    (takeSafe m s).husk.out = s.husk.out &&& ~~~s.safeOffs (m &&& s.outputs) ||| s.safeOns (m &&& s.outputs) := by
  obtain ⟨_, _, _, _, _, _, hoff⟩ := outOff_eq (s.safeOffs (m &&& s.outputs)) s
  have hout : (outOff (s.safeOffs (m &&& s.outputs)) s).husk.out = s.husk.out &&& ~~~s.safeOffs (m &&& s.outputs) := by rw [hoff]
  rw [takeSafe_def, ← hout]; rfl

theorem getLsbD_out_takeSafe (m : BitVec 24) (s : State) {k : Nat} (hk : k < 24) : (takeSafe m s).husk.out.getLsbD k =
    if (m &&& s.outputs).getLsbD k then safeDriver (s.safeOf (k + 8)) k (s.husk.faults.getLsbD k) (s.husk.out.getLsbD k)
    else s.husk.out.getLsbD k := by
  rw [out_takeSafe, BitVec.getLsbD_or, BitVec.getLsbD_and, BitVec.getLsbD_not, State.safeOffs, State.safeOns, getLsbD_chMask _ hk, getLsbD_chMask _ hk,
    decide_eq_true hk, Nat.add_sub_cancel]
  generalize (m &&& s.outputs).getLsbD k = x
  generalize s.safeOf (k + 8) = n
  generalize s.husk.faults.getLsbD k = f
  generalize s.husk.out.getLsbD k = o
  have hplain : decide (k + 8 < 24) = decide (k < 16) := decide_eq_decide.mpr (by omega)
  rw [hplain, safeDriver]
  by_cases h0 : n = 0
  · subst h0; cases x <;> simp
  · by_cases h1 : n = 1
    · subst h1; cases x <;> simp
    · cases x <;> cases o <;> simp [h0, h1]

@[simp] theorem besideOutputs_safeTaken (on m : BitVec 24) (t : State) : (safeTaken on m t).besideOutputs = t.besideOutputs := rfl

@[simp] theorem besideOutputs_takeSafe (m : BitVec 24) (s : State) : (takeSafe m s).besideOutputs = s.besideOutputs := by
  rw [takeSafe_def, besideOutputs_safeTaken, besideOutputs_pulseCut, besideOutputs_outOff]

/-- Safe states taken are reported, with SILENCE_APPLIED (R260). -/
def safeReported (on : BitVec 24) (why : Fin 3) (t : State) : State := find (.safe why on) { t with husk.silenced := true, husk.silentBy := why }

theorem silence_def (m : BitVec 24) (why : Fin 3) (s : State) :
    silence m why s = if m &&& s.outputs = 0#24 then s else safeReported (m &&& s.outputs) why (takeSafe m s) := rfl

/-- The state without what silence changes. -/
def State.besideSilence (s : State) : State := { s.besideOutputs with husk.silenced := false, husk.silentBy := 0, husk.news := [] }

theorem besideSilence_of_besideOutputs {s t : State} (h : t.besideOutputs = s.besideOutputs) : t.besideSilence = s.besideSilence :=
  (congrArg (fun u : State => ({ u with husk.silenced := false, husk.silentBy := 0, husk.news := [] } : State)) h :)

@[simp] theorem besideSilence_safeReported (on : BitVec 24) (why : Fin 3) (t : State) : (safeReported on why t).besideSilence = t.besideSilence := rfl

@[simp] theorem besideSilence_silence (m : BitVec 24) (why : Fin 3) (s : State) : (silence m why s).besideSilence = s.besideSilence := by
  rw [silence_def]
  split
  · rfl
  · rw [besideSilence_safeReported, besideSilence_of_besideOutputs (besideOutputs_takeSafe m s)]

/-- Silence leaves how many frames are missing. -/
theorem missing_silence (m : BitVec 24) (why : Fin 3) (s : State) : (silence m why s).husk.missing = s.husk.missing :=
  (congrArg (fun u : State => u.husk.missing) (besideSilence_silence m why s) :)

/-- Safe states taken because of silence or SAFE_NOW, and SILENCE_APPLIED with them (R260). -/
theorem silence_applies {m : BitVec 24} (why : Fin 3) {s : State} (h : m &&& s.outputs ≠ 0#24) :
    (silence m why s).husk.silenced = true ∧ (silence m why s).husk.silentBy = why ∧ (silence m why s).husk.out = (takeSafe m s).husk.out := by
  rw [silence, if_neg h]
  exact ⟨rfl, rfl, rfl⟩

/-- A FASTOFF channel's safe state is OFF (R257). -/
theorem safeOf_fastOff {s : State} {c : Nat} (h : s.fastOff c = true) : s.safeOf c = 0 := by rw [State.safeOf, if_pos h]

theorem getLsbD_fastMask (s : State) {k : Nat} (hk : k < 24) : s.fastMask.getLsbD k = s.fastOff (k + 8) := getLsbD_chMask _ hk

/-- Silence switches every FASTOFF output off, and no other (R257). -/
theorem out_takeSafe_fastMask (s : State) : (takeSafe s.fastMask s).husk.out = s.husk.out &&& ~~~(s.fastMask &&& s.outputs) := by
  refine BitVec.eq_of_getLsbD_eq fun k hk => ?_
  rw [getLsbD_out_takeSafe _ _ hk, BitVec.getLsbD_and (y := ~~~_), BitVec.getLsbD_not, decide_eq_true hk, Bool.true_and]
  cases hm : (s.fastMask &&& s.outputs).getLsbD k with
  | false => simp
  | true =>
    rw [BitVec.getLsbD_and, Bool.and_eq_true, getLsbD_fastMask _ hk] at hm
    simp [safeDriver, safeOf_fastOff hm.1]

/-! ### The rows of the Husk -/

/-- A G-frame that has not come: the next one is the first after a gap (R249, R256). -/
def State.frameMissed (s : State) : State :=
  { s with husk.missing := s.husk.missing + 1, husk.exempt := true, husk.trimCount := 0, husk.trimSum := 0 }

theorem exec_gFrameMissing (s : State) : exec .gFrameMissing s = doneIf (s.fieldUp && s.husk.mode != .sleep)
    (fun s => if s.frameMissed.husk.missing = 3 then silence s.frameMissed.fastMask 0 s.frameMissed else s.frameMissed) s := rfl

theorem gFrameMissing_counts {s : State} (hup : s.fieldUp = true) (hmode : s.husk.mode ≠ .sleep) (hcount : s.husk.missing ≠ 2) :
    completesAs .gFrameMissing s s.frameMissed := by
  refine completesAs_of_doneIf (exec_gFrameMissing s) (by rw [hup, bne_iff_ne.mpr hmode]; rfl) (congrArg State.quiet (if_neg ?_))
  exact fun h : s.husk.missing + 1 = 3 => hcount (by omega)

theorem gFrameMissing_silences {s : State} (hup : s.fieldUp = true) (hmode : s.husk.mode ≠ .sleep) (hcount : s.husk.missing = 2)
    (hfast : s.fastMask &&& s.outputs ≠ 0#24) : completes .gFrameMissing s (fun t => t.husk.missing = 3 ∧ t.husk.silenced = true ∧
      t.husk.silentBy = 0 ∧ t.husk.out = s.husk.out &&& ~~~(s.fastMask &&& s.outputs)) := by
  have hthree : s.frameMissed.husk.missing = 3 := congrArg (· + 1) hcount
  obtain ⟨hsil, hby, hout⟩ := silence_applies 0 (s := s.frameMissed) (m := s.frameMissed.fastMask) hfast
  refine completes_of_doneIf_quiet (exec_gFrameMissing s) (by rw [hup, bne_iff_ne.mpr hmode]; rfl) (congrArg State.quiet (if_pos hthree)) fun t hq => ?_
  rw [husk_of_quiet hq]
  exact ⟨(missing_silence _ 0 _).trans hthree, hsil, hby, hout.trans (out_takeSafe_fastMask s.frameMissed)⟩

theorem exec_safeStateTimeout (s : State) : exec .safeStateTimeout s =
    doneIf (s.fieldUp && s.husk.mode != .sleep && s.husk.missing != 0) (fun s => silence (~~~s.fastMask) 0 s) s := rfl

theorem safeStateTimeout_applies {s : State} (hup : s.fieldUp = true) (hmode : s.husk.mode ≠ .sleep) (hcount : s.husk.missing ≠ 0)
    (hslow : ~~~s.fastMask &&& s.outputs ≠ 0#24) : completes .safeStateTimeout s (fun t => t.husk.silenced = true ∧ t.husk.silentBy = 0 ∧
      ∀ k < 24, s.outputs.getLsbD k = true → s.fastOff (k + 8) = false →
        (s.safeOf (k + 8) = 0 → t.husk.out.getLsbD k = false) ∧
        (s.safeOf (k + 8) = 1 → k < 16 → s.husk.faults.getLsbD k = false → t.husk.out.getLsbD k = true) ∧
        (s.safeOf (k + 8) = 2 → t.husk.out.getLsbD k = s.husk.out.getLsbD k)) := by
  obtain ⟨hsil, hby, hout⟩ := silence_applies 0 hslow
  refine completes_of_doneIf_quiet (exec_safeStateTimeout s) (by rw [hup, bne_iff_ne.mpr hmode, bne_iff_ne.mpr hcount]; rfl) rfl fun t hq => ?_
  rw [husk_of_quiet hq]
  refine ⟨hsil, hby, fun k hk hconducts hplain => ?_⟩
  have hin : (~~~s.fastMask &&& s.outputs).getLsbD k = true := by
    rw [BitVec.getLsbD_and, BitVec.getLsbD_not, getLsbD_fastMask _ hk, hplain, hconducts, decide_eq_true hk]; rfl
  rw [hout, getLsbD_out_takeSafe _ _ hk, if_pos hin]
  exact ⟨fun h => by simp [safeDriver, h], fun h hplainOut hfault => by simp [safeDriver, h, hplainOut, hfault], fun h => by simp [safeDriver, h]⟩

theorem exec_huskWatchdog (s : State) : exec .huskWatchdog s = doneIf s.fieldUp (huskRestart 1) s := rfl

theorem huskWatchdog_restarts {s : State} (hup : s.fieldUp = true) : completes .huskWatchdog s (fun t =>
    t.husk.out = 0 ∧ t.husk.configured = false ∧ t.husk.mode = .hello ∧ t.husk.news = [.restart 1] ∧ t.husk.active = [] ∧
    t.husk.temp = s.husk.temp ∧ t.husk.f24 = s.husk.f24 ∧ t.husk.lastValid = s.now ∧ t.awn.hAir = none ∧ t.mot = s.mot) := by
  refine completes_of_doneIf_quiet (exec_huskWatchdog s) hup rfl fun t hq => ?_
  rw [husk_of_quiet hq, awn_of_quiet hq, show t.mot = s.mot from (congrArg State.mot hq :)]
  exact ⟨rfl, rfl, rfl, rfl, rfl, rfl, rfl, rfl, rfl, rfl⟩

/-! ### STALE at LINK (R261) -/

theorem awn_of_rest {s t : State} (h : t.rest = s.rest) : t.awn = s.awn := (congrArg State.awn h :)

theorem awn_limitScan (s : State) : (limitScan s).awn = s.awn := by
  have hmod (a : Nat) (f : Axis → Axis) (u : State) : (axMod a f u).awn = u.awn := rfl
  have hraise (c : W16) (v : Nat) (a b : W24) (u : State) : (raise c v a b u).awn = u.awn := awn_of_quiet (quiet_raise c v a b u)
  have hstop (emg : Bool) (a : Nat) (st : Status) (e : Byte) (u : State) : (axStop emg a st e u).awn = u.awn := by
    simp only [axStop, apply_ite State.awn, awn_of_rest (rest_finishAll _ _ _ _ _), hmod, ite_self]
  have hhit (a side : Nat) (u : State) : (limitHit a side u).awn = u.awn := by
    simp only [limitHit, apply_ite State.awn, hmod, hstop, hraise, ite_self]
  refine foldl_keeps State.awn _ (fun t a => ?_) _ s
  simp only [apply_ite State.awn, hhit, hmod, ite_self]

/-- A COUNTER_CLEAR that fails, or is answered with a free value, is not requested any more (R272). -/
theorem awn_failClear (s : State) : ∃ c, (failClear s).awn = { s.awn with clrDue := c } := by
  unfold failClear
  split
  · split
    · exact ⟨_, (awn_of_rest (rest_acceptOk _ _ _ _ _) :)⟩
    · exact ⟨_, (awn_of_rest (rest_postCpl _ _ _ _ _ _ _) :)⟩
  · exact ⟨s.awn.clrDue, rfl⟩

theorem awn_endWrites (p : FieldCmd → Bool) (st : Status) (e : Byte) (s : State) : ∃ w, (endWrites p st e s).awn = { s.awn with writes := w } := by
  have h := congrArg (fun v : State × List CplEntry × W24 × Bool => v.1.awn) (besideWrites_endWrites p st e s)
  generalize endWrites p st e s = t at h
  exact ⟨t.awn.writes, (congrArg (fun a : AwnSt => { a with writes := t.awn.writes }) h :)⟩

theorem awn_endPulsesIf (p : PulseCmd → Bool) (st : Status) (e : Byte) (s : State) :
    (endPulsesIf p st e s).awn = { s.awn with pulses := s.awn.pulses.filter (fun x => !p x) } := awn_of_rest (rest_finishAll _ _ _ _ _)

/-- No pulse that has not ended is left (R263). -/
theorem awn_endAllField (st : Status) (e : Byte) (s : State) : ∃ w, (endAllField st e s).awn = { s.awn with writes := w, pulses := [] } := by
  obtain ⟨w, hw⟩ := awn_endWrites (fun _ => true) st e (endPulsesIf (fun _ => true) st e s)
  have hnone : s.awn.pulses.filter (fun _ => !true) = [] := List.filter_false _
  exact ⟨w, by rw [endAllField, hw, awn_endPulsesIf, hnone]⟩

theorem awn_goStale {s : State} (h : s.awn.stale = false) : ∃ w c, (goStale s).awn =
    { s.awn with stale := true, staleAt := s.now, fresh := 0, writes := w, pulses := [], clrDue := c } := by
  have hraised := awn_of_quiet (quiet_raise 0x3002 5 (w24 s.awn.missed) 0
    ({ s with awn.stale := true, awn.staleAt := s.now, awn.fresh := 0, sup.f24 := 0xFFFFFF } : State))
  rw [goStale, if_neg (by rw [h]; exact Bool.false_ne_true)]
  dsimp only
  generalize raise 0x3002 5 _ 0 _ = u at hraised
  obtain ⟨w, hend⟩ := awn_endAllField .interlock 0 u
  obtain ⟨c, hclear⟩ := awn_failClear (endAllField .interlock 0 u)
  exact ⟨w, c, by rw [awn_limitScan, hclear, hend, hraised]⟩

theorem exec_fldStale (s : State) : exec .fldStale s =
    doneIf (s.awn.hears && s.awn.mode != .sleep) (fun s => unheard { s with awn.missed := max 3 s.awn.missed }) s := rfl

theorem fldStale_marks {s : State} (hears : s.awn.hears = true) (hfresh : s.awn.stale = false) (hmode : s.awn.mode ≠ .sleep) :
    completes .fldStale s (fun t => t.awn.stale = true ∧ t.awn.staleAt = s.now ∧ t.awn.fresh = 0 ∧ t.awn.pulses = [] ∧ t.awn.hears = false ∧
      t.awn.exempt = true ∧ t.sup.f24 = 0xFFFFFF ∧ t.husk = s.husk) := by
  let u : State := { s with awn.missed := max 3 s.awn.missed, awn.hears := false, awn.exempt := true }
  obtain ⟨w, c, hawn⟩ := awn_goStale (s := u) hfresh
  have hoff := offMachine_goStale (s := u) hfresh
  refine completes_of_doneIf_quiet (exec_fldStale s) (by rw [hears, bne_iff_ne.mpr hmode]; rfl) (u := goStale u) rfl fun t hq => ?_
  rw [awn_of_quiet hq, sup_of_quiet hq, husk_of_quiet hq, hawn]
  exact ⟨rfl, rfl, rfl, rfl, rfl, rfl, (congrArg (fun v : State => v.sup.f24) hoff :), (congrArg State.husk hoff :)⟩

/-- Settles O30: silence takes safe states channel by channel, STALE ends what LINK waits for, and the Husk's restart waits in `husk.news` for its
next H-frame (log 89). -/
theorem silenceAndStale : Obligations.SilenceAndStale :=
  ⟨fun _ => gFrameMissing_counts, fun _ => gFrameMissing_silences, fun _ => safeStateTimeout_applies, fun _ => fldStale_marks,
    fun _ => huskWatchdog_restarts⟩

end Sys2Proof.Machine
end

section
/-! A FIELD_WRITE journaled at 125 µs, with and without a sleep request (R271). -/

namespace Sys2Proof.Machine

/-! ### A sleep request changes nothing of an acceptance -/

/-- The state with SLEEP_REQ as given. -/
def State.asks (b : Bool) (s : State) : State := { s with ring.sleepReq := b }

theorem sendIrq_asks (src : Nat) (b : Bool) (s : State) : sendIrq src (s.asks b) = (sendIrq src s).asks b := by
  simp only [sendIrq, apply_ite (State.asks b)]
  rfl

theorem irqMod_asks (evt urgent b : Bool) (s : State) : irqMod evt urgent (s.asks b) = (irqMod evt urgent s).asks b := by
  have hevt := sendIrq_asks 1 b { s with ring.modEvt := true }
  have hcpl := sendIrq_asks 0 b { s with ring.modCpl := true }
  simp only [irqMod, apply_ite (State.asks b), ← sendIrq_asks, ← hevt, ← hcpl]
  rfl

theorem postCpl_asks (op : Byte) (d : Desc) (st : Status) (q : Nat) (r : W24) (x : Byte) (b : Bool) (s : State) :
    postCpl op d st q r x (s.asks b) = (postCpl op d st q r x s).asks b := by
  simp only [postCpl, apply_ite (State.asks b), putCpl, ← irqMod_asks]
  rfl

/-- A command accepted outside the decoder, with or without SLEEP_REQ. -/
theorem acceptOk_awaited (op : Byte) (d : Desc) (r : W24) (x : Byte) {s u : State} (h : Accepting s (u.asks false)) :
    Journaled op d .ok s (acceptOk op d r x u) ∧ Completed op d .ok (s.jrn.head + 1) r x s (acceptOk op d r x u) ∧
      (acceptOk op d r x u).ring.block = u.ring.block := by
  have hasks : acceptOk op d r x (u.asks false) = (acceptOk op d r x u).asks false := postCpl_asks op d .ok (u.jrn.head + 1) r x false (jrnCmd op d .ok u)
  obtain ⟨hj, hc, _, _, _, _, hadd⟩ := acceptOk_spec op d r x h
  rw [hasks] at hj hc hadd
  exact ⟨hj, hc, (congrArg (fun v : State => v.ring.block) hadd :)⟩

theorem acceptRun_awaited (op : Byte) (d : Desc) (st : Status) (r : W24) (x : Byte) {s u : State} (h : Accepting s (u.asks false)) :
    Journaled op d st s (acceptRun op d st r x u) ∧ Completed op d st (s.jrn.head + 1) r x s (acceptRun op d st r x u) ∧
      (acceptRun op d st r x u).ring.outstanding = s.ring.outstanding ++ [s.nextRef op d] ∧
      (acceptRun op d st r x u).ring.block = u.ring.block := by
  have hasks : acceptRun op d st r x (u.asks false) = (acceptRun op d st r x u).asks false :=
    postCpl_asks op d st (u.jrn.head + 1) r x false { jrnCmd op d st u with ring.outstanding := u.ring.outstanding ++ [u.nextRef op d] }
  obtain ⟨hj, hc, ho, _, _, _, _, hadd⟩ := acceptRun_spec op d st r x h
  rw [hasks] at hj hc ho hadd
  exact ⟨hj, hc, ho, (congrArg (fun v : State => v.ring.block) hadd :)⟩

/-! ### The journaling of a FIELD_WRITE (R271) -/

/-- The field write with an id dropped, and the one with an id given the reference of its acceptance. -/
def dropWrite (id : Nat) (t : State) : State := { t with awn.writes := t.awn.writes.filter (fun x => x.id != id) }
def refWrite (id : Nat) (r : Ref) (t : State) : State :=
  { t with awn.writes := t.awn.writes.map (fun x => if x.id = id then { x with ref := some r } else x) }

/-- The decoder free again. -/
def State.unblocked (s : State) : State := { s with ring.block := none }

theorem find_of_blockedWrite {s : State} {d : Desc} {w : FieldCmd} (h : s.blockedWrite = some (d, w)) :
    s.awn.writes.find? (fun x => x.id = w.id) = some w := by
  unfold State.blockedWrite at h
  split at h
  · next d' id hblock =>
    obtain ⟨w', hfind, heq⟩ := Option.map_eq_some_iff.mp h
    obtain ⟨rfl, rfl⟩ := Prod.mk.inj heq
    have hid : w'.id = id := by simpa using List.find?_some hfind
    rw [hid]; exact hfind
  · cases h

theorem accepting_unblocked {s : State} (hopen : s.dmaOpen = true) (hrun : s.host.running = true) : Accepting s (s.unblocked.asks false) :=
  ⟨rfl, rfl, rfl, rfl, rfl, hrun, hopen, rfl⟩

/-- What the statement of a journaling speaks of. -/
def State.atJournaling (s : State) : JrnSt × (List CplEntry × W24 × Bool) × List Ref × Option Block × AwnSt :=
  (s.jrn, s.posted, s.ring.outstanding, s.ring.block, s.awn)

theorem atJournaling_iff {s t : State} : t.atJournaling = s.atJournaling ↔ t.jrn = s.jrn ∧ t.posted = s.posted ∧
    t.ring.outstanding = s.ring.outstanding ∧ t.ring.block = s.ring.block ∧ t.awn = s.awn := by
  simp only [State.atJournaling, Prod.mk.injEq]

theorem journaled_of_jrn {op : Byte} {d : Desc} {st : Status} {s t u : State} (h : Journaled op d st s t) (e : u.jrn = t.jrn) :
    Journaled op d st s u := by
  unfold Journaled at h ⊢
  rwa [e]

theorem block_finish (r : Ref) (st : Status) (w : W24) (e : Byte) (s : State) : (finish r st w e s).ring.block = s.ring.block :=
  congrArg (fun p => p.2.1) (atDecoder_finishC 0 r st w e s)

section Journaling
variable {s : State} {d : Desc} {w : FieldCmd} (hblocked : s.blockedWrite = some (d, w))
include hblocked

theorem journalWrite_queued (hearly : w.early = none) (hwaits : w.acked = false ∨ w.wait ≠ 0#24) :
    journalWrite d w.id s = refWrite w.id (s.nextRef 0x48 d) (acceptRun 0x48 d .queued 0 0 s.unblocked) := by
  have hopen : (w.acked && decide (w.wait = 0#24)) = false := by
    rw [Bool.and_eq_false_iff, decide_eq_false_iff_not]; exact hwaits
  simp only [journalWrite, find_of_blockedWrite hblocked, hearly, hopen, Bool.false_eq_true, if_false]
  rfl

theorem journalWrite_ends (hearly : w.early = none) (hacked : w.acked = true) (hnone : w.wait = 0#24) :
    journalWrite d w.id s = dropWrite w.id (acceptOk 0x48 d 0 0 s.unblocked) := by
  simp only [journalWrite, find_of_blockedWrite hblocked, hearly, hacked, hnone, decide_true, Bool.and_self, if_true]
  rfl

theorem journalWrite_ended {st : Status} {e : Byte} (hearly : w.early = some (st, e)) :
    journalWrite d w.id s = finish (s.nextRef 0x48 d) st 0 e (dropWrite w.id (acceptRun 0x48 d .queued 0 0 s.unblocked)) := by
  simp only [journalWrite, find_of_blockedWrite hblocked, hearly]
  rfl

theorem exec_fieldWriteJournal : exec .fieldWriteJournal s = doneRIf s.logUp (journalWrite d w.id) s := by
  show execFieldWriteJournal s = _
  simp only [execFieldWriteJournal, hblocked]

/-- The row leaves the journaling as it is. -/
theorem fieldWriteJournal_journals (hlog : s.logUp = true) (hcalm : s.calm) {P : State → Prop}
    (hP : ∀ t, t.atJournaling = (journalWrite d w.id s).atJournaling → P t) : completes .fieldWriteJournal s P := by
  obtain ⟨x, hq⟩ := quiet_sync_resume_calm (calm_of_offMachine (offMachine_journalWrite d w.id s) hcalm)
  exact completes_of_doneRIf (exec_fieldWriteJournal hblocked) hlog (hP _ (congrArg State.atJournaling hq :))

theorem fieldWriteJournal_queues (hlog : s.logUp = true) (hcalm : s.calm) (hopen : s.dmaOpen = true) (hrun : s.host.running = true)
    (hearly : w.early = none) (hwaits : w.acked = false ∨ w.wait ≠ 0#24) :
    acceptsLater .fieldWriteJournal 0x48 d .queued s (fun t => t.ring.block = none ∧
      t.awn = { s.awn with writes := s.awn.writes.map (fun x => if x.id = w.id then { x with ref := some (s.nextRef 0x48 d) } else x) }) := by
  obtain ⟨hj, hc, hout, hfree⟩ := acceptRun_awaited 0x48 d .queued 0 0 (accepting_unblocked hopen hrun)
  have hawn : (acceptRun 0x48 d .queued 0 0 s.unblocked).awn = s.awn := awn_of_rest (rest_acceptRun _ _ _ _ _ _)
  refine fieldWriteJournal_journals hblocked hlog hcalm fun t ht => ?_
  rw [journalWrite_queued hblocked hearly hwaits] at ht
  generalize acceptRun 0x48 d .queued 0 0 s.unblocked = u at *
  obtain ⟨hjrn, hposted, hrefs, hblock, hlink⟩ := atJournaling_iff.mp ht
  exact ⟨journaled_of_jrn hj hjrn, completed_of_posted hc hposted, hrefs.trans hout, hblock.trans hfree, hlink.trans (by rw [← hawn]; rfl)⟩

theorem fieldWriteJournal_ends (hlog : s.logUp = true) (hcalm : s.calm) (hopen : s.dmaOpen = true) (hrun : s.host.running = true)
    (hearly : w.early = none) (hacked : w.acked = true) (hnone : w.wait = 0#24) :
    acceptsOk .fieldWriteJournal 0x48 d 0 0 s (fun t => t.ring.block = none ∧
      t.awn = { s.awn with writes := s.awn.writes.filter (fun x => x.id != w.id) }) := by
  obtain ⟨hj, hc, hfree⟩ := acceptOk_awaited 0x48 d 0 0 (accepting_unblocked hopen hrun)
  have hawn : (acceptOk 0x48 d 0 0 s.unblocked).awn = s.awn := awn_of_rest (rest_acceptOk _ _ _ _ _)
  refine fieldWriteJournal_journals hblocked hlog hcalm fun t ht => ?_
  rw [journalWrite_ends hblocked hearly hacked hnone] at ht
  generalize acceptOk 0x48 d 0 0 s.unblocked = u at *
  obtain ⟨hjrn, hposted, -, hblock, hlink⟩ := atJournaling_iff.mp ht
  exact ⟨journaled_of_jrn hj hjrn, completed_of_posted hc hposted, hblock.trans hfree, hlink.trans (by rw [← hawn]; rfl)⟩

theorem fieldWriteJournal_ended (hlog : s.logUp = true) (hcalm : s.calm) (hopen : s.dmaOpen = true) (hrun : s.host.running = true)
    (hearly : w.early ≠ none) : completes .fieldWriteJournal s (fun t => t.ring.block = none ∧
      Completed 0x48 d .queued (s.jrn.head + 1) 0 0 s t ∧ t.awn = { s.awn with writes := s.awn.writes.filter (fun x => x.id != w.id) }) := by
  obtain ⟨⟨st, e⟩, hearly⟩ := Option.ne_none_iff_exists'.mp hearly
  obtain ⟨-, hc, -, hfree⟩ := acceptRun_awaited 0x48 d .queued 0 0 (accepting_unblocked hopen hrun)
  have hawn : (acceptRun 0x48 d .queued 0 0 s.unblocked).awn = s.awn := awn_of_rest (rest_acceptRun _ _ _ _ _ _)
  refine fieldWriteJournal_journals hblocked hlog hcalm fun t ht => ?_
  rw [journalWrite_ended hblocked hearly] at ht
  generalize acceptRun 0x48 d .queued 0 0 s.unblocked = u at *
  obtain ⟨-, hposted, -, hblock, hlink⟩ := atJournaling_iff.mp ht
  refine ⟨(hblock.trans (block_finish ..)).trans hfree, completed_of_posted hc (hposted.trans (posted_finish ..)), ?_⟩
  rw [hlink, awn_of_rest (rest_finish ..), ← hawn]; rfl

end Journaling

end Sys2Proof.Machine
end

section
/-! A G-frame at the Husk: what its boundary takes from the frame and what it sends (R246 to R250, R264). -/

namespace Sys2Proof.Machine

/-! ### What switching outputs on leaves of the Husk (R238, R242, R243) -/

@[simp] theorem besideOutputs_outOn (k : Fin 24) (s : State) : (outOn k s).besideOutputs = s.besideOutputs := by
  unfold outOn
  dsimp only
  split
  · rfl
  · split
    · rfl
    · split
      · rfl
      · split
        · exact besideOutputs_settleBank _ _
        · rfl

@[simp] theorem besideOutputs_switchOn (serial : Bool) (k : Fin 24) (s : State) : (switchOn serial k s).besideOutputs = s.besideOutputs := by
  unfold switchOn
  split
  · rfl
  · split
    · split
      · rfl
      · exact besideOutputs_outOn _ _
    · exact besideOutputs_outOn _ _

@[simp] theorem besideOutputs_serveBank (b : Fin 2) (s : State) : (serveBank b s).besideOutputs = s.besideOutputs := by
  unfold serveBank
  split
  · rfl
  · split
    · rfl
    · exact besideOutputs_outOn _ _

/-- Without a valve that waits no bank is served. -/
theorem serveBank_of_no_wait (b : Fin 2) {s : State} (h : s.husk.waiting = []) : serveBank b s = s := by
  rw [serveBank, h, List.find?_nil]

/-! ### What a G-frame gives the Husk (R250) -/

/-- What a boundary takes from a frame, with the frame on the wire, the keepalive that waits and the sequence of the H-frames. -/
structure FrameView where
  air : Option GAir
  cmd : BitVec 24
  permits : BitVec 10
  missing : Nat
  lastValid : Nat
  seq : W16
  inbox : Option GAir

def State.frameView (s : State) : FrameView :=
  ⟨s.awn.gAir, s.husk.cmd, s.husk.permits, s.husk.missing, s.husk.lastValid, s.husk.seq, s.husk.inbox⟩

theorem frameView_of_quiet {s t : State} (h : t.quiet = s.quiet) : t.frameView = s.frameView := (congrArg State.frameView h :)

theorem frameView_of_besideOutputs {s t : State} (h : t.besideOutputs = s.besideOutputs) : t.frameView = s.frameView := (congrArg State.frameView h :)

@[simp] theorem frameView_applyStrobe (g : GFrame) (s : State) : (applyStrobe g s).frameView = s.frameView := by
  unfold applyStrobe
  dsimp only
  split <;> split <;> rfl

@[simp] theorem frameView_clearCounters (g : GFrame) (s : State) : (clearCounters g s).frameView = s.frameView := rfl

@[simp] theorem frameView_takeSlice (g : GFrame) (s : State) : (takeSlice g s).frameView = s.frameView := by
  unfold takeSlice
  dsimp only
  split
  · rfl
  · split <;> rfl

@[simp] theorem frameView_tidyInputs (s : State) : (tidyInputs s).frameView = s.frameView := rfl

@[simp] theorem frameView_applyPulse (wr : BitVec 24) (a : GAir) (g : GFrame) (s : State) : (applyPulse wr a g s).frameView = s.frameView := by
  unfold applyPulse
  dsimp only
  split
  · rfl
  · split
    · rfl
    · split
      · rfl
      · exact (frameView_of_besideOutputs (besideOutputs_switchOn _ _ _)).trans rfl

@[simp] theorem frameView_applySafeNow (g : GFrame) (s : State) : (applySafeNow g s).frameView = s.frameView := by
  unfold applySafeNow
  extract_lets sn t fresh _ u _ still
  have htaken : t.frameView = s.frameView := by
    simp only [t, apply_ite State.frameView, frameView_of_besideOutputs (besideOutputs_takeSafe _ _), ite_self]
  have hnow : u.frameView = t.frameView := rfl
  clear_value t
  split <;> exact hnow.trans htaken

/-- The outputs of a frame leave what the frame commands and permits. -/
theorem frameView_applyOutputs (a : GAir) (g : GFrame) (s : State) :
    (applyOutputs a g s).frameView = { s.frameView with cmd := g.cmd, permits := g.permits } := by
  unfold applyOutputs
  extract_lets h granted wr ser starts act on off t u _ v w
  have ht : t.frameView = { s.frameView with cmd := g.cmd, permits := g.permits } := rfl
  have hoff : u.frameView = t.frameView := frameView_of_besideOutputs (besideOutputs_outOff _ _)
  have hcleared : v.frameView = u.frameView := rfl
  have hserved : w.frameView = v.frameView :=
    frameView_of_besideOutputs ((besideOutputs_serveBank 1 _).trans (besideOutputs_serveBank 0 _))
  split
  · exact ht
  · refine (foldl_keeps State.frameView _ (fun t c => ?_) _ _).trans (hserved.trans (hcleared.trans (hoff.trans ht)))
    exact frameView_of_besideOutputs (besideOutputs_switchOn _ _ _)

theorem frameView_huskMode (m : LinkMode) (s : State) :
    ∃ i, (huskMode m s).frameView = { s.frameView with inbox := i } ∧ (s.husk.inbox = none → i = none) := by
  unfold huskMode
  split
  · exact ⟨s.husk.inbox, rfl, id⟩
  · split <;> exact ⟨none, rfl, fun _ => rfl⟩

theorem frameView_heardG (g : GFrame) (s : State) :
    ∃ i, (heardG g s).frameView = { s.frameView with inbox := i } ∧ (s.husk.inbox = none → i = none) := by
  unfold heardG
  extract_lets hello _ t _ u
  have ht : t.frameView = s.frameView := by simp only [t]; split <;> rfl
  have hu : u.frameView = s.frameView := ht
  have hbox : u.husk.inbox = s.husk.inbox := congrArg FrameView.inbox hu
  have hkept (v : State) (hv : v.frameView = u.frameView) :
      ∃ i, v.frameView = { s.frameView with inbox := i } ∧ (s.husk.inbox = none → i = none) := ⟨s.husk.inbox, hv.trans hu, id⟩
  split
  · split
    · exact hkept _ rfl
    · exact hkept _ rfl
  · split
    · exact hkept _ rfl
    · obtain ⟨i, hi, hnone⟩ := frameView_huskMode (if g.kind = 0xA#4 || g.sleep = 1#1 then .sleep else .data) u
      exact ⟨i, hi.trans (by rw [hu]), fun h => hnone (hbox.trans h)⟩

theorem frameView_actG (a : GAir) (g : GFrame) (s : State) :
    (actG a g s).frameView = { s.frameView with cmd := g.cmd, permits := g.permits } := by
  unfold actG
  extract_lets wr t _ u
  have ht : t.frameView = s.frameView := by simp only [t, frameView_clearCounters, frameView_applyStrobe]
  have hu : u.frameView = s.frameView := by
    simp only [u]
    split
    · rw [frameView_takeSlice, ht]
    · exact ht
  rw [frameView_tidyInputs, frameView_applySafeNow, frameView_applyPulse, frameView_applyOutputs, hu]

/-- A frame taken: no frame is missing, and one that is no HELLO gives its commands and permits (R250, R251, R256). -/
theorem frameView_takeG (a : GAir) (g : GFrame) (s : State) : ∃ i, (takeG a g s).frameView =
    { s.frameView with
      cmd := if g.kind = 0x3#4 then s.husk.cmd else g.cmd, permits := if g.kind = 0x3#4 then s.husk.permits else g.permits
      missing := 0, lastValid := s.now, inbox := i } ∧ (s.husk.inbox = none → i = none) := by
  unfold takeG
  extract_lets _ heard _ t
  obtain ⟨i, hheard, hnone⟩ := frameView_heardG g { s with husk.missing := 0, husk.lastValid := s.now, husk.badRun := false, husk.exempt := false }
  change heard.frameView = _ at hheard
  refine ⟨i, ?_, hnone⟩
  show t.frameView = _
  clear_value heard
  by_cases hkind : g.kind = 0x3#4
  · simp only [t, if_pos hkind]
    exact Eq.trans rfl hheard
  · have ht : t.frameView = { heard.frameView with cmd := g.cmd, permits := g.permits } := by
      simp only [t, if_neg hkind, frameView_actG]
    rw [ht, hheard, if_neg hkind, if_neg hkind]
    rfl

theorem gSeq_takeG (a : GAir) (g : GFrame) (s : State) : (takeG a g s).husk.gSeq = g.seq := rfl

/-! ### The H-frame that a boundary sends (R246, R247) -/

/-- What the Husk keeps of the last frame, and its inputs. -/
def State.received (s : State) : W16 × Bool × Bool × BitVec 16 := (s.husk.gSeq, s.husk.badRun, s.husk.exempt, s.husk.inputs)

theorem received_iff {s t : State} : t.received = s.received ↔
    t.husk.gSeq = s.husk.gSeq ∧ t.husk.badRun = s.husk.badRun ∧ t.husk.exempt = s.husk.exempt ∧ t.husk.inputs = s.husk.inputs := by
  simp only [State.received, Prod.mk.injEq]

/-- The waiting valves served and the old frequencies dropped, as a boundary does before its H-frame (R230, R243). -/
def State.served (s : State) : State := ageMeas (serveBank 1 (serveBank 0 s))

theorem besideOutputs_serveBanks (s : State) : (serveBank 1 (serveBank 0 s)).besideOutputs = s.besideOutputs := by
  rw [besideOutputs_serveBank, besideOutputs_serveBank]

theorem frameView_served (s : State) : s.served.frameView = s.frameView := by
  have hage (t : State) : (ageMeas t).frameView = t.frameView := rfl
  rw [State.served, hage, frameView_of_besideOutputs (besideOutputs_serveBanks s)]

theorem received_of_quiet {s t : State} (h : t.quiet = s.quiet) : t.received = s.received := (congrArg State.received h :)

theorem received_of_besideOutputs {s t : State} (h : t.besideOutputs = s.besideOutputs) : t.received = s.received := (congrArg State.received h :)

theorem received_served (s : State) : s.served.received = s.received := by
  have hage (t : State) : (ageMeas t).received = t.received := rfl
  rw [State.served, hage, received_of_besideOutputs (besideOutputs_serveBanks s)]

/-- The H-frame sent carries the next sequence, the drivers and the inputs. -/
theorem sendH_sends (s : State) : ∃ f : HFrame, (sendH s).awn.hAir = some (encodeH f) ∧ f.seq = s.husk.seq + 1 ∧ f.drivers = s.husk.out ∧
    f.inputs = s.husk.inputs := ⟨_, rfl, rfl, rfl, rfl⟩

theorem frameView_sendH (s : State) : (sendH s).frameView = { s.frameView with seq := s.husk.seq + 1 } := rfl

theorem received_sendH (s : State) : (sendH s).received = s.received := rfl

theorem out_sendH (s : State) : (sendH s).husk.out = s.husk.out := rfl

/-- A boundary's last part: the H-frame sent tells what the frame received has left. -/
theorem sendH_served (s : State) : (sendH s.served).frameView = { s.frameView with seq := s.husk.seq + 1 } ∧
    (sendH s.served).received = s.received ∧
    ∃ f : HFrame, (sendH s.served).awn.hAir = some (encodeH f) ∧ f.seq = s.husk.seq + 1 ∧ f.drivers = (sendH s.served).husk.out ∧
      f.inputs = (sendH s.served).husk.inputs := by
  have hview := frameView_served s
  have hseq : s.served.husk.seq = s.husk.seq := congrArg FrameView.seq hview
  obtain ⟨f, hsent, hfseq, hdrivers, hinputs⟩ := sendH_sends s.served
  have hkept := (received_sendH s.served).trans (received_served s)
  have hins : (sendH s.served).husk.inputs = s.served.husk.inputs := (received_iff.mp (received_sendH s.served)).2.2.2
  exact ⟨by rw [frameView_sendH, hview, hseq], hkept, f, hsent, by rw [hfseq, hseq], hdrivers.trans (out_sendH _).symm, hinputs.trans hins.symm⟩

/-! ### The boundary -/

/-- A boundary takes the frame off the wire. -/
def State.gTaken (s : State) : State := { s with awn.gAir := none }

/-- What a boundary makes of the frame received. -/
def boundaryFrame (s : State) : State := match s.awn.gAir with
  | none => s.gTaken
  | some a => match decodeG a.words with
    | some g =>
      if s.husk.exempt || s.husk.mode = .sleep then takeG a g s.gTaken else if inPeriod a.period then takeG a g (trim a.period s.gTaken)
      else badG s.gTaken
    | none => badG s.gTaken

theorem huskBoundary_eq (s : State) : huskBoundary s = sendH (boundaryFrame s).served := rfl

theorem frameView_trim (p : Nat) (s : State) : (trim p s).frameView = s.frameView := by
  unfold trim
  dsimp only
  split <;> rfl

theorem boundaryFrame_valid {s : State} {a : GAir} {g : GFrame} (hair : s.awn.gAir = some a) (hdec : decodeG a.words = some g)
    (hmode : s.husk.mode ≠ .sleep) (htime : s.husk.exempt = true ∨ inPeriod a.period = true) :
    ∃ t, boundaryFrame s = takeG a g t ∧ t.frameView = s.gTaken.frameView ∧ t.now = s.now := by
  simp only [boundaryFrame, hair, hdec, decide_eq_false hmode, Bool.or_false]
  split
  · exact ⟨_, rfl, rfl, rfl⟩
  · next hexempt =>
    rw [if_pos (htime.resolve_left hexempt)]
    exact ⟨_, rfl, frameView_trim _ _, by unfold trim; dsimp only; split <;> rfl⟩

theorem boundaryFrame_bad {s : State} {a : GAir} (hair : s.awn.gAir = some a) (hmode : s.husk.mode ≠ .sleep)
    (hbad : decodeG a.words = none ∨ (s.husk.exempt = false ∧ inPeriod a.period = false)) : boundaryFrame s = badG s.gTaken := by
  simp only [boundaryFrame, hair]
  split
  · next g hdec =>
    obtain ⟨hexempt, hperiod⟩ := hbad.resolve_left (by rw [hdec]; exact Option.some_ne_none g)
    rw [hexempt, hperiod, decide_eq_false hmode]; rfl
  · rfl

theorem badG_keeps (s : State) : (badG s).husk.badRun = true ∧ (badG s).husk.exempt = true ∧ (badG s).husk.inputs = s.husk.inputs ∧
    (badG s).frameView = s.frameView := by
  unfold badG
  dsimp only
  split
  · next h => exact ⟨h, rfl, rfl, rfl⟩
  · exact ⟨rfl, rfl, rfl, rfl⟩

/-- Whatever has come, a boundary leaves no frame on the wire and the H-frames' sequence as it is. -/
theorem boundaryFrame_keeps (s : State) : (boundaryFrame s).awn.gAir = none ∧ (boundaryFrame s).husk.seq = s.husk.seq := by
  have hkept {t : State} (h : t.frameView.air = none ∧ t.frameView.seq = s.husk.seq) : t.awn.gAir = none ∧ t.husk.seq = s.husk.seq := h
  have hbad : (badG s.gTaken).awn.gAir = none ∧ (badG s.gTaken).husk.seq = s.husk.seq := by
    obtain ⟨-, -, -, hview⟩ := badG_keeps s.gTaken
    exact hkept (by rw [hview]; exact ⟨rfl, rfl⟩)
  have htaken (a : GAir) (g : GFrame) {t : State} (ht : t.frameView = s.gTaken.frameView) :
      (takeG a g t).awn.gAir = none ∧ (takeG a g t).husk.seq = s.husk.seq := by
    obtain ⟨i, hview, -⟩ := frameView_takeG a g t
    exact hkept (by rw [hview, ht]; exact ⟨rfl, rfl⟩)
  unfold boundaryFrame
  split
  · exact ⟨rfl, rfl⟩
  · split
    · split
      · exact htaken _ _ rfl
      · split
        · exact htaken _ _ (frameView_trim _ _)
        · exact hbad
    · exact hbad

theorem exec_huskBoundary (s : State) : exec .huskBoundary s = doneIf (s.fieldUp && (s.husk.mode != .sleep || s.gKind 0x5)) huskBoundary s := rfl

theorem huskBoundary_sends {s : State} (hup : s.fieldUp = true) (hmode : s.husk.mode ≠ .sleep) :
    completes .huskBoundary s (fun t => t.awn.gAir = none ∧ t.husk.seq = s.husk.seq + 1 ∧
      (∃ h : HFrame, t.awn.hAir = some (encodeH h) ∧ h.seq = s.husk.seq + 1 ∧ h.drivers = t.husk.out ∧ h.inputs = t.husk.inputs) ∧
      (∀ a g, s.awn.gAir = some a → decodeG a.words = some g → s.husk.exempt = true ∨ inPeriod a.period = true → g.kind = 0x5#4 →
        t.husk.gSeq = g.seq ∧ t.husk.cmd = g.cmd ∧ t.husk.permits = g.permits ∧ t.husk.missing = 0 ∧ t.husk.lastValid = s.now) ∧
      (∀ a, s.awn.gAir = some a → decodeG a.words = none ∨ (s.husk.exempt = false ∧ inPeriod a.period = false) →
        t.husk.badRun = true ∧ t.husk.exempt = true ∧ t.husk.cmd = s.husk.cmd ∧ t.husk.permits = s.husk.permits ∧ t.husk.inputs = s.husk.inputs)) := by
  refine completes_of_doneIf_quiet (exec_huskBoundary s) (by rw [hup, bne_iff_ne.mpr hmode]; rfl) (congrArg State.quiet (huskBoundary_eq s)) fun t hq => ?_
  obtain ⟨hair, hseq⟩ := boundaryFrame_keeps s
  obtain ⟨hview, hreceived, f, hsent, hfseq, hdrivers, hinputs⟩ := sendH_served (boundaryFrame s)
  rw [hseq] at hview hfseq
  have hshown : t.frameView = { (boundaryFrame s).frameView with seq := s.husk.seq + 1 } := (frameView_of_quiet hq).trans hview
  obtain ⟨hgseq, hbadRun, hexempt, hins⟩ := received_iff.mp ((received_of_quiet hq).trans hreceived)
  refine ⟨(congrArg FrameView.air hshown).trans hair, congrArg FrameView.seq hshown, ⟨f, ?_, hfseq, ?_, ?_⟩, fun a g ha hdec htime hkind => ?_,
    fun a ha hbad => ?_⟩
  · rw [awn_of_quiet hq, hsent]
  · rw [husk_of_quiet hq, hdrivers]
  · rw [husk_of_quiet hq, hinputs]
  · obtain ⟨u, hframe, hu, hnow⟩ := boundaryFrame_valid ha hdec hmode htime
    obtain ⟨i, htaken, -⟩ := frameView_takeG a g u
    have hdata : g.kind ≠ 0x3#4 := by rw [hkind]; decide
    rw [if_neg hdata, if_neg hdata, hnow] at htaken
    rw [hframe] at hshown hgseq
    rw [htaken] at hshown
    exact ⟨hgseq.trans (gSeq_takeG a g u), congrArg FrameView.cmd hshown, congrArg FrameView.permits hshown, congrArg FrameView.missing hshown,
      congrArg FrameView.lastValid hshown⟩
  · obtain ⟨hrun, hgap, hsame, hkept⟩ := badG_keeps s.gTaken
    rw [boundaryFrame_bad ha hmode hbad] at hshown hbadRun hexempt hins
    rw [hkept] at hshown
    exact ⟨hbadRun.trans hrun, hexempt.trans hgap, congrArg FrameView.cmd hshown, congrArg FrameView.permits hshown, hins.trans hsame⟩

/-! ### FIELD's boundary in sleep (R250, R264) -/

/-- What FIELD makes of the keepalive that waits. -/
def keptFrame (s : State) : State := match s.husk.inbox with
  | none => { s with husk.inbox := none }
  | some a => match decodeG a.words with
    | some g => takeG a g { s with husk.inbox := none }
    | none => { s with husk.inbox := none }

theorem huskKeepalive_eq (s : State) : huskKeepalive s = sendH (keptFrame s).served := rfl

theorem keptFrame_keeps (s : State) : (keptFrame s).husk.inbox = none ∧ (keptFrame s).husk.seq = s.husk.seq := by
  unfold keptFrame
  split
  · exact ⟨rfl, rfl⟩
  · next a ha =>
    split
    · next g hg =>
      obtain ⟨i, hview, hnone⟩ := frameView_takeG a g { s with husk.inbox := none }
      generalize takeG a g _ = t at hview ⊢
      exact ⟨(congrArg FrameView.inbox hview).trans (hnone rfl), congrArg FrameView.seq hview⟩
    · exact ⟨rfl, rfl⟩

/-- Without a keepalive and a valve that waits, FIELD's boundary in sleep switches nothing. -/
theorem out_served_keptFrame {s : State} (hbox : s.husk.inbox = none) (hwait : s.husk.waiting = []) : (keptFrame s).served.husk.out = s.husk.out := by
  have hkept : keptFrame s = { s with husk.inbox := none } := by rw [keptFrame, hbox]
  have hbank (b : Fin 2) : serveBank b { s with husk.inbox := none } = { s with husk.inbox := none } := serveBank_of_no_wait b hwait
  rw [hkept, State.served, hbank, hbank]
  rfl

theorem exec_keepalive_husk (s : State) : exec (.keepalive .husk) s = doneIf (s.fieldUp && s.husk.mode = .sleep) huskKeepalive s := rfl

theorem keepalive_husk_sends {s : State} (hup : s.fieldUp = true) (hmode : s.husk.mode = .sleep) :
    completes (.keepalive .husk) s (fun t => t.husk.seq = s.husk.seq + 1 ∧ t.husk.inbox = none ∧ t.awn.hAir ≠ none ∧
      (s.husk.inbox = none → s.husk.waiting = [] → t.husk.out = s.husk.out) ∧
      (∀ a g, s.husk.inbox = some a → decodeG a.words = some g → g.kind = 0xA#4 → t.husk.cmd = g.cmd ∧ t.husk.permits = g.permits)) := by
  refine completes_of_doneIf_quiet (exec_keepalive_husk s) (by rw [hup, decide_eq_true hmode]; rfl) (congrArg State.quiet (huskKeepalive_eq s)) fun t hq => ?_
  obtain ⟨hbox, hseq⟩ := keptFrame_keeps s
  obtain ⟨hview, -, f, hsent, -⟩ := sendH_served (keptFrame s)
  rw [hseq] at hview
  have hshown : t.frameView = { (keptFrame s).frameView with seq := s.husk.seq + 1 } := (frameView_of_quiet hq).trans hview
  refine ⟨congrArg FrameView.seq hshown, (congrArg FrameView.inbox hshown).trans hbox, ?_, fun hnone hwait => ?_, fun a g ha hdec hkind => ?_⟩
  · rw [awn_of_quiet hq, hsent]; exact Option.some_ne_none _
  · rw [husk_of_quiet hq, out_sendH, out_served_keptFrame hnone hwait]
  · have hkept : keptFrame s = takeG a g { s with husk.inbox := none } := by simp only [keptFrame, ha, hdec]
    obtain ⟨i, htaken, -⟩ := frameView_takeG a g { s with husk.inbox := none }
    have hnoHello : g.kind ≠ 0x3#4 := by rw [hkind]; decide
    rw [hkept, htaken, if_neg hnoHello, if_neg hnoHello] at hshown
    exact ⟨congrArg FrameView.cmd hshown, congrArg FrameView.permits hshown⟩

end Sys2Proof.Machine
end

section
/-! A frame that LINK sends: G_FRAME (R246, R247) and its keepalive (R264). -/

namespace Sys2Proof.Machine

/-- The frame that LINK sends carries the next sequence, its type, the commanded state, the permits and SAFE_NOW, as the noise leaves it. -/
theorem sendG_sends (noise : List W24) (p : Nat) (s : State) : (sendG noise p s).awn.seq = s.awn.seq + 1 ∧
    ∃ (a : GAir) (g : GFrame), (sendG noise p s).awn.gAir = some a ∧ a.words = noisy (encodeG g) noise ∧ a.period = p ∧ g.seq = s.awn.seq + 1 ∧
      g.kind = s.awn.mode.kind ∧ g.cmd = (sendG noise p s).awn.cmd ∧ g.permits = s.permitBits ∧ g.safeNow = BitVec.ofBool s.safeNow ∧
      g.sleep = BitVec.ofBool s.glb.sleep :=
  ⟨rfl, _, _, rfl, rfl, rfl, rfl, rfl, rfl, rfl, rfl, rfl⟩

theorem mode_sliceSent (a : AwnSt) (q : W16) : (a.sliceSent q).mode = a.mode := by
  unfold AwnSt.sliceSent
  dsimp only
  split
  · rfl
  · split
    · rfl
    · split <;> rfl

theorem mode_sendG (noise : List W24) (p : Nat) (s : State) : (sendG noise p s).awn.mode = s.awn.mode := by
  have hmode : (if decide (s.awn.mode = .data) = true then s.awn.sliceSent (s.awn.seq + 1) else s.awn).mode = s.awn.mode := by
    split
    · exact mode_sliceSent _ _
    · rfl
  exact hmode

theorem noisy_nil (l : List W24) : noisy l [] = l := by unfold noisy; rfl

/-! ### The last DATA frame before sleep (R264) -/

/-- LINK's own state once it has sent SLEEP. -/
def AwnSt.asleep (a : AwnSt) : AwnSt := { a with mode := .sleep, period := 1000, hunt := false, exempt := true }

theorem awn_finish (r : Ref) (st : Status) (w : W24) (e : Byte) (s : State) : (finish r st w e s).awn = s.awn := awn_of_rest (rest_finish r st w e s)

theorem husk_finish (r : Ref) (st : Status) (w : W24) (e : Byte) (s : State) : (finish r st w e s).husk = s.husk :=
  (congrArg State.husk (rest_finish r st w e s) :)

theorem calm_finish {s : State} (r : Ref) (st : Status) (w : W24) (e : Byte) (h : s.calm) : (finish r st w e s).calm :=
  calm_of_offMachine (offMachine_finish r st w e s) h

theorem powerDone_keeps (s : State) : (powerDone s).awn = s.awn ∧ (powerDone s).husk = s.husk ∧ (s.calm → (powerDone s).calm) := by
  unfold powerDone
  split
  · exact ⟨rfl, rfl, id⟩
  · next r _ =>
    exact ⟨awn_finish .., husk_finish .., calm_finish (s := { s with glb.powerRef := none }) r .ok 0 0⟩

theorem linkSleep_keeps (s : State) : (linkSleep s).awn = (if s.glb.sleep && s.awn.mode = .data then s.awn.asleep else s.awn) ∧
    (linkSleep s).husk = s.husk ∧ (s.calm → (linkSleep s).calm) := by
  unfold linkSleep
  split
  · exact powerDone_keeps _
  · exact ⟨rfl, rfl, id⟩

/-! ### The rows -/

theorem exec_gFrame (noise : List W24) (p : Nat) (s : State) : exec (.gFrame ⟨noise, p⟩) s =
    doneRIf (s.isl 6 = .run && s.awn.mode != .sleep) (fun s => linkSleep (sendG noise p s)) s := rfl

theorem gFrame_sends {s : State} (noise : List W24) (p : Nat) (hrun : s.isl 6 = .run) (hmode : s.awn.mode ≠ .sleep) (hcalm : s.calm) :
    completes (.gFrame ⟨noise, p⟩) s (fun t => t.awn.seq = s.awn.seq + 1 ∧
      (∃ (a : GAir) (g : GFrame), t.awn.gAir = some a ∧ a.words = noisy (encodeG g) noise ∧ a.period = p ∧ g.seq = s.awn.seq + 1 ∧
        g.kind = s.awn.mode.kind ∧ g.cmd = t.awn.cmd ∧ g.permits = s.permitBits ∧ g.safeNow = BitVec.ofBool s.safeNow ∧
        g.sleep = BitVec.ofBool s.glb.sleep) ∧
      (s.glb.sleep = true → s.awn.mode = .data → t.awn.mode = .sleep) ∧ t.husk = s.husk) := by
  refine completes_of_doneRIf (exec_gFrame noise p s) (by rw [decide_eq_true hrun, bne_iff_ne.mpr hmode]; rfl) ?_
  obtain ⟨hseq, hframe⟩ := sendG_sends noise p s
  have hsame := mode_sendG noise p s
  have hsleep : (sendG noise p s).glb.sleep = s.glb.sleep := rfl
  have hhusk : (sendG noise p s).husk = s.husk := rfl
  have hsent : (sendG noise p s).calm := hcalm
  generalize sendG noise p s = u at *
  obtain ⟨hawn, hkept, hlive⟩ := linkSleep_keeps u
  obtain ⟨x, hq⟩ := quiet_sync_resume_calm (hlive hsent)
  have hlink : (sync (resume (linkSleep u))).awn = if s.glb.sleep && s.awn.mode = .data then u.awn.asleep else u.awn := by
    rw [← hsleep, ← hsame]; exact (awn_of_quiet hq).trans hawn
  refine ⟨?_, ?_, fun hasks hdata => ?_, (husk_of_quiet hq).trans (hkept.trans hhusk)⟩
  · rw [hlink, apply_ite AwnSt.seq]; exact (ite_self _).trans hseq
  · rw [hlink, apply_ite AwnSt.gAir, apply_ite AwnSt.cmd]
    obtain ⟨a, g, hair, hsent⟩ := hframe
    exact ⟨a, g, (ite_self _).trans hair, by rw [show u.awn.asleep.cmd = u.awn.cmd from rfl, ite_self]; exact hsent⟩
  · rw [hlink, hasks, hdata]; rfl

theorem exec_keepalive_grain (s : State) : exec (.keepalive .grain) s = doneIf (s.awn.mode = .sleep) (sendG [] 1000000) s := rfl

theorem keepalive_grain_sends {s : State} (hmode : s.awn.mode = .sleep) : completes (.keepalive .grain) s (fun t => t.awn.seq = s.awn.seq + 1 ∧
    (∃ (a : GAir) (g : GFrame), t.awn.gAir = some a ∧ a.words = encodeG g ∧ g.kind = 0xA ∧ g.seq = s.awn.seq + 1 ∧ g.permits = s.permitBits) ∧
    t.husk = s.husk) := by
  refine completes_of_doneIf_quiet (exec_keepalive_grain s) (decide_eq_true hmode) rfl fun t hq => ?_
  obtain ⟨hseq, a, g, hair, hwords, -, hgseq, hkind, -, hpermits, -⟩ := sendG_sends [] 1000000 s
  rw [awn_of_quiet hq, husk_of_quiet hq]
  exact ⟨hseq, ⟨a, g, hair, hwords.trans (noisy_nil _), by rw [hkind, hmode]; rfl, hgseq, hpermits⟩, rfl⟩

end Sys2Proof.Machine
end

section
/-! What the machine's reactions leave of LINK's view of the Husk: the frames received and the requests that the host has made. -/

namespace Sys2Proof.Machine

/-- What LINK keeps of the frames received, and what makes a state calm. -/
structure LinkView where
  inputs : BitVec 16
  wb : BitVec 16
  drivers : BitVec 24
  faults : BitVec 24
  hSeq : W16
  missed : Nat
  badRun : Bool
  stale : Bool
  exempt : Bool
  hAir : Option (List W24)
  hunt : Bool
  period : Nat
  f24 : W24
  backlog : List (Byte × Desc)
  d3Due : Bool
  pmeDue : Bool
  stopping : Bool

def State.linkView (s : State) : LinkView where
  inputs := s.awn.inputs
  wb := s.awn.wb
  drivers := s.awn.drivers
  faults := s.awn.faults
  hSeq := s.awn.hSeq
  missed := s.awn.missed
  badRun := s.awn.badRun
  stale := s.awn.stale
  exempt := s.awn.exempt
  hAir := s.awn.hAir
  hunt := s.awn.hunt
  period := s.awn.period
  f24 := s.sup.f24
  backlog := s.ring.backlog
  d3Due := s.host.d3Due
  pmeDue := s.host.pmeDue
  stopping := s.host.stopping

/-- The host's requests that make a state calm or not. -/
def LinkView.requests (v : LinkView) : List (Byte × Desc) × Bool × Bool × Bool := (v.backlog, v.d3Due, v.pmeDue, v.stopping)

theorem calm_of_linkView {s t : State} (h : t.linkView.requests = s.linkView.requests) (hs : s.calm) : t.calm := by
  obtain ⟨hb, hd, hp, hstop⟩ : t.ring.backlog = s.ring.backlog ∧ t.host.d3Due = s.host.d3Due ∧ t.host.pmeDue = s.host.pmeDue ∧
      t.host.stopping = s.host.stopping := by simpa only [LinkView.requests, State.linkView, Prod.mk.injEq] using h
  unfold State.calm
  rwa [hb, hd, hp, hstop]

/-! ### Reports, outcomes and completions -/

theorem linkView_of_quiet {s t : State} (h : t.quiet = s.quiet) : t.linkView = s.linkView := (congrArg State.linkView h :)

/-- What changes journal and rings alone, and no fetched descriptor, is not seen. -/
theorem linkView_of_rest {s t : State} (h : t.rest = s.rest) (hoff : t.offMachine = s.offMachine) : t.linkView = s.linkView := by
  have hb : t.ring.backlog = s.ring.backlog := (congrArg (fun u : State => u.ring.backlog) hoff :)
  have hrest : ({ t.linkView with backlog := [] } : LinkView) = { s.linkView with backlog := [] } :=
    (congrArg (fun u : State => ({ u.linkView with backlog := [] } : LinkView)) h :)
  exact (congrArg (fun v => ({ v with backlog := t.ring.backlog } : LinkView)) hrest).trans (by rw [hb])

@[simp] theorem linkView_raise (c : W16) (v : Nat) (a b : W24) (s : State) : (raise c v a b s).linkView = s.linkView :=
  linkView_of_quiet (quiet_raise c v a b s)

@[simp] theorem linkView_sendIrq (k : Nat) (s : State) : (sendIrq k s).linkView = s.linkView := linkView_of_quiet (quiet_sendIrq k s)

@[simp] theorem linkView_finish (r : Ref) (st : Status) (w : W24) (e : Byte) (s : State) : (finish r st w e s).linkView = s.linkView :=
  linkView_of_rest (rest_finish r st w e s) (offMachine_finish r st w e s)

@[simp] theorem linkView_finishAll (l : List Ref) (st : Status) (w : W24) (e : Byte) (s : State) : (finishAll l st w e s).linkView = s.linkView :=
  linkView_of_rest (rest_finishAll l st w e s) (offMachine_finishAll l st w e s)

@[simp] theorem linkView_acceptOk (op : Byte) (d : Desc) (r : W24) (x : Byte) (s : State) : (acceptOk op d r x s).linkView = s.linkView :=
  linkView_of_rest (rest_acceptOk op d r x s) (offMachine_acceptOk op d r x s)

@[simp] theorem linkView_acceptRun (op : Byte) (d : Desc) (st : Status) (r : W24) (x : Byte) (s : State) :
    (acceptRun op d st r x s).linkView = s.linkView :=
  linkView_of_rest (rest_acceptRun op d st r x s) (offMachine_acceptRun op d st r x s)

@[simp] theorem linkView_refuse (op : Byte) (d : Desc) (st : Status) (x : Byte) (s : State) : (refuse op d st x s).linkView = s.linkView :=
  linkView_of_rest (rest_postCpl op d st 0 0 x s) (offMachine_refuse op d st x s)

/-! ### Axes and outputs -/

@[simp] theorem linkView_axMod (a : Nat) (f : Axis → Axis) (s : State) : (axMod a f s).linkView = s.linkView := rfl

@[simp] theorem linkView_axStop (emg : Bool) (a : Nat) (st : Status) (e : Byte) (s : State) : (axStop emg a st e s).linkView = s.linkView := by
  simp only [axStop, apply_ite State.linkView, linkView_finishAll, linkView_axMod, ite_self]

@[simp] theorem linkView_axDisable (a : Nat) (st : Status) (e : Byte) (s : State) : (axDisable a st e s).linkView = s.linkView := by
  simp only [axDisable, linkView_finishAll, linkView_axMod]; rfl

@[simp] theorem linkView_driveOut (c : Option Nat) (on : Bool) (s : State) : (driveOut c on s).linkView = s.linkView := by
  cases c <;> rfl

/-! ### The car -/

@[simp] theorem linkView_brakeSet (on : Bool) (s : State) : (brakeSet on s).linkView = s.linkView := linkView_driveOut _ _ _

@[simp] theorem linkView_endCalls (st : Status) (e : Byte) (s : State) : (endCalls st e s).linkView = s.linkView := by
  simp only [endCalls, apply_ite State.linkView, linkView_raise, linkView_finishAll]; exact ite_self _

@[simp] theorem linkView_enterHold (c : Nat) (s : State) : (enterHold c s).linkView = s.linkView := by
  simp only [enterHold, linkView_finishAll, linkView_raise]; rfl

@[simp] theorem linkView_toIdle (s : State) : (toIdle s).linkView = s.linkView := by
  unfold toIdle; split
  · exact linkView_enterHold _ s
  · rfl

@[simp] theorem linkView_carLost (s : State) : (carLost s).linkView = s.linkView := linkView_endCalls _ _ _

@[simp] theorem linkView_liftFaultEnd (s : State) : (liftFaultEnd s).linkView = s.linkView := by
  simp only [liftFaultEnd, apply_ite State.linkView, linkView_carLost, linkView_axMod, linkView_axDisable, linkView_brakeSet, ite_self]

@[simp] theorem linkView_liftFault (c : Nat) (s : State) : (liftFault c s).linkView = s.linkView := by
  simp only [liftFault, apply_ite State.linkView, linkView_liftFaultEnd, linkView_axStop, linkView_finishAll, linkView_endCalls,
    linkView_raise]
  exact ite_self _

@[simp] theorem linkView_homeFail (why c : Nat) (s : State) : (homeFail why c s).linkView = s.linkView := by
  simp only [homeFail, linkView_liftFault, linkView_raise]

@[simp] theorem linkView_undispatch (s : State) : (undispatch s).linkView = s.linkView := by
  simp only [undispatch, linkView_toIdle, linkView_brakeSet]; rfl

@[simp] theorem linkView_liftAbandon (s : State) : (liftAbandon s).linkView = s.linkView := by
  have hstop : (axStop true 0 .interlock 0 { s with lift.abandon := true }).linkView = s.linkView := linkView_axStop _ _ _ _ _
  unfold liftAbandon
  split
  · rfl
  · split
    · exact linkView_undispatch s
    · exact hstop
    · exact hstop
    · simp only [apply_ite State.linkView, hstop, ite_self]
    · simp only [apply_ite State.linkView, linkView_homeFail, ite_self]
    · rfl

/-! ### Doors -/

@[simp] theorem linkView_drMod (k : Nat) (f : Door → Door) (s : State) : (drMod k f s).linkView = s.linkView := rfl

@[simp] theorem linkView_lockOut (k : Nat) (on : Bool) (s : State) : (lockOut k on s).linkView = s.linkView := linkView_driveOut _ _ _

@[simp] theorem linkView_buzz (k : Nat) (on : Bool) (s : State) : (buzz k on s).linkView = s.linkView := linkView_driveOut _ _ _

@[simp] theorem linkView_endOpen (k : Nat) (st : Status) (e : Byte) (s : State) : (endOpen k st e s).linkView = s.linkView :=
  linkView_finishAll _ _ _ _ _

@[simp] theorem linkView_endClose (k : Nat) (st : Status) (e : Byte) (s : State) : (endClose k st e s).linkView = s.linkView :=
  linkView_finishAll _ _ _ _ _

@[simp] theorem linkView_cycleEnd (k : Nat) (ok : Bool) (s : State) : (cycleEnd k ok s).linkView = s.linkView := by
  simp only [cycleEnd, apply_ite State.linkView, linkView_toIdle, linkView_enterHold, linkView_finishAll]
  exact (congrArg _ (ite_self _)).trans (ite_self _)

@[simp] theorem linkView_doorFault (k c : Nat) (st : Status) (e : Byte) (s : State) : (doorFault k c st e s).linkView = s.linkView := by
  simp only [doorFault, apply_ite State.linkView, linkView_cycleEnd, linkView_endClose, linkView_endOpen, linkView_axMod, linkView_axStop,
    linkView_raise, linkView_buzz, linkView_lockOut, linkView_drMod, ite_self]

@[simp] theorem linkView_doorHalt (k : Nat) (st : Status) (e : Byte) (s : State) : (doorHalt k st e s).linkView = s.linkView := by
  simp only [doorHalt, apply_ite State.linkView, linkView_doorFault, ite_self]

/-! ### The grinder -/

@[simp] theorem linkView_grindEnable (s : State) : (grindEnable s).linkView = s.linkView := by
  unfold grindEnable; split
  · rfl
  · split <;> rfl

@[simp] theorem linkView_grindEnd (st : Status) (e : Byte) (s : State) : (grindEnd st e s).linkView = s.linkView := linkView_finishAll _ _ _ _ _

@[simp] theorem linkView_grindStopsDone (s : State) : (grindStopsDone s).linkView = s.linkView := linkView_finishAll _ _ _ _ _

@[simp] theorem linkView_grindCoastCause (st : Status) (e : Byte) (s : State) : (grindCoastCause st e s).linkView = s.linkView := by
  have hend := linkView_grindEnd st e s
  unfold grindCoastCause
  split
  · rw [linkView_grindStopsDone, linkView_grindEnable]; exact hend
  · split
    case h_6 => split <;> exact hend -- COAST, where a retry may have been due
    all_goals exact hend

/-! ### Field commands -/

@[simp] theorem linkView_endWrite (id : Nat) (st : Status) (e : Byte) (s : State) : (endWrite id st e s).linkView = s.linkView := by
  unfold endWrite
  split
  · rfl
  · split
    · exact linkView_finish _ _ _ _ _
    · rfl

@[simp] theorem linkView_endPulses (m : BitVec 24) (st : Status) (e : Byte) (s : State) : (endPulses m st e s).linkView = s.linkView :=
  linkView_finishAll _ _ _ _ _

@[simp] theorem linkView_endField (fl : Bool) (m : BitVec 24) (st : Status) (e : Byte) (s : State) :
    (endField fl m st e s).linkView = s.linkView := by
  simp only [endField, endWrites]
  rw [foldl_keeps State.linkView _ (fun t i => linkView_endWrite i st e t), linkView_endPulses]

@[simp] theorem linkView_dropOutputs (m : BitVec 17) (s : State) : (dropOutputs m s).linkView = s.linkView := linkView_endField _ _ _ _ _

/-! ### A firmware activation -/

@[simp] theorem linkView_setIsl (i : Nat) (v : IslState) (s : State) : (s.setIsl i v).linkView = s.linkView := rfl

@[simp] theorem linkView_enterMain (k : Nat) (s : State) : (enterMain k s).linkView = s.linkView := by
  unfold enterMain
  split
  · rfl
  · rw [linkView_sendIrq, linkView_raise, linkView_setIsl]

@[simp] theorem linkView_readmit (s : State) : (readmit s).linkView = s.linkView := by
  have hone (k : Nat) (u : State) : (readmitOne u k).linkView = u.linkView := by
    simp only [readmitOne, apply_ite State.linkView, linkView_raise, linkView_setIsl, ite_self]
  rw [readmit_eq, hone, hone, hone]

@[simp] theorem linkView_endAct (st : Status) (ms : Nat) (s : State) : (endAct st ms s).linkView = s.linkView := by
  unfold endAct; split
  · rfl
  · simp only [linkView_readmit, linkView_sendIrq, linkView_finish]; rfl

@[simp] theorem linkView_abandonAct (why : Nat) (st : Status) (s : State) : (abandonAct why st s).linkView = s.linkView := by
  unfold abandonAct; split
  · rfl
  · simp only [apply_ite State.linkView, linkView_endAct, linkView_raise, ite_self]

/-! ### Permits withdrawn and the guard's states -/

@[simp] theorem linkView_withdrawAll (s : State) : (withdrawAll s).linkView = s.linkView := by
  have hlost (m : BitVec 17) (u : State) (c : Nat) :
      (if m.getLsbD c then lostEvent c 1 0x3F 0 u else u).linkView = u.linkView := by
    simp only [lostEvent, apply_ite State.linkView, linkView_raise, ite_self]
  simp only [withdrawAll, linkView_dropOutputs]
  rw [foldl_keeps State.linkView _ (hlost _)]; rfl

/-! ### The stop of the guard and the start of the islands -/

@[simp] theorem linkView_brakeOffStill (s : State) : (brakeOffStill s).linkView = s.linkView := by
  simp only [brakeOffStill, apply_ite State.linkView, linkView_brakeSet, ite_self]

@[simp] theorem linkView_brakeAtRest (s : State) : (brakeAtRest s).linkView = s.linkView := by
  simp only [brakeAtRest, apply_ite State.linkView, linkView_brakeSet, ite_self]

theorem linkView_stopMachine (s : State) : (stopMachine s).linkView = s.linkView := by
  have hdoors := foldl_keeps State.linkView (fun u k => doorHalt k .interlock 0 u) (fun u k => linkView_doorHalt k .interlock 0 u)
  have haxes := foldl_keeps State.linkView (fun u a => axStop true a .interlock 0 u) (fun u a => linkView_axStop true a .interlock 0 u)
  simp only [stopMachine, linkView_abandonAct, linkView_brakeAtRest, linkView_brakeOffStill, linkView_grindCoastCause, haxes, hdoors,
    linkView_liftAbandon, linkView_withdrawAll]

theorem linkView_guardStop (c : Nat) (s : State) : (guardStop c s).linkView = s.linkView := by
  unfold guardStop
  split
  · obtain ⟨l, hq⟩ := quiet_enterGuard .safeStop c s
    exact (linkView_stopMachine _).trans ((linkView_of_quiet hq).trans rfl)
  · rfl

theorem linkView_bootFw (k : Nat) (s : State) : (bootFw k s).linkView = s.linkView := by
  have hbad (l : List (Fin 3)) :
      (l.foldl (fun (u : State) (j : Fin 3) => raise 0x6008 5 (w24 (fwIsl k)) (w24 j.val) u) s).linkView = s.linkView :=
    foldl_keeps State.linkView _ (fun u j => linkView_raise _ _ _ _ u) l s
  simp only [bootFw]
  split <;> exact hbad _

theorem linkView_enterFw (k : Nat) (s : State) : (enterFw k s).linkView = s.linkView := by
  simp only [enterFw, apply_ite State.linkView, linkView_setIsl, linkView_enterMain, ite_self]

theorem linkView_bootNow (k : Nat) (s : State) : (bootNow k s).linkView = s.linkView := by
  simp only [bootNow, apply_ite State.linkView, linkView_enterFw, linkView_bootFw, ite_self]

theorem linkView_restoreAxis (a : Nat) (r : Retained) (nv : Bool) (s : State) : (restoreAxis a r nv s).linkView = s.linkView := rfl

theorem linkView_restoreAxes (s : State) : (restoreAxes s).linkView = s.linkView := by
  have hgood (l : List (Nat × Retained × Bool)) : (l.foldl (fun u p => restoreAxis p.1 p.2.1 p.2.2 u) s).linkView = s.linkView :=
    foldl_keeps State.linkView _ (fun u p => linkView_restoreAxis _ _ _ u) l s
  simp only [restoreAxes]
  show (if _ then _ else _ : State).linkView = _
  simp only [apply_ite State.linkView, linkView_raise, hgood, ite_self]

theorem linkView_limitScan (s : State) : (limitScan s).linkView = s.linkView := by
  have hhit (a side : Nat) (u : State) : (limitHit a side u).linkView = u.linkView := by
    simp only [limitHit, apply_ite State.linkView, linkView_axMod, linkView_axStop, linkView_raise, ite_self]
  refine foldl_keeps State.linkView _ (fun t a => ?_) _ s
  simp only [apply_ite State.linkView, hhit, linkView_axMod, ite_self]

theorem linkView_latchScan (old : BitVec 16) (s : State) : (latchScan old s).linkView = s.linkView := by
  refine foldl_keeps State.linkView _ (fun t a => ?_) _ s
  unfold latchEdge
  split
  · rfl
  · simp only [apply_ite State.linkView, linkView_axMod, ite_self]

theorem linkView_linkStep (s : State) : (linkStep s).linkView = s.linkView := by
  have hmotion : ({ s.setIsl 1 .run with glb.step := 6 } : State).linkView = s.linkView := rfl
  unfold linkStep
  split
  · simp only [startBoots, linkView_limitScan, linkView_restoreAxes, linkView_bootNow, apply_ite State.linkView, ite_self]
    exact hmotion
  · rfl

end Sys2Proof.Machine
end

section
/-! A frame that LINK receives (R249 to R251, R260 to R263). -/

namespace Sys2Proof.Machine

/-! ### What a frame's parts leave of LINK's view -/

@[simp] theorem linkView_adoptDrivers (s : State) : (adoptDrivers s).linkView = s.linkView := rfl

@[simp] theorem linkView_failClear (s : State) : (failClear s).linkView = s.linkView := by
  unfold failClear
  split
  · split
    · exact (linkView_acceptOk _ _ _ _ _).trans rfl
    · exact (linkView_refuse _ _ _ _ _).trans rfl
  · rfl

@[simp] theorem linkView_heardH (h : HFrame) (s : State) : (heardH h s).linkView = s.linkView := by
  unfold heardH
  extract_lets _ t _ u
  have ht : t.linkView = s.linkView := by
    simp only [t]
    split
    · exact (linkView_failClear s)
    · rfl
  have hu : u.linkView = t.linkView := rfl
  clear_value t
  split
  · split
    · exact hu.trans ht
    · exact hu.trans ht
  · have hup (b : Bool) : (if b = true then raise 0x3001 2 0 0 { u with awn.up := true } else u).linkView = u.linkView := by
      simp only [apply_ite State.linkView, linkView_raise]
      exact ite_self _
    exact (hup _).trans (hu.trans ht)

@[simp] theorem linkView_endWrites (p : FieldCmd → Bool) (st : Status) (e : Byte) (s : State) : (endWrites p st e s).linkView = s.linkView :=
  foldl_keeps State.linkView _ (fun t i => linkView_endWrite i st e t) _ s

@[simp] theorem linkView_endPulsesIf (p : PulseCmd → Bool) (st : Status) (e : Byte) (s : State) : (endPulsesIf p st e s).linkView = s.linkView :=
  linkView_finishAll _ _ _ _ _

@[simp] theorem linkView_pulseOver (k : Fin 24) (q : W16) (s : State) : (pulseOver k q s).linkView = s.linkView := by
  have hoff : (cmdOff (BitVec.twoPow 24 k.val) s).linkView = s.linkView := rfl
  simp only [pulseOver, linkView_endPulsesIf, apply_ite State.linkView, hoff, ite_self]

theorem linkView_takeNews (s : State) (n : News) : (takeNews s n).linkView = s.linkView := by
  cases n with
  | event code sev w0 w1 =>
    simp only [takeNews]
    split
    · exact (linkView_endField _ _ _ _ _).trans (linkView_raise code sev w0 w1 s)
    · split
      · exact (linkView_endField _ _ _ _ _).trans (linkView_raise code sev w0 w1 s)
      · exact linkView_raise code sev w0 w1 s
  | wake => exact linkView_of_quiet (quiet_wake 2 s)
  | pulseEnd k seq => exact linkView_pulseOver k seq s
  | safe _ m => exact linkView_endField _ _ _ _ s
  | restart why => exact (linkView_raise _ _ _ _ _).trans rfl

@[simp] theorem linkView_takeSilence (was : Bool) (l : List News) (s : State) : (takeSilence was l s).linkView = s.linkView := by
  simp only [takeSilence, apply_ite State.linkView, linkView_adoptDrivers, linkView_raise, ite_self]

@[simp] theorem linkView_judgeF24 (h : HFrame) (s : State) : (judgeF24 h s).linkView = s.linkView := by
  have hgood (u : State) : ({ u with sup.f24State := 0 } : State).linkView = u.linkView := rfl
  simp only [judgeF24, apply_ite State.linkView, linkView_raise, hgood, ite_self]

theorem linkView_freshen {s : State} (h : s.awn.stale = false) : (freshen s).linkView = s.linkView := by
  rw [freshen, h]; rfl

@[simp] theorem linkView_ackShadow (h : HFrame) (s : State) : (ackShadow h s).linkView = s.linkView := by
  unfold ackShadow; split <;> rfl

@[simp] theorem linkView_ackWrites (h : HFrame) (s : State) : (ackWrites h s).linkView = s.linkView := rfl

@[simp] theorem linkView_ackClear (h : HFrame) (s : State) : (ackClear h s).linkView = s.linkView := by
  unfold ackClear
  split
  · split
    · rfl
    · split <;> exact (linkView_acceptOk _ _ _ _ _).trans rfl
  · rfl

@[simp] theorem linkView_settleWrites (s : State) : (settleWrites s).linkView = s.linkView := linkView_finishAll _ _ _ _ _

/-- A frame's channel values, where the inputs are fresh. -/
theorem linkView_takeInputs {h : HFrame} {s : State} (hfresh : s.awn.stale = false) : (takeInputs h s).linkView =
    { s.linkView with inputs := h.inputs, wb := h.wb, faults := h.faults, f24 := h.f24 } := by
  rw [takeInputs, hfresh]
  exact (linkView_limitScan _).trans ((linkView_latchScan _ _).trans rfl)

/-! ### A valid frame -/

/-- The state in which LINK takes a valid frame's parts. -/
def State.hTaken (s : State) : State :=
  { s with awn.hAir := none, awn.hNews := [], awn.badRun := false, awn.exempt := false, awn.missed := 0, awn.hears := true }

/-- What the reports of a frame and its safe states make of the state. -/
def hReported (h : HFrame) (s : State) : State :=
  takeSilence s.awn.silenced s.awn.hNews (s.awn.hNews.foldl takeNews (heardH h (takeStatus h s.hTaken)))

/-- The end of a frame: a repaired slice, the acknowledgements, the end of a restart, the channel values. -/
def hSettled (h : HFrame) (s : State) : State :=
  let s := if h.repaired = 1#1 then raise 0x3010 4 (w24 h.slice.toNat) 0 s else s
  let s := settleWrites (ackClear h (ackShadow h (ackWrites h s)))
  if s.awn.up && s.awn.configured then { s with awn.restarted := false } else s

theorem takeH_eq (h : HFrame) (s : State) : takeH h s = takeInputs h (hSettled h
    (if h.configured = 1#1 then freshen (judgeF24 h (hReported h s)) else goStale (judgeF24 h (hReported h s)))) := rfl

theorem linkView_hReported (h : HFrame) (s : State) : (hReported h s).linkView =
    { s.linkView with hAir := none, badRun := false, exempt := false, missed := 0, drivers := h.drivers, hSeq := h.seq } := by
  have hstatus : (takeStatus h s.hTaken).linkView =
      { s.linkView with hAir := none, badRun := false, exempt := false, missed := 0, drivers := h.drivers, hSeq := h.seq } := rfl
  rw [hReported, linkView_takeSilence, foldl_keeps State.linkView _ linkView_takeNews, linkView_heardH, hstatus]

theorem linkView_hSettled (h : HFrame) (s : State) : (hSettled h s).linkView = s.linkView := by
  unfold hSettled
  extract_lets t u
  have ht : t.linkView = s.linkView := by simp only [t, apply_ite State.linkView, linkView_raise, ite_self]
  have hu : u.linkView = s.linkView := by simp only [u, linkView_settleWrites, linkView_ackClear, linkView_ackShadow, linkView_ackWrites, ht]
  clear_value u
  split <;> exact hu

/-- A valid configured frame taken while the inputs are fresh. -/
theorem linkView_takeH {h : HFrame} {s : State} (hconf : h.configured = 1#1) (hfresh : s.awn.stale = false) : (takeH h s).linkView =
    { s.linkView with
      hAir := none, badRun := false, exempt := false, missed := 0, drivers := h.drivers, hSeq := h.seq
      inputs := h.inputs, wb := h.wb, faults := h.faults, f24 := h.f24 } := by
  have hview := (linkView_judgeF24 h (hReported h s)).trans (linkView_hReported h s)
  rw [takeH_eq, if_pos hconf]
  generalize judgeF24 h (hReported h s) = t at hview ⊢
  have hstale : t.awn.stale = false := (congrArg LinkView.stale hview).trans hfresh
  have hsettled := (linkView_hSettled h (freshen t)).trans ((linkView_freshen hstale).trans hview)
  generalize hSettled h (freshen t) = u at hsettled ⊢
  rw [linkView_takeInputs ((congrArg LinkView.stale hsettled).trans hfresh), hsettled]

/-! ### Any valid frame: the hunt and its period stand -/

/-- The view without what a frame tells: the frame on the wire, the hunt, and the host's requests. -/
def LinkView.timing (v : LinkView) : LinkView :=
  { v with inputs := 0, wb := 0, drivers := 0, faults := 0, hSeq := 0, missed := 0, badRun := false, stale := false, exempt := false, f24 := 0 }

theorem timing_freshen (s : State) : (freshen s).linkView.timing = s.linkView.timing := by
  unfold freshen
  split
  · rfl
  · split
    · rfl
    · rw [linkView_raise]; rfl

theorem timing_goStale (s : State) : (goStale s).linkView.timing = s.linkView.timing := by
  unfold goStale
  split
  · rfl
  · dsimp only
    rw [linkView_limitScan, linkView_failClear, endAllField, linkView_endWrites, linkView_endPulsesIf, linkView_raise]; rfl

theorem timing_takeInputs (h : HFrame) (s : State) : (takeInputs h s).linkView.timing = s.linkView.timing := by
  cases hstale : s.awn.stale with
  | true => rw [takeInputs, hstale]; rfl
  | false => rw [linkView_takeInputs hstale]; rfl

theorem timing_takeH (h : HFrame) (s : State) : (takeH h s).linkView.timing = { s.linkView.timing with hAir := none } := by
  have hview := (linkView_judgeF24 h (hReported h s)).trans (linkView_hReported h s)
  rw [takeH_eq, timing_takeInputs, linkView_hSettled]
  generalize judgeF24 h (hReported h s) = t at hview ⊢
  have ht : t.linkView.timing = { s.linkView.timing with hAir := none } := by rw [hview]; rfl
  split
  · exact (timing_freshen t).trans ht
  · exact (timing_goStale t).trans ht

/-! ### What follows a frame -/

theorem linkView_huskPrewarn (w : W24) (s : State) : (huskPrewarn w s).linkView = s.linkView := by
  unfold huskPrewarn
  split
  · exact (linkView_of_quiet (quiet_beginPrewarn .husk w s)).trans rfl
  · split <;> rfl

theorem linkView_followHusk (s : State) : (followHusk s).linkView = s.linkView := by
  have hstop (u : State) : (if u.guardUp then guardStop 19 u else u).linkView = u.linkView := by
    simp only [apply_ite State.linkView, linkView_guardStop, ite_self]
  unfold followHusk
  extract_lets w p _
  have hp : p.linkView = s.linkView := linkView_huskPrewarn w s
  clear_value p
  split
  · exact (linkView_raise ..).trans ((hstop _).trans hp)
  · split
    · exact (linkView_raise ..).trans hp
    · exact hp

theorem linkView_journalWrite (d : Desc) (id : Nat) (s : State) : (journalWrite d id s).linkView = s.linkView := by
  have hdrop (u : State) : (dropWrite id u).linkView = u.linkView := rfl
  have href (r : Ref) (u : State) : (refWrite id r u).linkView = u.linkView := rfl
  have hrun : (acceptRun 0x48 d .queued 0 0 s.unblocked).linkView = s.linkView := linkView_acceptRun ..
  have hok : (acceptOk 0x48 d 0 0 s.unblocked).linkView = s.linkView := linkView_acceptOk ..
  unfold journalWrite
  split
  · rfl
  · split
    · exact (linkView_finish ..).trans ((hdrop _).trans hrun)
    · split
      · exact (hdrop _).trans hok
      · exact (href (s.unblocked.nextRef 0x48 d) _).trans hrun

theorem linkView_ackJournal (s : State) : (ackJournal s).linkView = s.linkView := by
  unfold ackJournal
  split
  · simp only [apply_ite State.linkView, linkView_settleWrites, linkView_journalWrite, ite_self]
  · rfl

theorem linkView_afterH (s : State) : (afterH s).linkView = s.linkView := by
  rw [afterH, linkView_linkStep, linkView_ackJournal, linkView_followHusk]

/-! ### H_FRAME -/

/-- The FIELD clock as LINK measures it by the period of a frame that is not the first after a gap (R111). -/
def State.fieldTimed (period : Nat) (s : State) : State :=
  if s.awn.exempt then s else { s with
    clk.fieldKhz := sat24 (1500000000 / max 1 period), clk.good := setB s.clk.good 10 (inPeriod period)
    clk.latch := if inPeriod period then s.clk.latch else setB s.clk.latch 10 true }

theorem fieldTimed_keeps (period : Nat) (s : State) : ∃ c, s.fieldTimed period = { s with clk := c } := by
  unfold State.fieldTimed
  split
  · exact ⟨s.clk, rfl⟩
  · exact ⟨_, rfl⟩

theorem receiveH_valid {s : State} {l noise : List W24} {p : Nat} {h : HFrame} (hair : s.awn.hAir = some l) (hdec : decodeH (noisy l noise) = some h)
    (htime : s.awn.exempt = true ∨ inPeriod p = true) : receiveH noise p s = takeH h (s.fieldTimed p) := by
  simp only [receiveH, hair, hdec]
  exact if_pos (by rw [Bool.or_eq_true]; exact htime)

theorem receiveH_bad {s : State} {l noise : List W24} {p : Nat} (hair : s.awn.hAir = some l)
    (hbad : decodeH (noisy l noise) = none ∨ (s.awn.exempt = false ∧ inPeriod p = false)) : receiveH noise p s = badH false (s.fieldTimed p) := by
  simp only [receiveH, hair]
  split
  · next h hdec =>
    obtain ⟨hexempt, hperiod⟩ := hbad.resolve_left (by rw [hdec]; exact Option.some_ne_none h)
    exact if_neg (by rw [hexempt, hperiod]; exact Bool.false_ne_true)
  · rfl

theorem linkView_sync_resume {s : State} (h : s.calm) : (sync (resume s)).linkView = s.linkView := by
  obtain ⟨x, hq⟩ := quiet_sync_resume_calm h
  exact (linkView_of_quiet hq).trans rfl

theorem hFrame_takes {s : State} {l noise : List W24} {p : Nat} {h : HFrame} (hrun : s.isl 6 = .run) (hmode : s.awn.mode ≠ .sleep) (hcalm : s.calm)
    (hair : s.awn.hAir = some l) (hdec : decodeH (noisy l noise) = some h) (htime : s.awn.exempt = true ∨ inPeriod p = true)
    (hconf : h.configured = 1#1) (hfresh : s.awn.stale = false) : completes (.hFrame noise p) s (fun t =>
      t.awn.inputs = h.inputs ∧ t.awn.wb = h.wb ∧ t.awn.drivers = h.drivers ∧ t.awn.faults = h.faults ∧
      t.awn.hSeq = h.seq ∧ t.awn.missed = 0 ∧ t.awn.badRun = false ∧ t.awn.stale = false ∧ t.awn.exempt = false ∧ t.awn.hAir = none ∧
      t.sup.f24 = h.f24) := by
  refine completes_of_doneRIf (exec_hFrame noise p s) (by rw [decide_eq_true hrun, bne_iff_ne.mpr hmode]; rfl) ?_
  obtain ⟨c, htimed⟩ := fieldTimed_keeps p s
  have hview := (linkView_afterH _).trans (linkView_takeH hconf (s := { s with clk := c }) hfresh)
  rw [receiveH_valid hair hdec htime, htimed]
  generalize afterH _ = u at hview ⊢
  have hucalm : u.calm := calm_of_linkView (s := s) (congrArg LinkView.requests hview :) hcalm
  have ht := linkView_sync_resume hucalm
  rw [hview] at ht
  generalize sync (resume u) = t at ht ⊢
  exact ⟨congrArg LinkView.inputs ht, congrArg LinkView.wb ht, congrArg LinkView.drivers ht, congrArg LinkView.faults ht, congrArg LinkView.hSeq ht,
    congrArg LinkView.missed ht, congrArg LinkView.badRun ht, (congrArg LinkView.stale ht).trans hfresh, congrArg LinkView.exempt ht,
    congrArg LinkView.hAir ht, congrArg LinkView.f24 ht⟩

/-! ### A bad frame -/

theorem followHusk_idle {s : State} (hhot : s.awn.huskHot = s.sup.shutdown.getLsbD 2)
    (hwarm : s.sup.prewarn.getLsbD 2 = decide (2160 ≤ (vget s.sup.temp 2 0x800000).int)) : followHusk s = s := by
  have hcool : ¬((decide ((vget s.sup.temp 2 0x800000).int < 2080) && s.sup.prewarn.getLsbD 2) = true) := by
    rw [hwarm, Bool.and_eq_true, decide_eq_true_eq, decide_eq_true_eq]; omega
  have hbegun : ¬((decide (2160 ≤ (vget s.sup.temp 2 0x800000).int) && !s.sup.prewarn.getLsbD 2) = true) := by
    rw [hwarm]; simp
  have hsame : huskPrewarn (vget s.sup.temp 2 0x800000) s = s := by rw [huskPrewarn, if_neg hbegun, if_neg hcool]
  unfold followHusk
  extract_lets w p _
  have hp : p = s := hsame
  clear_value p
  subst hp
  rw [if_neg (by rw [hhot]; simp), if_neg (by rw [hhot]; simp)]

theorem afterH_idle {s : State} (hhot : s.awn.huskHot = s.sup.shutdown.getLsbD 2)
    (hwarm : s.sup.prewarn.getLsbD 2 = decide (2160 ≤ (vget s.sup.temp 2 0x800000).int)) (hblock : s.ring.block = none) (hstep : s.glb.step ≠ 5) :
    afterH s = s := by
  have hnone : s.blockedWrite = none := by rw [State.blockedWrite, hblock]
  rw [afterH, followHusk_idle hhot hwarm, ackJournal, hnone, linkStep, if_neg (by rw [Bool.and_eq_true, decide_eq_true_eq]; exact fun h => hstep h.1)]

/-- LINK's own state after the first bad frame of a run. -/
def AwnSt.firstBad (a : AwnSt) : AwnSt := { a with hAir := none, badRun := true, missed := a.missed + 1, fresh := 0, exempt := true }

theorem quiet_badH {s : State} (h : s.awn.badRun = false) : (badH false s).quiet = ({ s with awn := s.awn.firstBad } : State).quiet := by
  have hfirst : ¬((false || s.awn.badRun) = true) := by rw [h]; exact Bool.false_ne_true
  rw [badH, if_neg hfirst, quiet_raise]
  rfl

theorem hFrame_missed {s : State} {l noise : List W24} {p : Nat} (hrun : s.isl 6 = .run) (hmode : s.awn.mode ≠ .sleep) (hcalm : s.calm)
    (hblock : s.ring.block = none) (hstep : s.glb.step ≠ 5) (hhot : s.awn.huskHot = s.sup.shutdown.getLsbD 2)
    (hwarm : s.sup.prewarn.getLsbD 2 = decide (2160 ≤ (vget s.sup.temp 2 0x800000).int)) (hair : s.awn.hAir = some l)
    (hbad : decodeH (noisy l noise) = none ∨ (s.awn.exempt = false ∧ inPeriod p = false)) (hfirst : s.awn.badRun = false) :
    completes (.hFrame noise p) s (fun t =>
      t.awn = { s.awn with hAir := none, badRun := true, missed := s.awn.missed + 1, fresh := 0, exempt := true }) := by
  refine completes_of_doneRIf (exec_hFrame noise p s) (by rw [decide_eq_true hrun, bne_iff_ne.mpr hmode]; rfl) ?_
  obtain ⟨c, htimed⟩ := fieldTimed_keeps p s
  have hq := quiet_badH (s := { s with clk := c }) hfirst
  rw [receiveH_bad hair hbad, htimed]
  generalize badH false _ = u at hq ⊢
  have hawn : u.awn = s.awn.firstBad := (awn_of_quiet hq).trans rfl
  have hsup : u.sup = s.sup := (sup_of_quiet hq).trans rfl
  have hidle : afterH u = u := by
    refine afterH_idle ?_ ?_ ?_ ?_
    · rw [hawn, hsup]; exact hhot
    · rw [hsup]; exact hwarm
    · exact (congrArg (fun v : State => v.ring.block) hq :).trans hblock
    · rw [show u.glb.step = s.glb.step from (congrArg (fun v : State => v.glb.step) hq :)]; exact hstep
  have hview := linkView_of_quiet hq
  have hucalm : u.calm := calm_of_linkView (s := s) (congrArg LinkView.requests hview :) hcalm
  obtain ⟨x, hlast⟩ := quiet_sync_resume_calm hucalm
  rw [hidle, awn_of_quiet hlast]
  exact hawn

/-- Settles O29, row by row. A frame after a gap is exempt from the period test (log 110), and the period is an operand (log 39). -/
theorem framesCross : Obligations.FramesCross :=
  ⟨fun _ noise p => gFrame_sends noise p, fun _ => huskBoundary_sends,
    fun _ _ _ _ _ hrun hmode hcalm hair hdec htime _ hconf hfresh => hFrame_takes hrun hmode hcalm hair hdec htime hconf hfresh,
    fun _ _ _ _ => hFrame_missed⟩

end Sys2Proof.Machine
end

section
/-! The keepalives of sleep: the window, the hunt and the lost link (R264 to R266). -/

namespace Sys2Proof.Machine

/-- The window of R265 around the expected period. -/
theorem inWindow_iff (p n : Nat) : inWindow p n = true ↔ 95 * p ≤ 100 * n ∧ 100 * n ≤ 105 * p := by
  rw [inWindow, Bool.and_eq_true, decide_eq_true_eq, decide_eq_true_eq]

section
variable (side : Side) (p n : Nat) (s : State)

theorem judgeInterval_hunting : judgeInterval side true p n s = reacquire side n s := rfl

theorem judgeInterval_inside (h : 95 * p ≤ 100 * n ∧ 100 * n ≤ 105 * p) : judgeInterval side false p n s = s := by
  rw [judgeInterval, (inWindow_iff p n).mpr h]; rfl

theorem judgeInterval_outside (h : ¬(95 * p ≤ 100 * n ∧ 100 * n ≤ 105 * p)) : judgeInterval side false p n s = startHunt side s := by
  rw [judgeInterval, Bool.eq_false_iff.mpr (mt (inWindow_iff p n).mp h)]; rfl

end

/-! ### A keepalive received by the Husk -/

theorem exec_keepaliveReceived_husk (n : Nat) {s : State} {a : GAir} (hair : s.awn.gAir = some a) : exec (.keepaliveReceived .husk n) s =
    doneIf (s.fieldUp && s.husk.mode = .sleep && s.gKind 0xA) (huskReceives a n) s := by
  show execKeepaliveReceived .husk n s = _
  simp only [execKeepaliveReceived, hair]

/-- The Husk with a keepalive that waits for its boundary. -/
def State.inboxed (a : GAir) (s : State) : State := { s with awn.gAir := none, husk.inbox := some a, husk.lastValid := s.now }

theorem huskReceives_eq (a : GAir) (n : Nat) (s : State) : huskReceives a n s = judgeInterval .husk s.husk.hunt s.husk.period n (s.inboxed a) := rfl

section
variable {s : State} {n : Nat} {a : GAir} (hup : s.fieldUp = true) (hmode : s.husk.mode = .sleep) (hair : s.awn.gAir = some a)
  (hkind : s.gKind 0xA = true)
include hup hmode hair hkind

theorem keepaliveReceived_husk_judges : completesAs (.keepaliveReceived .husk n) s (judgeInterval .husk s.husk.hunt s.husk.period n (s.inboxed a)) :=
  completesAs_of_doneIf (exec_keepaliveReceived_husk n hair) (by rw [hup, decide_eq_true hmode, hkind]; rfl)
    (congrArg State.quiet (huskReceives_eq a n s))

theorem keepaliveReceived_husk_ends_hunt (hhunt : s.husk.hunt = true) : completesAs (.keepaliveReceived .husk n) s { s with
    awn.gAir := none, husk.inbox := some a, husk.lastValid := s.now, husk.hunt := false, husk.period := n
    husk.news := s.husk.news ++ [.event 0x3012 3 1 (w24i ((n : Int) - 1000))] } := by
  have h := keepaliveReceived_husk_judges (n := n) hup hmode hair hkind
  rw [hhunt, judgeInterval_hunting] at h
  exact h

theorem keepaliveReceived_husk_inside (hhunt : s.husk.hunt = false) (hlo : 95 * s.husk.period ≤ 100 * n) (hhi : 100 * n ≤ 105 * s.husk.period) :
    completesAs (.keepaliveReceived .husk n) s { s with awn.gAir := none, husk.inbox := some a, husk.lastValid := s.now } := by
  have h := keepaliveReceived_husk_judges (n := n) hup hmode hair hkind
  rw [hhunt, judgeInterval_inside .husk _ n _ ⟨hlo, hhi⟩] at h
  exact h

theorem keepaliveReceived_husk_outside (hhunt : s.husk.hunt = false) (hout : ¬(95 * s.husk.period ≤ 100 * n ∧ 100 * n ≤ 105 * s.husk.period)) :
    completesAs (.keepaliveReceived .husk n) s { s with
      awn.gAir := none, husk.inbox := some a, husk.lastValid := s.now, husk.hunt := true, husk.news := s.husk.news ++ [.event 0x3011 3 1 0] } := by
  have h := keepaliveReceived_husk_judges (n := n) hup hmode hair hkind
  rw [hhunt, judgeInterval_outside .husk _ n _ hout] at h
  exact h

end

/-! ### A keepalive received by the Grain -/

theorem exec_keepaliveReceived_grain (n : Nat) {s : State} {h : HFrame} (hair : s.hKeepalive = some h) : exec (.keepaliveReceived .grain n) s =
    doneRIf (s.isl 6 = .run && s.awn.mode = .sleep) (fun s => afterH (grainKeepalive h n s)) s := by
  show execKeepaliveReceived .grain n s = _
  simp only [execKeepaliveReceived, hair]

theorem linkView_startHunt (s : State) : (startHunt .grain s).linkView = { s.linkView with hunt := true } := by
  simp only [startHunt, sideEvent, linkView_raise]
  rfl

theorem linkView_reacquire (n : Nat) (s : State) : (reacquire .grain n s).linkView = { s.linkView with hunt := false, period := n } := by
  simp only [reacquire, sideEvent, linkView_raise]
  rfl

/-- The view with a hunt and a period. -/
def LinkView.timed (hunt : Bool) (p : Nat) (v : LinkView) : LinkView := { v with hunt := hunt, period := p }

theorem timing_timed (hunt : Bool) (p : Nat) (v : LinkView) : (v.timed hunt p).timing = v.timing.timed hunt p := rfl

/-- The hunt and the period that LINK has after a keepalive. -/
theorem linkView_judgeInterval (hunt : Bool) (p n : Nat) (s : State) : (judgeInterval .grain hunt p n s).linkView =
    s.linkView.timed (if hunt then false else s.awn.hunt || !inWindow p n) (if hunt then n else s.awn.period) := by
  simp only [judgeInterval, apply_ite State.linkView, linkView_reacquire, linkView_startHunt]
  cases hunt with
  | true => rfl
  | false =>
    cases inWindow p n with
    | true => rw [Bool.not_true, Bool.or_false]; rfl
    | false => rw [Bool.not_false, Bool.or_true]; rfl

theorem keepaliveReceived_grain_times {s : State} {n : Nat} {h : HFrame} (hrun : s.isl 6 = .run) (hmode : s.awn.mode = .sleep) (hcalm : s.calm)
    (hair : s.hKeepalive = some h) : completes (.keepaliveReceived .grain n) s (fun t => t.awn.hAir = none ∧
      (s.awn.hunt = true → t.awn.hunt = false ∧ t.awn.period = n) ∧
      (s.awn.hunt = false → t.awn.period = s.awn.period ∧
        (t.awn.hunt = true ↔ ¬(95 * s.awn.period ≤ 100 * n ∧ 100 * n ≤ 105 * s.awn.period)))) := by
  refine completes_of_doneRIf (exec_keepaliveReceived_grain n hair) (by rw [decide_eq_true hrun, decide_eq_true hmode]; rfl) ?_
  have htaken := timing_takeH h s
  have hjudged : (grainKeepalive h n s).linkView.timing = ({ s.linkView.timing with hAir := none } : LinkView).timed
      (if s.awn.hunt then false else !inWindow s.awn.period n) (if s.awn.hunt then n else s.awn.period) := by
    have hhunt : (takeH h s).awn.hunt = s.awn.hunt := congrArg LinkView.hunt htaken
    have hperiod : (takeH h s).awn.period = s.awn.period := congrArg LinkView.period htaken
    rw [grainKeepalive, linkView_judgeInterval, timing_timed, htaken, hhunt, hperiod]
    cases s.awn.hunt <;> rfl
  have hview := congrArg LinkView.timing (linkView_afterH (grainKeepalive h n s))
  rw [hjudged] at hview
  generalize afterH _ = u at hview ⊢
  have hucalm : u.calm := calm_of_linkView (s := s) (congrArg LinkView.requests hview :) hcalm
  have ht := congrArg LinkView.timing (linkView_sync_resume hucalm)
  rw [hview] at ht
  generalize sync (resume u) = t at ht ⊢
  have hhunt : t.awn.hunt = if s.awn.hunt then false else !inWindow s.awn.period n := congrArg LinkView.hunt ht
  have hperiod : t.awn.period = if s.awn.hunt then n else s.awn.period := congrArg LinkView.period ht
  refine ⟨congrArg LinkView.hAir ht, fun hunting => ?_, fun still => ?_⟩
  · rw [hhunt, hperiod, hunting]
    exact ⟨rfl, rfl⟩
  · rw [hhunt, hperiod, still, ← inWindow_iff]
    simp

/-! ### A hunt begun by its time, and a lost link -/

theorem exec_fldSleepHunt_grain (s : State) : exec (.fldSleepHunt .grain) s = doneIf (s.awn.mode = .sleep && !s.awn.hunt) (startHunt .grain) s := rfl
theorem exec_fldSleepHunt_husk (s : State) : exec (.fldSleepHunt .husk) s =
    doneIf (s.fieldUp && s.husk.mode = .sleep && !s.husk.hunt) (startHunt .husk) s := rfl

theorem fldSleepHunt_grain_starts {s : State} (hmode : s.awn.mode = .sleep) (hhunt : s.awn.hunt = false) :
    completesAs (.fldSleepHunt .grain) s { s with awn.hunt := true } :=
  completesAs_of_doneIf (exec_fldSleepHunt_grain s) (by rw [decide_eq_true hmode, hhunt]; rfl) (quiet_raise ..)

theorem fldSleepHunt_husk_starts {s : State} (hup : s.fieldUp = true) (hmode : s.husk.mode = .sleep) (hhunt : s.husk.hunt = false) :
    completesAs (.fldSleepHunt .husk) s { s with husk.hunt := true, husk.news := s.husk.news ++ [.event 0x3011 3 1 0] } :=
  completesAs_of_doneIf (exec_fldSleepHunt_husk s) (by rw [hup, decide_eq_true hmode, hhunt]; rfl) rfl

theorem exec_fldSleepLost_grain (s : State) : exec (.fldSleepLost .grain) s =
    doneIf (s.awn.mode = .sleep && s.awn.hunt) (fun s => unheard (raise 0x3013 5 0 0 { s with awn.hunt := false })) s := rfl

theorem exec_fldSleepLost_husk (s : State) : exec (.fldSleepLost .husk) s = doneIf (s.fieldUp && s.husk.mode = .sleep && s.husk.hunt)
    (fun s => findEvent 0x3013 5 1 0 (silence (BitVec.allOnes 24) 2 { s with husk.hunt := false })) s := rfl

theorem husk_goStale {s : State} (h : s.awn.stale = false) : (goStale s).husk = s.husk := (congrArg State.husk (offMachine_goStale h) :)

/-- No frames arrive any more: the hunt stands, and the inputs are STALE from now on. -/
theorem unheard_stale {s : State} (hfresh : s.awn.stale = false) :
    (unheard s).awn.hunt = s.awn.hunt ∧ (unheard s).awn.stale = true ∧ (unheard s).awn.staleAt = s.now ∧ (unheard s).husk = s.husk := by
  obtain ⟨w, c, hawn⟩ := awn_goStale (s := { s with awn.hears := false, awn.exempt := true }) hfresh
  have hhusk := husk_goStale (s := { s with awn.hears := false, awn.exempt := true }) hfresh
  rw [unheard, hawn]
  exact ⟨rfl, rfl, rfl, hhusk⟩

theorem fldSleepLost_grain_stale {s : State} (hmode : s.awn.mode = .sleep) (hhunt : s.awn.hunt = true) (hfresh : s.awn.stale = false) :
    completes (.fldSleepLost .grain) s (fun t => t.awn.hunt = false ∧ t.awn.stale = true ∧ t.awn.staleAt = s.now ∧ t.husk = s.husk) := by
  refine completes_of_doneIf_quiet (exec_fldSleepLost_grain s) (by rw [decide_eq_true hmode, hhunt]; rfl) rfl fun t hq => ?_
  have hraised := quiet_raise 0x3013 5 0 0 { s with awn.hunt := false }
  generalize raise 0x3013 5 0 0 _ = u at hraised hq
  have hawn : u.awn = { s.awn with hunt := false } := (awn_of_quiet hraised).trans rfl
  have hnow : u.now = s.now := (congrArg State.now hraised :)
  obtain ⟨hover, hstale, hat, hhusk⟩ := unheard_stale (s := u) (by rw [hawn]; exact hfresh)
  rw [awn_of_quiet hq, husk_of_quiet hq, hover, hstale, hat, hhusk, hawn, hnow]
  exact ⟨rfl, rfl, rfl, (husk_of_quiet hraised).trans rfl⟩

theorem fldSleepLost_husk_silent {s : State} (hup : s.fieldUp = true) (hmode : s.husk.mode = .sleep) (hhunt : s.husk.hunt = true) :
    completes (.fldSleepLost .husk) s (fun t => t.husk.hunt = false ∧ (s.outputs ≠ 0#24 → t.husk.silenced = true ∧ t.husk.silentBy = 2)) := by
  refine completes_of_doneIf_quiet (exec_fldSleepLost_husk s) (by rw [hup, decide_eq_true hmode, hhunt]; rfl) rfl fun t hq => ?_
  have hover : (silence (BitVec.allOnes 24) 2 { s with husk.hunt := false }).husk.hunt = false :=
    (congrArg (fun u : State => u.husk.hunt) (besideSilence_silence (BitVec.allOnes 24) 2 { s with husk.hunt := false }) :)
  have hsilent (h : s.outputs ≠ 0#24) := silence_applies (m := BitVec.allOnes 24) 2 (s := { s with husk.hunt := false })
    (by rw [BitVec.allOnes_and]; exact h)
  generalize silence (BitVec.allOnes 24) 2 _ = u at hover hsilent hq
  rw [husk_of_quiet hq]
  exact ⟨hover, fun h => ⟨(hsilent h).1, (hsilent h).2.1⟩⟩

/-- Settles O32, row by row. A keepalive's interval is an operand (log 39), and the Husk's hunt events wait in `husk.news` (log 89). -/
theorem fieldWriteJournalAndSleep : Obligations.FieldWriteJournalAndSleep :=
  ⟨fun _ _ _ hblocked hlog hcalm hopen hrun => ⟨fieldWriteJournal_queues hblocked hlog hcalm hopen hrun,
      fieldWriteJournal_ends hblocked hlog hcalm hopen hrun, fieldWriteJournal_ended hblocked hlog hcalm hopen hrun⟩,
    fun _ => keepalive_grain_sends, fun _ => keepalive_husk_sends,
    fun _ _ _ hup hmode hair hkind => ⟨keepaliveReceived_husk_ends_hunt hup hmode hair hkind, keepaliveReceived_husk_inside hup hmode hair hkind,
      keepaliveReceived_husk_outside hup hmode hair hkind⟩,
    fun _ _ _ => keepaliveReceived_grain_times, fun _ => fldSleepHunt_grain_starts, fun _ => fldSleepHunt_husk_starts,
    fun _ => fldSleepLost_grain_stale, fun _ => fldSleepLost_husk_silent⟩

end Sys2Proof.Machine
end

section
/-! What the operations of the axes leave (R281, R282, R289, R302, R312, R313, R315): one lemma for each operation, over the axis it names, the others,
and what the host has been told. -/

namespace Sys2Proof.Machine

/-! ### One axis mapped -/

theorem axis_of_rest {s t : State} (h : t.rest = s.rest) (b : Nat) : t.axis b = s.axis b := (congrArg (fun u : State => u.axis b) h :)

theorem axis_axMod_ne {a b : Nat} (h : b ≠ a) (f : Axis → Axis) (s : State) : (axMod a f s).axis b = s.axis b := by
  simp [State.axis, axMod, List.getD_eq_getElem?_getD, List.getElem?_set_ne (Ne.symm h)]

theorem rest_axMod_congr {s t : State} (h : t.rest = s.rest) (a : Nat) (f : Axis → Axis) : (axMod a f t).rest = (axMod a f s).rest :=
  congrArg (axMod a f) h

theorem axMod_axMod {a : Nat} (ha : a < 5) (f g : Axis → Axis) (s : State) : axMod a f (axMod a g s) = axMod a (fun x => f (g x)) s := by
  have hsame := axis_axMod_same s ha g
  simp only [axMod] at hsame ⊢
  rw [hsame, Vector.setIfInBounds_setIfInBounds]

/-- What a map of an axis leaves alone, it leaves alone of every axis. -/
theorem view_axMod {α : Type} (g : Axis → α) {f : Axis → Axis} (hf : ∀ y, g (f y) = g y) (a : Nat) (s : State) (b : Nat) :
    g ((axMod a f s).axis b) = g (s.axis b) :=
  axis_axMod_keeps (P := fun y => g y = g (s.axis b)) (fun y h => (hf y).trans h) a rfl

@[simp] theorem posted_axMod (a : Nat) (f : Axis → Axis) (s : State) : (axMod a f s).posted = s.posted := rfl

/-- Axis `a` stands as `x`, and nothing else differs but reports, journal and HOST's rings. -/
def OnlyAxis (a : Nat) (x : Axis) (s t : State) : Prop :=
  t.axis a = x ∧ (∀ b, b ≠ a → t.axis b = s.axis b) ∧ ({ t.rest with mot := {} } : State) = { s.rest with mot := {} }

theorem onlyAxis_of_rest {a : Nat} (ha : a < 5) {f : Axis → Axis} {s t : State} (h : t.rest = (axMod a f s).rest) : OnlyAxis a (f (s.axis a)) s t :=
  ⟨(axis_of_rest h a).trans (axis_axMod_same s ha f), fun b hb => (axis_of_rest h b).trans (axis_axMod_ne hb f s),
    (congrArg (fun u : State => ({ u with mot := {} } : State)) h :)⟩

/-! ### Positions (R280, R281) -/

theorem wrap24_eq_bmod (n : Int) : wrap24 n = n.bmod 16777216 := BitVec.toInt_ofInt n

theorem wrap24_int (w : W24) : wrap24 w.int = w.int := congrArg BitVec.toInt (BitVec.ofInt_toInt (x := w))

theorem wrapX_div (n : Int) : wrapX n / xUnit = wrap24 (n / xUnit) := by
  rw [wrapX, Int.add_mul_ediv_right _ _ (by decide), Int.emod_lt_of_pos n (by decide) |> Int.ediv_eq_zero_of_lt (Int.emod_nonneg n (by decide)), zero_add]

/-- The table index takes the position modulo its 1,024 entries, and 24 bits keep that. -/
theorem ofInt_wrap24 (n : Int) : BitVec.ofInt 10 (wrap24 n) = BitVec.ofInt 10 n := by
  apply BitVec.eq_of_toInt_eq
  rw [BitVec.toInt_ofInt, BitVec.toInt_ofInt, wrap24_eq_bmod]
  exact Int.bmod_bmod_of_dvd (by decide)

theorem pos_shiftPos (s : State) (a : Nat) (n : Int) (x : Axis) : (s.shiftPos a n x).pos = wrap24 (x.pos + n) := by
  show wrapX (x.x + n * xUnit) / xUnit = _
  rw [wrapX_div, Int.add_mul_ediv_right _ _ (by decide)]; rfl

/-- The index that an axis shows (R281). -/
def State.indexOf (s : State) (a : Nat) (x : Axis) : BitVec 10 := if s.pb (axP a 0x05) then x.k - BitVec.ofInt 10 x.pos else BitVec.ofInt 10 x.pos + x.k

theorem index_eq (s : State) (a : Nat) : s.index a = s.indexOf a (s.axis a) := rfl

/-- A redefined position leaves the index (R281). -/
theorem indexOf_shiftPos (s : State) (a : Nat) (n : Int) (x : Axis) : s.indexOf a (s.shiftPos a n x) = s.indexOf a x := by
  unfold State.indexOf
  rw [pos_shiftPos, ofInt_wrap24, BitVec.ofInt_add]
  simp only [State.shiftPos]
  split <;> abel

theorem index_of_prm {s t : State} (h : t.prm = s.prm) (a : Nat) : t.index a = s.indexOf a (t.axis a) := by
  have hpb (u : State) (x : Axis) : u.indexOf a x = ({ State.reset with prm := u.prm } : State).indexOf a x := rfl
  rw [index_eq, hpb, h, ← hpb]

end Sys2Proof.Machine
end

section
/-! AXIS_SET_POS and the commands that begin a motion (R175, R278, R281, R283, R284, R286, R288, R304 to R307, R310, Table 6-13). -/

namespace Sys2Proof.Machine

/-! ### From a meaning to a completion statement -/

/-- A command accepted for later whose meaning goes on with nothing that posts or journals. -/
theorem acceptsLater_of_run {c : Instr} {op : Byte} {d : Desc} {st : Status} {s v : State} {E : State → Prop} (hx : exec c s = command op d s)
    (ht : s.takes d) (hd : decodeOp op d (s.fetched d) = v) (hj : v.jrn = (acceptRun op d st 0 0 (s.fetched d)).jrn)
    (hr : v.ring = (acceptRun op d st 0 0 (s.fetched d)).ring) (hE : ∀ t, t.rest = v.rest → E t) : acceptsLater c op d st s E :=
  have hu := accepting_fetched ht
  acceptsLater_of hx ht hd hu hj (congrArg RingSt.cpl hr) (congrArg RingSt.cplProd hr) (congrArg RingSt.outstanding hr)
    ((congrArg RingSt.sleepReq hr).trans (acceptRun_awake op d st 0 0 hu)) fun t hq => hE t (rest_of_quiet hq)

/-- A command that ends OK at decode and then changes nothing that the host has been told. -/
theorem acceptsOk_of_kept {c : Instr} {op : Byte} {d : Desc} {r : W24} {x : Byte} {s v : State} {E : State → Prop} (hx : exec c s = command op d s)
    (ht : s.takes d) (hd : decodeOp op d (s.fetched d) = v) (hj : v.jrn = (acceptOk op d r x (s.fetched d)).jrn)
    (hr : v.ring = (acceptOk op d r x (s.fetched d)).ring) (hE : ∀ t, t.rest = v.rest → E t) : acceptsOk c op d r x s E := by
  obtain ⟨hjrn, -⟩ := acceptOk_spec op d r x (accepting_fetched ht)
  refine completes_of_acceptOk hx ht hd (accepting_fetched ht) (congrArg (fun q : RingSt => (q.cpl, q.cplProd, q.sleepReq)) hr) fun t hq hc => ?_
  have htj : t.jrn = (acceptOk op d r x (s.fetched d)).jrn := (congrArg State.jrn hq :).trans hj
  exact ⟨by unfold Journaled at hjrn ⊢; rwa [htj], hc, hE t (rest_of_quiet hq)⟩

/-- A command that ends OK at decode with one axis changed. -/
theorem acceptsOk_of_axMod {c : Instr} {op : Byte} {d : Desc} {r : W24} {s : State} {a : Nat} {f : Axis → Axis} {E : State → Prop}
    (hx : exec c s = command op d s) (ht : s.takes d) (hd : decodeOp op d (s.fetched d) = acceptOk op d r 0 (axMod a f (s.fetched d))) (ha : a < 5)
    (hE : ∀ t, OnlyAxis a (f (s.axis a)) s t → E t) : acceptsOk c op d r 0 s E :=
  acceptsOk_of hx ht hd { accepting_fetched ht with } fun t h => hE t (onlyAxis_of_rest ha (f := f) ((rest_of_added h).trans rfl))

/-! ### AXIS_SET_POS -/

/-- The axis at a redefined position: homed, its reference pair and step target taken anew (R281). -/
def State.positioned (s : State) (a : Nat) (w : W24) (x : Axis) : Axis :=
  let y : Axis := { s.shiftPos a (w.int - x.pos) x with homed := true, noVerify := false }
  ({ y with stepTarget := y.word } : Axis).takeRef

theorem pos_positioned (s : State) (a : Nat) (w : W24) (x : Axis) : (s.positioned a w x).pos = w.int := by
  have h := pos_shiftPos s a (w.int - x.pos) x
  rw [add_sub_cancel, wrap24_int] at h
  exact h

theorem refP_positioned (s : State) (a : Nat) (w : W24) (x : Axis) : (s.positioned a w x).refP = w := by
  have h : (s.positioned a w x).refP = w24i (s.positioned a w x).pos := rfl
  rw [h, pos_positioned]
  exact BitVec.ofInt_toInt

theorem indexOf_positioned (s : State) (a : Nat) (w : W24) (x : Axis) : s.indexOf a (s.positioned a w x) = s.indexOf a x :=
  indexOf_shiftPos s a (w.int - x.pos) x

theorem decAxisSetPos_positions {s : State} {d : Desc} (hs : s.serves 0x37) (hf : formOk d false false 0xF mA m0 m0 m0 = true) (ha : axNum d < 5)
    (hown : s.owner (axNum d) = 0) (hstands : (s.axis (axNum d)).moves = false) (hready : (s.axis (axNum d)).verifying = false) :
    decAxisSetPos d s = acceptOk 0x37 d 0 0 (axMod (axNum d) (fun _ => s.positioned (axNum d) (arg24 d.d4) (s.axis (axNum d))) s) := by
  unfold decAxisSetPos
  rw [gate_passes hs (by rw [hf, decide_eq_true ha]; rfl)]
  simp only [hown, hstands, hready, bne_self_eq_false, Bool.or_self, Bool.false_eq_true, if_false]
  rfl

/-- Settles O24: a redefined position shifts the table offset the other way. OFF and FAULT stand still too, and take the command (log 80). -/
theorem setPosKeepsTheIndex : Obligations.SetPosKeepsTheIndex := by
  intro s d ht hs hf ha hown hstands hready
  refine acceptsOk_of_axMod rfl ht (decAxisSetPos_positions (s := s.fetched d) hs hf ha hown hstands hready) ha fun t ⟨hax, hother, hrest⟩ => ?_
  have hindex : t.index (axNum d) = s.index (axNum d) := by
    have hprm : t.prm = s.prm := (congrArg State.prm hrest :)
    rw [index_of_prm hprm, hax]
    exact indexOf_positioned s (axNum d) (arg24 d.d4) (s.axis (axNum d))
  rw [hax]
  exact ⟨pos_positioned s _ _ _, rfl, hindex, rfl, refP_positioned s _ _ _, hother, hrest⟩

/-! ### What keeps a motion command from beginning -/

section
variable {s : State} {a : Nat} (hown : s.owner a = 0) (hawake : s.glb.sleep = false) (hheld : s.axisHeld a = false)
include hown hawake hheld

/-- An axis that the host owns, at standstill or idle, outside SLEEP and not held by a commit, takes a motion command (R175, R283). -/
theorem axBars_none (hst : (s.axis a).st = .standstill ∨ (s.axis a).st = .idleOff) : s.axBars a = none := by
  rcases hst with h | h <;> simp [State.axBars, hown, hawake, hheld, h]

end

/-! ### The start of a motion -/

theorem axLaunch_standing {s : State} {a : Nat} (h : (s.axis a).st ≠ .idleOff) (op : Byte) (d : Desc) (st : AxisState) (m : Move) :
    axLaunch op d a st m s = axBegin a st (some m) [s.nextRef op d] (acceptRun op d .queued 0 0 s) := if_neg h

/-- The motion that waits for the verification of an idle stage (R283). -/
theorem axLaunch_idle {s : State} {a : Nat} (ha : a < 5) (h : (s.axis a).st = .idleOff) (henc : s.encOn a = true) (op : Byte) (d : Desc)
    (st : AxisState) (m : Move) : axLaunch op d a st m s = axMod a (fun x => { x with after := some (.move st m), refs := [s.nextRef op d], move := none })
      (axEnable a (axMod a (fun x => { x with st := .enabling }) (acceptRun op d .queued 0 0 s))) := by
  have hon : (axMod a (fun x => { x with st := .enabling }) (acceptRun op d .queued 0 0 s)).encOn a = true :=
    (congrArg (fun u : State => u.encOn a) (rest_acceptRun op d .queued 0 0 s) :).trans henc
  obtain ⟨-, hverify, -⟩ := axis_axEnable (axMod a (fun x => { x with st := .enabling }) (acceptRun op d .queued 0 0 s)) ha
  unfold axLaunch
  rw [if_pos h, if_pos (hverify.trans hon)]

/-- A motion that begins at once leaves the axis as `axBegin` does. -/
theorem acceptsLater_of_begin {c : Instr} {op : Byte} {d : Desc} {s : State} {a : Nat} {st : AxisState} {m : Move} {E : State → Prop}
    (hx : exec c s = command op d s) (ht : s.takes d) (ha : a < 5)
    (hd : decodeOp op d (s.fetched d) = axBegin a st (some m) [s.nextRef op d] (acceptRun op d .queued 0 0 (s.fetched d)))
    (hE : ∀ t, OnlyAxis a ((axBegin a st (some m) [s.nextRef op d] s).axis a) s t → E t) : acceptsLater c op d .queued s E := by
  refine acceptsLater_of_run hx ht hd rfl rfl fun t hr => hE t ?_
  rw [axBegin, axis_axMod_same s ha]
  exact onlyAxis_of_rest ha (hr.trans (rest_axMod_congr (rest_acceptRun op d .queued 0 0 (s.fetched d)) a _))

/-! ### AXIS_MOVE_ABS -/

section
variable {s : State} {d : Desc} (hs : s.serves 0x30) (hf : formOk d false false 0xF mA mA mA mA = true) (ha : axNum d < 5)
  (hspeed : s.speedOk (axNum d) (arg24 d.d5).toNat = true) (hown : s.owner (axNum d) = 0) (hhomed : (s.axis (axNum d)).homed = true)
  (hawake : s.glb.sleep = false) (hheld : s.axisHeld (axNum d) = false) (hpermit : s.permit (axPermit (axNum d)) = true)
  (hlimit : s.limitBars (axNum d) (absMove (axNum d) d s).dir = false)
include hs hf ha hspeed hown hhomed hawake hheld hpermit hlimit

theorem decAxisMoveAbs_launches (hst : (s.axis (axNum d)).st = .standstill ∨ (s.axis (axNum d)).st = .idleOff) :
    decAxisMoveAbs d s = axLaunch 0x30 d (axNum d) .moving (absMove (axNum d) d s) s := by
  unfold decAxisMoveAbs
  rw [gate_passes hs (by rw [hf, hspeed, decide_eq_true ha]; rfl)]
  simp only [axBars_none hown hawake hheld hst, hown, hhomed, hpermit, hlimit]
  rcases hst with h | h <;> rw [h] <;> rfl

variable (ht : s.takes d)
include ht

theorem axisMoveAbs_begins (hst : (s.axis (axNum d)).st = .standstill) : acceptsLater (.axisMoveAbs d) 0x30 d .queued s (fun t =>
    t.axis (axNum d) = (axBegin (axNum d) .moving (some (absMove (axNum d) d s)) [s.nextRef 0x30 d] s).axis (axNum d) ∧
    (t.axis (axNum d)).st = .moving ∧ (t.axis (axNum d)).x = (s.axis (axNum d)).x ∧
    (∀ b, b ≠ axNum d → t.axis b = s.axis b) ∧ ({ t.rest with mot := {} } : State) = { s.rest with mot := {} }) := by
  have hd := decAxisMoveAbs_launches (s := s.fetched d) hs hf ha hspeed hown hhomed hawake hheld hpermit hlimit (.inl hst)
  rw [axLaunch_standing (s := s.fetched d) (fun h => absurd (hst.symm.trans h) (by decide))] at hd
  refine acceptsLater_of_begin rfl ht ha hd fun t ⟨hax, hframe⟩ => ⟨hax, ?_⟩
  rw [hax, axBegin, axis_axMod_same s ha]
  exact ⟨rfl, rfl, hframe⟩

theorem axisMoveAbs_verifies (hst : (s.axis (axNum d)).st = .idleOff) (henc : s.encOn (axNum d) = true) :
    acceptsLater (.axisMoveAbs d) 0x30 d .queued s (fun t => (t.axis (axNum d)).st = .enabling ∧ (t.axis (axNum d)).stage = true ∧
      (t.axis (axNum d)).verifying = true ∧ (t.axis (axNum d)).after = some (.move .moving (absMove (axNum d) d s)) ∧
      (t.axis (axNum d)).refs = [s.nextRef 0x30 d]) := by
  have hd := decAxisMoveAbs_launches (s := s.fetched d) hs hf ha hspeed hown hhomed hawake hheld hpermit hlimit (.inr hst)
  rw [axLaunch_idle (s := s.fetched d) ha hst henc] at hd
  have hon : (axMod (axNum d) (fun x => { x with st := .enabling }) (acceptRun 0x30 d .queued 0 0 (s.fetched d))).encOn (axNum d) = true :=
    (congrArg (fun u : State => u.encOn (axNum d)) (rest_acceptRun 0x30 d .queued 0 0 (s.fetched d)) :).trans henc
  generalize hu : axMod (axNum d) (fun x => { x with st := .enabling }) (acceptRun 0x30 d .queued 0 0 (s.fetched d)) = u at hd hon
  obtain ⟨hstage, hverify, hwaits⟩ := axis_axEnable u ha
  have hkept : (axEnable (axNum d) u).jrn = u.jrn ∧ (axEnable (axNum d) u).ring = u.ring := by
    unfold axEnable; rw [hon]; exact ⟨rfl, rfl⟩
  refine acceptsLater_of_run rfl ht hd (hkept.1.trans (hu ▸ rfl)) (hkept.2.trans (hu ▸ rfl)) fun t hr => ?_
  rw [axis_of_rest hr, axis_axMod_same _ ha]
  exact ⟨hwaits hon, hstage, hverify.trans hon, rfl, rfl⟩

end

/-! ### AXIS_MOVE_VEL -/

section
variable {s : State} {d : Desc} (hs : s.serves 0x31) (hf : formOk d false false 0x10F mA mA m0 m0 = true) (ha : axNum d < 5)
  (hspeed : s.speedOk (axNum d) (arg24 d.d4).toNat = true) (hown : s.owner (axNum d) = 0) (hst : (s.axis (axNum d)).st = .standstill)
  (hawake : s.glb.sleep = false) (hheld : s.axisHeld (axNum d) = false) (hpermit : s.permit (axPermit (axNum d)) = true)
  (hlimit : s.limitBars (axNum d) (velMove (axNum d) d s).dir = false)
include hs hf ha hspeed hown hst hawake hheld hpermit hlimit

theorem decAxisMoveVel_launches : decAxisMoveVel d s = axLaunch 0x31 d (axNum d) .velocity (velMove (axNum d) d s) s := by
  unfold decAxisMoveVel
  rw [gate_passes hs (by rw [hf, hspeed, decide_eq_true ha]; rfl)]
  simp only [axBars_none hown hawake hheld (.inl hst), hown, hpermit, hlimit, hst]
  rfl

theorem axisMoveVel_begins (ht : s.takes d) : acceptsLater (.axisMoveVel d) 0x31 d .queued s (fun t =>
    t.axis (axNum d) = (axBegin (axNum d) .velocity (some (velMove (axNum d) d s)) [s.nextRef 0x31 d] s).axis (axNum d) ∧
    (t.axis (axNum d)).st = .velocity ∧
    (∀ b, b ≠ axNum d → t.axis b = s.axis b) ∧ ({ t.rest with mot := {} } : State) = { s.rest with mot := {} }) := by
  have hd := decAxisMoveVel_launches (s := s.fetched d) hs hf ha hspeed hown hst hawake hheld hpermit hlimit
  rw [axLaunch_standing (s := s.fetched d) (fun h => absurd (hst.symm.trans h) (by decide))] at hd
  refine acceptsLater_of_begin rfl ht ha hd fun t ⟨hax, hframe⟩ => ⟨hax, ?_⟩
  rw [hax, axBegin, axis_axMod_same s ha]
  exact ⟨rfl, hframe⟩

end

/-! ### AXIS_RETUNE -/

section
variable {s : State} {d : Desc} (hs : s.serves 0x32) (hf : formOk d false false 0xF mA mA m0 m0 = true) (ha : axNum d < 5)
  (hspeed : s.speedOk (axNum d) (arg24 d.d4).toNat = true) (hown : s.owner (axNum d) = 0)
include hs hf ha hspeed hown

theorem decAxisRetune_eq : decAxisRetune d s = match (s.axis (axNum d)).retune (arg24 d.d4).toNat (arg24 d.d5).toNat with
    | none => acceptOk 0x32 d 0 0 s
    | some y => acceptOk 0x32 d 1 0 (axMod (axNum d) (fun _ => y) s) := by
  unfold decAxisRetune
  rw [gate_passes hs (by rw [hf, hspeed, decide_eq_true ha]; rfl)]
  simp only [hown]
  rfl

variable (ht : s.takes d)
include ht

theorem axisRetune_nothing (h : (s.axis (axNum d)).retune (arg24 d.d4).toNat (arg24 d.d5).toNat = none) :
    acceptsOk (.axisRetune d) 0x32 d 0 0 s (OnlyRings s) := by
  have hd := decAxisRetune_eq (s := s.fetched d) hs hf ha hspeed hown
  rw [show ((s.fetched d).axis (axNum d)).retune (arg24 d.d4).toNat (arg24 d.d5).toNat = none from h] at hd
  exact acceptsOk_of rfl ht hd (accepting_fetched ht) fun _ h => onlyRings_of_added h rfl

theorem axisRetune_retunes {y : Axis} (h : (s.axis (axNum d)).retune (arg24 d.d4).toNat (arg24 d.d5).toNat = some y) :
    acceptsOk (.axisRetune d) 0x32 d 1 0 s (OnlyAxis (axNum d) y s) := by
  have hd := decAxisRetune_eq (s := s.fetched d) hs hf ha hspeed hown
  rw [show ((s.fetched d).axis (axNum d)).retune (arg24 d.d4).toNat (arg24 d.d5).toNat = some y from h] at hd
  exact acceptsOk_of_axMod rfl ht hd ha fun _ h => h

end

/-! ### AXIS_HOME -/

/-- An axis as the home search begins: not homed, its latch armed (R310). -/
def Axis.searching (homeMax : Nat) (y : Axis) : Axis :=
  { y with homed := false, latchArmed := y.st = .homing, latch := none, edge := none, travel := 0, homeMax := homeMax }

section
variable {s : State} {d : Desc} (hs : s.serves 0x34) (hf : formOk d false false 0xF mA m0 m0 m0 = true) (ha : axNum d < 5)
  (hspeed : s.speedOk (axNum d) (arg24 d.d4).toNat = true) (hown : s.owner (axNum d) = 0) (hst : (s.axis (axNum d)).st = .standstill)
  (hstands : (s.axis (axNum d)).moves = false) (hawake : s.glb.sleep = false) (hheld : s.axisHeld (axNum d) = false)
  (hpermit : s.permit (axPermit (axNum d)) = true) (hlimit : s.limitBars (axNum d) (homeMove (axNum d) d s).dir = false)
include hs hf ha hspeed hown hst hstands hawake hheld hpermit hlimit

theorem decAxisHome_launches : decAxisHome d s = axMod (axNum d) (Axis.searching (s.pn (axP (axNum d) 0x2D)))
    (axLaunch 0x34 d (axNum d) .homing (homeMove (axNum d) d s) s) := by
  have hdir : s.limitBars (axNum d) (if s.pb (axP (axNum d) 0x2B) = true then -1 else 1) = false := hlimit
  unfold decAxisHome
  rw [gate_passes hs (by rw [hf, hspeed, decide_eq_true ha]; rfl)]
  simp only [axBars_none hown hawake hheld (.inl hst), hstands, hpermit, hdir, Bool.false_and, Bool.not_true, Bool.or_self, Bool.false_eq_true, if_false]
  rfl

theorem axisHome_searches (ht : s.takes d) : acceptsLater (.axisHome d) 0x34 d .queued s (fun t => (t.axis (axNum d)).st = .homing ∧
    (t.axis (axNum d)).homed = false ∧ (t.axis (axNum d)).latchArmed = true ∧ (t.axis (axNum d)).latch = none ∧
    (t.axis (axNum d)).move = some (homeMove (axNum d) d s) ∧ (t.axis (axNum d)).refs = [s.nextRef 0x34 d] ∧
    (t.axis (axNum d)).x = (s.axis (axNum d)).x ∧
    (∀ b, b ≠ axNum d → t.axis b = s.axis b) ∧ ({ t.rest with mot := {} } : State) = { s.rest with mot := {} }) := by
  have hd := decAxisHome_launches (s := s.fetched d) hs hf ha hspeed hown hst hstands hawake hheld hpermit hlimit
  rw [axLaunch_standing (s := s.fetched d) (fun h => absurd (hst.symm.trans h) (by decide)), axBegin, axMod_axMod ha] at hd
  refine acceptsLater_of_run rfl ht hd rfl rfl fun t hr => ?_
  obtain ⟨hax, hframe⟩ := onlyAxis_of_rest ha (hr.trans (rest_axMod_congr (rest_acceptRun 0x34 d .queued 0 0 (s.fetched d)) _ _))
  rw [hax]
  exact ⟨rfl, rfl, rfl, rfl, rfl, rfl, rfl, hframe⟩

end

/-! ### AXIS_GEAR -/

section
variable {s : State} {d : Desc} (hs : s.serves 0x35) (hf : formOk d false false 0x1FF mA mA mA m0 = true) (ha : axNum d < 5)
  (hnow : d.d3.getLsbD 8 = false) (hmaster : fld d.d3 4 4 < 6) (hself : fld d.d3 4 4 ≠ axNum d)
  (hloop : s.gearLoops (axNum d) 6 (fld d.d3 4 4) = false) (hown : s.owner (axNum d) = 0) (hst : (s.axis (axNum d)).st = .standstill)
  (hstands : (s.axis (axNum d)).moves = false) (hready : (s.axis (axNum d)).verifying = false) (hhomed : (s.axis (axNum d)).homed = true)
  (hmhomed : fld d.d3 4 4 < 5 → (s.axis (fld d.d3 4 4)).homed = true) (hawake : s.glb.sleep = false) (hheld : s.axisHeld (axNum d) = false)
  (hencm : fld d.d3 4 4 = 5 → s.encmHeld = false) (hpermit : s.permit (axPermit (axNum d)) = true)
include hs hf ha hnow hmaster hself hloop hown hst hstands hready hhomed hmhomed hawake hheld hencm hpermit

theorem decAxisGear_engages : decAxisGear d s = axMod (axNum d) (fun y => { y with gear := some (gearOf d s) })
    (axBegin (axNum d) .geared none [] (acceptOk 0x35 d 0 0 s)) := by
  have hform : (formOk d false false 0x1FF mA mA mA m0 && axNum d < 5 && (fld d.d3 4 4 < 6 || fld d.d3 4 4 = 15) && fld d.d3 4 4 != axNum d) = true := by
    rw [hf, decide_eq_true ha, decide_eq_true hmaster, bne_iff_ne.mpr hself]; rfl
  have hnot : fld d.d3 4 4 ≠ 15 := by omega
  have hlost : (decide (fld d.d3 4 4 < 5) && !(s.axis (fld d.d3 4 4)).homed) = false := by simpa using hmhomed
  have hcommit : (decide (fld d.d3 4 4 = 5) && s.encmHeld) = false := by simpa using hencm
  have hax : (acceptOk 0x35 d 0 0 s).axis (axNum d) = s.axis (axNum d) := axis_of_rest (rest_acceptOk 0x35 d 0 0 s) _
  unfold decAxisGear
  rw [gate_passes hs hform]
  simp only [axBars_none hown hawake hheld (.inl hst), hown, hst, hnot, hnow, hloop, hhomed, hstands, hpermit, hlost, hcommit, hax, hready, reduceCtorEq,
    bne_self_eq_false, Bool.not_true, Bool.or_self, Bool.false_eq_true, if_false]

theorem axisGear_engages (ht : s.takes d) : acceptsOk (.axisGear d) 0x35 d 0 0 s (fun t => (t.axis (axNum d)).st = .geared ∧
    (t.axis (axNum d)).gear = some (gearOf d s) ∧ (t.axis (axNum d)).x = (s.axis (axNum d)).x ∧
    (∀ b, b ≠ axNum d → t.axis b = s.axis b) ∧ ({ t.rest with mot := {} } : State) = { s.rest with mot := {} }) := by
  have hd := decAxisGear_engages (s := s.fetched d) hs hf ha hnow hmaster hself hloop hown hst hstands hready hhomed hmhomed hawake hheld hencm hpermit
  rw [axBegin, axMod_axMod ha] at hd
  refine acceptsOk_of_kept rfl ht hd rfl rfl fun t hr => ?_
  obtain ⟨hax, hframe⟩ := onlyAxis_of_rest ha (hr.trans (rest_axMod_congr (rest_acceptOk 0x35 d 0 0 (s.fetched d)) _ _))
  rw [hax]
  exact ⟨rfl, rfl, rfl, hframe⟩

end

/-- Settles O22, command by command. An argument of 0 takes its default (log 41), and a stage with an encoder first verifies (log 80). -/
theorem axisMotionCommandsComplete : Obligations.AxisMotionCommandsComplete :=
  ⟨fun _ _ ht hs hf ha hspeed hown hhomed hawake hheld hpermit hlimit =>
      ⟨axisMoveAbs_begins hs hf ha hspeed hown hhomed hawake hheld hpermit hlimit ht,
        axisMoveAbs_verifies hs hf ha hspeed hown hhomed hawake hheld hpermit hlimit ht⟩,
    fun _ _ ht hs hf ha hspeed hown hst hawake hheld hpermit hlimit => axisMoveVel_begins hs hf ha hspeed hown hst hawake hheld hpermit hlimit ht,
    fun _ _ ht hs hf ha hspeed hown => ⟨axisRetune_nothing hs hf ha hspeed hown ht, fun _ => axisRetune_retunes hs hf ha hspeed hown ht⟩,
    fun _ _ ht hs hf ha hspeed hown hst hstands hawake hheld hpermit hlimit =>
      axisHome_searches hs hf ha hspeed hown hst hstands hawake hheld hpermit hlimit ht,
    fun _ _ ht hs hf ha hnow hmaster hself hloop hown hst hstands hready hhomed hmhomed hawake hheld hencm hpermit =>
      axisGear_engages hs hf ha hnow hmaster hself hloop hown hst hstands hready hhomed hmhomed hawake hheld hencm hpermit ht⟩

end Sys2Proof.Machine
end

section
/-! Stops, disabled and enabled stages, and the ends of commands: what each leaves of the axes (R283, R287, R289, R298, R312 to R315). -/

namespace Sys2Proof.Machine

/-! ### The axes under reports and outcomes -/

@[simp] theorem mot_raise (c : W16) (v : Nat) (a b : W24) (s : State) : (raise c v a b s).mot = s.mot := (congrArg State.mot (rest_raise c v a b s) :)

@[simp] theorem mot_finish (r : Ref) (st : Status) (w : W24) (e : Byte) (s : State) : (finish r st w e s).mot = s.mot :=
  (congrArg State.mot (rest_finish r st w e s) :)

@[simp] theorem mot_finishAll (l : List Ref) (st : Status) (w : W24) (e : Byte) (s : State) : (finishAll l st w e s).mot = s.mot :=
  (congrArg State.mot (rest_finishAll l st w e s) :)

theorem axis_of_mot {s t : State} (h : t.mot = s.mot) (b : Nat) : t.axis b = s.axis b := congrArg (fun m : MotionSt => m.ax.toList.getD b {}) h

/-! ### Stops (R287, R289) -/

/-- What a stop does to an axis that moves: it ramps down to end as told, and stands otherwise as it stood. -/
structure Ramped (hard : Bool) (how : Status × Byte) (y z : Axis) : Prop where
  st : z.st = .stopping
  emg : z.emg = (y.emg || hard)
  endWith : y.endWith = none → z.endWith = some how
  stops : z.stops = y.stops
  x : z.x = y.x
  v : z.v = y.v
  k : z.k = y.k
  stage : z.stage = y.stage
  homed : z.homed = y.homed
  stall : z.stall = y.stall
  latch : z.latch = y.latch
  latchArmed : z.latchArmed = y.latchArmed

section
variable {s : State} {a : Nat}

theorem axStop_of_stands (h : (s.axis a).moves = false) (emg : Bool) (st : Status) (e : Byte) : axStop emg a st e s = s := by
  simp only [axStop, h, Bool.not_false, if_true]

theorem mot_axStop (h : (s.axis a).moves = true) (emg : Bool) (st : Status) (e : Byte) :
    ∃ f : Axis → Axis, (axStop emg a st e s).mot = (axMod a f s).mot ∧ ∀ x, Ramped emg (st, e) x (f x) := by
  have hmoves : ¬ (!(s.axis a).moves) = true := by rw [h]; decide
  have hend (y : Axis) (hy : y.endWith = none) : (match y.endWith with | some e => some e | none => some (st, e)) = some (st, e) := by rw [hy]
  exact ⟨_, (congrArg State.mot (if_neg hmoves)).trans (mot_finishAll _ _ _ _ _), fun y =>
    ⟨rfl, rfl, hend y, rfl, rfl, rfl, rfl, rfl, rfl, rfl, rfl, rfl⟩⟩

theorem axStop_ramps (ha : a < 5) (h : (s.axis a).moves = true) (emg : Bool) (st : Status) (e : Byte) :
    Ramped emg (st, e) (s.axis a) ((axStop emg a st e s).axis a) := by
  obtain ⟨f, hmot, hf⟩ := mot_axStop h emg st e
  rw [axis_of_mot hmot, axis_axMod_same s ha]
  exact hf _

theorem axis_axStop_ne {b : Nat} (hb : b ≠ a) (emg : Bool) (st : Status) (e : Byte) : (axStop emg a st e s).axis b = s.axis b := by
  cases h : (s.axis a).moves with
  | false => rw [axStop_of_stands h]
  | true =>
    obtain ⟨f, hmot, -⟩ := mot_axStop h emg st e
    rw [axis_of_mot hmot, axis_axMod_ne hb]

end

@[simp] theorem posted_axStop (emg : Bool) (a : Nat) (st : Status) (e : Byte) (s : State) : (axStop emg a st e s).posted = s.posted := by
  simp only [axStop, apply_ite State.posted, posted_finishAll, posted_axMod, ite_self]

/-! ### Disabled stages (R312, R313, R315) -/

/-- What the disabling of its stage does to an axis: where it moved it is homed no more; its position and its stall stand. -/
structure Disabled (y z : Axis) : Prop where
  stage : z.stage = false
  st : z.st = if y.st = .fault then .fault else .off
  v : z.v = 0
  move : z.move = none
  x : z.x = y.x
  homed : z.homed = (y.homed && !(y.stage && y.moves))
  stall : z.stall = y.stall

section
variable {s : State} {a : Nat}

theorem mot_axDisable (a : Nat) (st : Status) (e : Byte) (s : State) : ∃ (f : Axis → Axis) (u : State),
    (axDisable a st e s).mot = (axMod a f u).mot ∧ u.mot = s.mot ∧ Disabled (s.axis a) (f (s.axis a)) := by
  have hhomed (b h : Bool) : (if b = true then false else h) = (h && !b) := by cases b <;> simp
  exact ⟨_, _, (mot_finishAll _ _ _ _ _).trans ((mot_finishAll _ _ _ _ _).trans (mot_finishAll _ _ _ _ _)), rfl,
    { stage := rfl, st := rfl, v := rfl, move := rfl, x := rfl, homed := hhomed _ _, stall := rfl }⟩

theorem axDisable_disables (ha : a < 5) (st : Status) (e : Byte) : Disabled (s.axis a) ((axDisable a st e s).axis a) := by
  obtain ⟨f, u, hmot, hu, hf⟩ := mot_axDisable a st e s
  rw [axis_of_mot hmot, axis_axMod_same u ha, axis_of_mot hu]
  exact hf

theorem axis_axDisable_ne {b : Nat} (hb : b ≠ a) (st : Status) (e : Byte) : (axDisable a st e s).axis b = s.axis b := by
  obtain ⟨f, u, hmot, hu, -⟩ := mot_axDisable a st e s
  rw [axis_of_mot hmot, axis_axMod_ne hb, axis_of_mot hu]

end

/-! ### Enabled stages (R283) -/

section
variable {s : State} {a : Nat}

theorem axis_retUsed_ne {b : Nat} (hb : b ≠ a) : (retUsed a s).axis b = s.axis b :=
  axis_axMod_ne hb _ { s with keep.ret := s.keep.ret.setIfInBounds a none, glb.awaiting := setB s.glb.awaiting a false }

theorem axis_axEnable_ne {b : Nat} (hb : b ≠ a) : (axEnable a s).axis b = s.axis b := by
  simp only [axEnable]
  split
  · exact axis_axMod_ne hb _ _
  · rw [axis_retUsed_ne hb, axis_axMod_ne hb]

/-- Without an encoder the stage stands at once. -/
theorem axEnable_stands (ha : a < 5) (henc : s.encOn a = false) : ((axEnable a s).axis a).st = s.standState a ∧ ((axEnable a s).axis a).hold = true ∧
    ((axEnable a s).axis a).x = (s.axis a).x := by
  simp only [axEnable, henc, Bool.false_eq_true, if_false, axis_retUsed _ ha, axis_axMod_same s ha]
  exact ⟨rfl, rfl, rfl⟩

@[simp] theorem posted_axEnable (s : State) : (axEnable a s).posted = s.posted := by
  simp only [axEnable, apply_ite State.posted]
  exact ite_self _

end

/-! ### A command that waits on several axes -/

@[simp] theorem mot_finishIfFree (r : Ref) (s : State) : (finishIfFree r s).mot = s.mot := by
  simp only [finishIfFree, apply_ite State.mot, mot_finish, ite_self]

@[simp] theorem posted_finishIfFree (r : Ref) (s : State) : (finishIfFree r s).posted = s.posted := by
  simp only [finishIfFree, apply_ite State.posted, posted_finish, ite_self]

end Sys2Proof.Machine
end

section
/-! AXIS_STOP and AXIS_POWER of one axis (R278, R283, R289, R298, R313, R315, Table 6-13). -/

namespace Sys2Proof.Machine

/-- A command accepted for later that ends once no axis holds it: what its work on the axes leaves of them stands. -/
theorem completes_of_axisWork {c : Instr} {op : Byte} {d : Desc} {s u : State} {P : State → Prop} (hx : exec c s = command op d s) (ht : s.takes d)
    (hd : decodeOp op d (s.fetched d) = finishIfFree (s.nextRef op d) u) (hposted : u.posted = (acceptRun op d .queued 0 0 (s.fetched d)).posted)
    (hP : ∀ t : State, (∀ b, t.axis b = u.axis b) → Completed op d .queued (s.jrn.head + 1) 0 0 s t → P t) : completes c s P :=
  completes_of_acceptRun hx ht hd (accepting_fetched ht) ((posted_finishIfFree _ u).trans hposted) fun t hq hc =>
    hP t (fun b => (axis_of_quiet hq b).trans (axis_of_mot (mot_finishIfFree _ u) b)) hc

theorem axis_acceptRun (op : Byte) (d : Desc) (st : Status) (r : W24) (x : Byte) (s : State) (b : Nat) : (acceptRun op d st r x s).axis b = s.axis b :=
  axis_of_rest (rest_acceptRun op d st r x s) b

theorem axSet_single {a : Nat} (ha : a < 5) (s : State) : s.axSet a = [a] := if_neg (by omega)

/-! ### AXIS_STOP -/

/-- The state with the following of external steps suspended (R298). -/
def followHeld (a : Nat) (s : State) : State :=
  if (s.axis a).stage && s.standState a = .external then axMod a (fun y => { y with suspended := true }) s else s

theorem axis_followHeld {a : Nat} (ha : a < 5) (s : State) : (followHeld a s).axis a =
    { s.axis a with suspended := (s.axis a).suspended || ((s.axis a).stage && s.standState a = .external) } := by
  unfold followHeld
  split
  · next h => rw [axis_axMod_same s ha, h, Bool.or_true]
  · next h => rw [Bool.eq_false_iff.mpr h, Bool.or_false]

theorem axis_followHeld_ne {a b : Nat} (hb : b ≠ a) (s : State) : (followHeld a s).axis b = s.axis b := by
  unfold followHeld
  split
  · exact axis_axMod_ne hb _ s
  · rfl

@[simp] theorem posted_followHeld (a : Nat) (s : State) : (followHeld a s).posted = s.posted := by
  unfold followHeld; split <;> rfl

section
variable {s : State} {a : Nat}

theorem stopOne_of_moves (h : (s.axis a).moves = true) (emg : Bool) (r : Ref) :
    stopOne emg r s a = axMod a (fun y => { y with stops := y.stops ++ [r] }) (axStop emg a .superseded 0 (followHeld a s)) := if_pos h

theorem stopOne_of_stands (h : (s.axis a).moves = false) (hafter : (s.axis a).after = none) (emg : Bool) (r : Ref) :
    stopOne emg r s a = followHeld a s := by
  have hmoves : ¬ (s.axis a).moves = true := by rw [h]; decide
  have hwaits : ¬ (s.axis a).after.isSome = true := by rw [hafter]; decide
  exact (if_neg hmoves).trans (if_neg hwaits)

end

section
variable {s : State} {d : Desc} (hs : s.serves 0x33) (hf : formOk d false false 0x10F m0 m0 m0 m0 = true) (ha : axNum d < 5) (hown : s.owner (axNum d) = 0)
include hs hf ha hown

theorem decAxisStop_eq : decAxisStop d s = finishIfFree (s.nextRef 0x33 d)
    (stopOne (d.d3.getLsbD 8) (s.nextRef 0x33 d) (acceptRun 0x33 d .queued 0 0 s) (axNum d)) := by
  unfold decAxisStop
  rw [gate_passes hs (by rw [hf, decide_eq_true ha]; rfl)]
  simp only [hown, axSet_single ha, bne_self_eq_false, Bool.and_false, Bool.false_eq_true, if_false]
  rfl

variable (ht : s.takes d)
include ht

theorem axisStop_ramps (hmoves : (s.axis (axNum d)).moves = true) : completes (.axisStop d) s (fun t =>
    Completed 0x33 d .queued (s.jrn.head + 1) 0 0 s t ∧
    (t.axis (axNum d)).st = .stopping ∧ (t.axis (axNum d)).stops = (s.axis (axNum d)).stops ++ [s.nextRef 0x33 d] ∧
    (t.axis (axNum d)).emg = ((s.axis (axNum d)).emg || d.d3.getLsbD 8) ∧
    ((s.axis (axNum d)).endWith = none → (t.axis (axNum d)).endWith = some (.superseded, 0)) ∧
    (t.axis (axNum d)).v = (s.axis (axNum d)).v ∧ (t.axis (axNum d)).x = (s.axis (axNum d)).x ∧ ∀ b, b ≠ axNum d → t.axis b = s.axis b) := by
  have hd := decAxisStop_eq (s := s.fetched d) hs hf ha hown
  have hax := axis_acceptRun 0x33 d .queued 0 0 (s.fetched d)
  generalize hu : acceptRun 0x33 d .queued 0 0 (s.fetched d) = u at hd hax
  have hmoves' : (u.axis (axNum d)).moves = true := by rw [hax]; exact hmoves
  rw [stopOne_of_moves hmoves'] at hd
  have hheld := axis_followHeld ha u
  have hramp := axStop_ramps (s := followHeld (axNum d) u) ha (by rw [hheld]; exact hmoves') (d.d3.getLsbD 8) .superseded 0
  rw [hheld, hax] at hramp
  refine completes_of_axisWork rfl ht hd (by rw [hu, posted_axMod, posted_axStop, posted_followHeld]) fun t hother hc => ?_
  rw [hother, axis_axMod_same _ ha]
  exact ⟨hc, hramp.st, congrArg (· ++ _) hramp.stops, hramp.emg, hramp.endWith, hramp.v, hramp.x, fun b hb => by
    rw [hother, axis_axMod_ne hb, axis_axStop_ne hb, axis_followHeld_ne hb, hax]; rfl⟩

theorem axisStop_suspends (hmoves : (s.axis (axNum d)).moves = false) (hstage : (s.axis (axNum d)).stage = true)
    (hsrc : s.standState (axNum d) = .external) (hafter : (s.axis (axNum d)).after = none) : completes (.axisStop d) s (fun t =>
      Completed 0x33 d .queued (s.jrn.head + 1) 0 0 s t ∧ t.axis (axNum d) = { s.axis (axNum d) with suspended := true } ∧
      ∀ b, b ≠ axNum d → t.axis b = s.axis b) := by
  have hd := decAxisStop_eq (s := s.fetched d) hs hf ha hown
  have hax := axis_acceptRun 0x33 d .queued 0 0 (s.fetched d)
  have hstand : (acceptRun 0x33 d .queued 0 0 (s.fetched d)).standState (axNum d) = .external :=
    (congrArg (fun u : State => u.standState (axNum d)) (rest_acceptRun 0x33 d .queued 0 0 (s.fetched d)) :).trans hsrc
  generalize hu : acceptRun 0x33 d .queued 0 0 (s.fetched d) = u at hd hax hstand
  rw [stopOne_of_stands (by rw [hax]; exact hmoves) (by rw [hax]; exact hafter)] at hd
  have hheld := axis_followHeld ha u
  rw [hstand, hax, show ((s.fetched d).axis (axNum d)).stage = true from hstage, decide_eq_true rfl, Bool.and_true, Bool.or_true] at hheld
  refine completes_of_axisWork rfl ht hd (by rw [hu, posted_followHeld]) fun t hother hc => ⟨hc, (hother _).trans hheld, fun b hb => ?_⟩
  rw [hother, axis_followHeld_ne hb, hax]; rfl

end

/-! ### AXIS_POWER -/

/-- A stage without an encoder is enabled at once (R283). -/
theorem powerOne_enables {s : State} {a : Nat} (ha : a < 5) (hst : (s.axis a).st = .off) (hstage : (s.axis a).stage = false) (henc : s.encOn a = false)
    (r : Ref) : powerOne r s a = axEnable a s := by
  obtain ⟨-, hverify, -⟩ := axis_axEnable s ha
  simp only [powerOne, hst, hstage, hverify, henc, reduceCtorEq, Bool.false_eq_true, if_false]

section
variable {s : State} {d : Desc} (hs : s.serves 0x36) (hf : formOk d false false 0x10F m0 m0 m0 m0 = true) (ha : axNum d < 5) (hown : s.owner (axNum d) = 0)
  (hstands : (s.axis (axNum d)).moves = false)
include hs hf ha hown hstands

theorem decAxisPower_off (hoff : d.d3.getLsbD 8 = false) :
    decAxisPower d s = finishIfFree (s.nextRef 0x36 d) (unpowerOne (acceptRun 0x36 d .queued 0 0 s) (axNum d)) := by
  unfold decAxisPower
  rw [gate_passes hs (by rw [hf, decide_eq_true ha]; rfl)]
  simp only [hown, hoff, hstands, axSet_single ha, List.any_cons, List.any_nil, bne_self_eq_false, Bool.and_false, Bool.false_and, Bool.or_self,
    Bool.false_eq_true, if_false]
  rfl

theorem decAxisPower_on (hon : d.d3.getLsbD 8 = true) (hlevel : s.effLevel < 3) (hawake : s.glb.sleep = false) (hlines : s.linesOn = true)
    (hst : (s.axis (axNum d)).st = .off) : decAxisPower d s =
      finishIfFree (s.nextRef 0x36 d) (powerOne (s.nextRef 0x36 d) (acceptRun 0x36 d .queued 0 0 s) (axNum d)) := by
  have hshed : decide (3 ≤ s.effLevel) = false := decide_eq_false (by omega)
  unfold decAxisPower
  rw [gate_passes hs (by rw [hf, decide_eq_true ha]; rfl)]
  simp only [hown, hon, hstands, hshed, hawake, hlines, hst, axSet_single ha, List.any_cons, List.any_nil, bne_self_eq_false, reduceCtorEq, decide_false,
    Bool.and_false, Bool.false_and, Bool.not_true, Bool.or_self, Bool.false_eq_true, if_false, if_true]
  rfl

variable (ht : s.takes d)
include ht

theorem axisPower_enables (hon : d.d3.getLsbD 8 = true) (hlevel : s.effLevel < 3) (hawake : s.glb.sleep = false) (hlines : s.linesOn = true)
    (hst : (s.axis (axNum d)).st = .off) (hstage : (s.axis (axNum d)).stage = false) (henc : s.encOn (axNum d) = false) :
    completes (.axisPower d) s (fun t => Completed 0x36 d .queued (s.jrn.head + 1) 0 0 s t ∧ (t.axis (axNum d)).stage = true ∧
      (t.axis (axNum d)).st = s.standState (axNum d) ∧ (t.axis (axNum d)).hold = true ∧ (t.axis (axNum d)).x = (s.axis (axNum d)).x ∧
      ∀ b, b ≠ axNum d → t.axis b = s.axis b) := by
  have hd := decAxisPower_on (s := s.fetched d) hs hf ha hown hstands hon hlevel hawake hlines hst
  have hrest := rest_acceptRun 0x36 d .queued 0 0 (s.fetched d)
  generalize hu : acceptRun 0x36 d .queued 0 0 (s.fetched d) = u at hd hrest
  have hax (b : Nat) : u.axis b = s.axis b := axis_of_rest hrest b
  have henc' : u.encOn (axNum d) = false := (congrArg (fun w : State => w.encOn (axNum d)) hrest :).trans henc
  have hsrc : u.standState (axNum d) = s.standState (axNum d) := (congrArg (fun w : State => w.standState (axNum d)) hrest :)
  rw [powerOne_enables ha (by rw [hax]; exact hst) (by rw [hax]; exact hstage) henc'] at hd
  obtain ⟨hstage', -⟩ := axis_axEnable u ha
  obtain ⟨hst', hhold, hx⟩ := axEnable_stands ha henc'
  refine completes_of_axisWork rfl ht hd (by rw [hu, posted_axEnable]) fun t hother hc => ?_
  rw [hother]
  exact ⟨hc, hstage', hst'.trans hsrc, hhold, hx.trans (congrArg Axis.x (hax _)), fun b hb => by rw [hother, axis_axEnable_ne hb, hax]⟩

theorem axisPower_disables (hoff : d.d3.getLsbD 8 = false) : completes (.axisPower d) s (fun t =>
    Completed 0x36 d .queued (s.jrn.head + 1) 0 0 s t ∧ (t.axis (axNum d)).stage = false ∧
    (t.axis (axNum d)).st = .off ∧ (t.axis (axNum d)).x = (s.axis (axNum d)).x ∧ ∀ b, b ≠ axNum d → t.axis b = s.axis b) := by
  have hd := decAxisPower_off (s := s.fetched d) hs hf ha hown hstands hoff
  have hax := axis_acceptRun 0x36 d .queued 0 0 (s.fetched d)
  generalize hu : acceptRun 0x36 d .queued 0 0 (s.fetched d) = u at hd hax
  have hdis := axDisable_disables (s := u) ha .superseded 0
  refine completes_of_axisWork rfl ht hd (by rw [hu, unpowerOne, posted_axMod, posted_axDisable]) fun t hother hc => ?_
  rw [hother, unpowerOne, axis_axMod_same _ ha]
  exact ⟨hc, hdis.stage, rfl, hdis.x.trans (congrArg Axis.x (hax _)), fun b hb => by
    rw [hother, unpowerOne, axis_axMod_ne hb, axis_axDisable_ne hb, hax]; rfl⟩

end

/-- Settles O23, command by command. -/
theorem axisStopAndPowerComplete : Obligations.AxisStopAndPowerComplete :=
  ⟨fun _ _ ht hs hf ha hown => ⟨axisStop_ramps hs hf ha hown ht, fun hmoves _ => axisStop_suspends hs hf ha hown ht hmoves⟩,
    fun _ _ ht hs hf ha hown hstands => ⟨axisPower_enables hs hf ha hown hstands ht, axisPower_disables hs hf ha hown hstands ht⟩⟩

end Sys2Proof.Machine
end

section
/-! The profile tick (R284, R287, R289, R311): what it gives each axis, one after the other. -/

namespace Sys2Proof.Machine

theorem pn_of_prm {s t : State} (h : t.prm = s.prm) (p : Nat) : t.pn p = s.pn p := by
  have hlive (u : State) : u.pn p = ({ State.reset with prm := u.prm } : State).pn p := rfl
  rw [hlive, h, ← hlive]

/-! ### Operations of one axis -/

/-- What leaves the other axes and the parameters alone, and gives axis `a` a property. -/
structure ActsOn (a : Nat) (P : Axis → Prop) (s t : State) : Prop where
  axis : P (t.axis a)
  others : ∀ b, b ≠ a → t.axis b = s.axis b
  prm : t.prm = s.prm

theorem actsOn_axMod {a : Nat} (ha : a < 5) {P : Axis → Prop} {f : Axis → Axis} {s : State} (h : P (f (s.axis a))) : ActsOn a P s (axMod a f s) :=
  ⟨(axis_axMod_same s ha f).symm ▸ h, fun _ hb => axis_axMod_ne hb f s, rfl⟩

theorem ActsOn.trans {a : Nat} {P Q : Axis → Prop} {s t u : State} (h : ActsOn a P s t) (h' : ActsOn a Q t u) : ActsOn a Q s u :=
  ⟨h'.axis, fun b hb => (h'.others b hb).trans (h.others b hb), h'.prm.trans h.prm⟩

theorem ActsOn.mono {a : Nat} {P Q : Axis → Prop} {s t : State} (h : ActsOn a P s t) (hPQ : ∀ y, P y → Q y) : ActsOn a Q s t :=
  { h with axis := hPQ _ h.axis }

/-- Axes taken one after the other each find themselves as they stood, and keep what they are given. -/
theorem foldl_actsOn {P : Nat → Axis → Prop} {f : State → Nat → State} (l : List Nat) (s : State) (hnodup : l.Nodup)
    (hstep : ∀ a ∈ l, ∀ u : State, u.axis a = s.axis a → u.prm = s.prm → ActsOn a (P a) u (f u a)) :
    (∀ a ∈ l, P a ((l.foldl f s).axis a)) ∧ ∀ b, b ∉ l → (l.foldl f s).axis b = s.axis b := by
  induction l generalizing s with
  | nil => exact ⟨fun a h => absurd h List.not_mem_nil, fun _ _ => rfl⟩
  | cons c l ih =>
    obtain ⟨hc, hl⟩ := List.nodup_cons.mp hnodup
    have hfirst := hstep c List.mem_cons_self s rfl rfl
    have hne {a : Nat} (ha : a ∈ l) : a ≠ c := fun h => hc (h ▸ ha)
    obtain ⟨hgiven, hothers⟩ := ih (f s c) hl fun a ha u hax hprm =>
      hstep a (List.mem_cons_of_mem c ha) u (hax.trans (hfirst.others a (hne ha))) (hprm.trans hfirst.prm)
    refine ⟨fun a ha => ?_, fun b hb => ?_⟩
    · rcases List.mem_cons.mp ha with rfl | ha
      · rw [List.foldl_cons, hothers a hc]; exact hfirst.axis
      · exact hgiven a ha
    · obtain ⟨hbc, hbl⟩ := not_or.mp (fun h => hb (List.mem_cons.mpr h))
      exact (hothers b hbl).trans (hfirst.others b hbc)

/-! ### What the ticks of an axis leave of its motion -/

/-- What the profile generator moves: state, position, speed, and the ticks of standstill. -/
structure Motion where
  st : AxisState
  x : Int
  v : Int
  still : Nat

/-- The motion of an axis. -/
def Axis.motion (y : Axis) : Motion := ⟨y.st, y.x, y.v, y.still⟩

theorem motion_devTick (a : Nat) (s : State) (b : Nat) : ((devTick a s).axis b).motion = (s.axis b).motion := by
  unfold devTick
  exact iteInduction (motive := fun u : State => (u.axis b).motion = (s.axis b).motion)
    (fun _ => view_axMod Axis.motion (by exact fun _ => rfl) a s b) (fun _ => view_axMod Axis.motion (by exact fun _ => rfl) a s b)

theorem axis_drTick (k : Nat) (s : State) (b : Nat) : (drTick k s).axis b = s.axis b := by
  unfold drTick
  dsimp only
  split <;> rfl

theorem axis_encmTick (s : State) (b : Nat) : (encmTick s).axis b = s.axis b := by
  unfold encmTick
  dsimp only
  split <;> rfl

theorem motion_enterApproach (s : State) (b : Nat) : ((enterApproach s).axis b).motion = (s.axis b).motion :=
  view_axMod Axis.motion (f := fun x => { x with latchArmed := true, latch := none, edge := none }) (fun _ => rfl) 0 _ b

theorem motion_tripTick (s : State) (b : Nat) : ((tripTick s).axis b).motion = (s.axis b).motion := by
  unfold tripTick
  split
  · rfl
  · dsimp only
    have hretuned (n : Nat) (c : Prop) [Decidable c] :
        ((if c then axMod 0 (fun y => { y with move := y.move.map fun m => { m with speed := n } }) s else s).axis b).motion = (s.axis b).motion := by
      split
      · exact view_axMod Axis.motion (by exact fun _ => rfl) 0 s b
      · rfl
    split
    · exact (motion_enterApproach _ b).trans (hretuned _ _)
    · exact hretuned _ _

theorem exec_profileTick (s : State) : exec .profileTick s = doneIf s.motionUp profileTick s := rfl

/-- With no axis geared the axes are taken in their order, and what follows leaves their motion. -/
theorem motion_profileTick {s : State} (h : ∀ b < 5, (s.axis b).st ≠ .geared) (b : Nat) :
    ((profileTick s).axis b).motion = (((List.range 5).foldl (fun u a => axMove a u) s).axis b).motion := by
  have hplain : (List.range 5).filter (fun a => (s.axis a).st != .geared) = List.range 5 :=
    List.filter_eq_self.mpr fun a ha => bne_iff_ne.mpr (h a (List.mem_range.mp ha))
  have hgeared : (List.range 5).filter (fun a => (s.axis a).st = .geared) = [] :=
    List.filter_eq_nil_iff.mpr fun a ha => by simpa using h a (List.mem_range.mp ha)
  have hdev (u : State) : (((List.range 5).foldl (fun u a => devTick a u) u).axis b).motion = (u.axis b).motion :=
    foldl_keeps (fun u : State => (u.axis b).motion) _ (fun u a => motion_devTick a u b) _ u
  have hdoors (u : State) : (((List.range 2).foldl (fun u k => drTick k u) u).axis b).motion = (u.axis b).motion :=
    foldl_keeps (fun u : State => (u.axis b).motion) _ (fun u k => congrArg Axis.motion (axis_drTick k u b)) _ u
  unfold profileTick
  dsimp only
  rw [hplain, hgeared, List.append_nil]
  split
  · rw [motion_tripTick, hdoors, hdev, axis_encmTick]
  · rw [hdoors, hdev, axis_encmTick]

/-! ### One axis's motion in a tick -/

theorem startNext_none {s : State} {a : Nat} (h : (s.axis a).next = none) : startNext a s = s := by
  simp only [startNext, h]

/-- A deceleration that waited changes the move alone (R287). -/
theorem dueDec_eq (emg : Nat) (y : Axis) : ∃ m, y.dueDec emg = { y with move := m } := by
  unfold Axis.dueDec
  split
  · exact ⟨y.move, rfl⟩
  · split
    · exact ⟨y.move, rfl⟩
    · exact ⟨_, rfl⟩

theorem dueDec_none {emg : Nat} {y : Axis} {m : Move} (hm : y.move = some m) (hdue : m.decDue = none) : y.dueDec emg = y := by
  simp only [Axis.dueDec, hm, hdue]

section
variable {s : State} {a : Nat} (ha : a < 5)
include ha

/-- An axis that is to begin no motion and is off, at standstill or idle counts one more tick of standstill (R311). -/
theorem axMove_counts (hnext : (s.axis a).next = none) (hst : (s.axis a).st = .off ∨ (s.axis a).st = .standstill ∨ (s.axis a).st = .idleOff) :
    ActsOn a (fun y => y.motion = { (s.axis a).motion with still := (s.axis a).still + 1 }) s (axMove a s) := by
  obtain ⟨m, hm⟩ := dueDec_eq (s.pn (axP a 0x0C)) (s.axis a)
  have hdue := actsOn_axMod ha (P := (· = { s.axis a with move := m })) hm
  have hcount : axMove a s = axMod a (fun y => { y with still := y.still + 1 }) (axMod a (Axis.dueDec (s.pn (axP a 0x0C))) s) := by
    rw [axMove, startNext_none hnext]
    dsimp only
    rw [hdue.axis]
    rcases hst with h | h | h <;> rw [h]
  rw [hcount]
  exact hdue.trans (actsOn_axMod ha (by rw [hdue.axis]; rfl))

/-- An axis comes to standstill where it is (R289). -/
theorem axStands_rests : ActsOn a (fun y => y.x = (s.axis a).x ∧ y.v = 0) s (axStands a s) := by
  have hstands : ∃ f : Axis → Axis, (axStands a s).rest = (axMod a f s).rest ∧ ∀ y, (f y).x = y.x ∧ (f y).v = 0 := by
    unfold axStands
    dsimp only
    split
    all_goals
      refine ⟨_, (rest_finishAll _ _ _ _ _).trans (rest_finishAll _ _ _ _ _), fun y => ?_⟩
      split <;> exact ⟨rfl, rfl⟩
  obtain ⟨f, hrest, hf⟩ := hstands
  have hact := actsOn_axMod ha (P := fun y => y.x = (s.axis a).x ∧ y.v = 0) (f := f) (hf (s.axis a))
  exact ⟨axis_of_rest hrest a ▸ hact.axis, fun b hb => (axis_of_rest hrest b).trans (hact.others b hb),
    (congrArg State.prm hrest :).trans hact.prm⟩

end

/-- No owner but the host follows axes 3 and 4. -/
theorem ownerStands_of_free {a : Nat} (h : a = 3 ∨ a = 4) (s : State) : ownerStands a s = s := by
  rcases h with rfl | rfl <;> rfl

/-- The generator's next position and speed, whether or not the axis comes to standstill with them. -/
theorem tick_reaches {s : State} {a : Nat} (hfree : a = 3 ∨ a = 4) {y : Axis} {c : Prop} [Decidable c] (hc : c → y.v = 0) :
    ActsOn a (fun z => z.x = y.x ∧ z.v = y.v) s
      (if c then ownerStands a (axStands a (axMod a (fun _ => y) s)) else axMod a (fun _ => y) s) := by
  have ha : a < 5 := by omega
  have hset := actsOn_axMod ha (P := (· = y)) (f := fun _ => y) (s := s) rfl
  split
  · next h =>
    rw [ownerStands_of_free hfree]
    refine hset.trans ((axStands_rests ha).mono fun z ⟨hx, hv⟩ => ?_)
    rw [hset.axis] at hx
    exact ⟨hx, hv.trans (hc h).symm⟩
  · exact hset.mono fun z hz => by rw [hz]; exact ⟨rfl, rfl⟩

/-- One tick of the stop that an axis makes: on the emergency ramp, or on the deceleration and the jerk with which it began (log 105). -/
def State.stopped (s : State) (a : Nat) (y : Axis) : Axis :=
  if y.emg then stopTick (s.pn (axP a 0x0C)) 0 y else stopTick y.stopDec y.stopJerk y

theorem stopped_withMove (s : State) (a : Nat) (y : Axis) (m : Option Move) :
    (s.stopped a { y with move := m }).x = (s.stopped a y).x ∧ (s.stopped a { y with move := m }).v = (s.stopped a y).v := by
  unfold State.stopped
  cases y.emg <;> exact ⟨rfl, rfl⟩

section
variable {s : State} {a : Nat} (hfree : a = 3 ∨ a = 4) (hnext : (s.axis a).next = none)
include hfree hnext

/-- A position move (R284). -/
theorem axMove_moves {m : Move} {g : Int} (hst : (s.axis a).st = .moving) (hm : (s.axis a).move = some m) (hg : m.target = some g)
    (hdue : m.decDue = none) :
    ActsOn a (fun y => y.x = (posTick (g * xUnit) m (s.axis a)).x ∧ y.v = (posTick (g * xUnit) m (s.axis a)).v) s (axMove a s) := by
  have hfirst := actsOn_axMod (a := a) (by omega) (P := (· = s.axis a)) (dueDec_none (emg := s.pn (axP a 0x0C)) hm hdue)
  rw [axMove, startNext_none hnext]
  dsimp only
  rw [hfirst.axis, hst, hm]
  dsimp only
  rw [hg]
  refine hfirst.trans (tick_reaches hfree fun h => ?_)
  obtain ⟨hv, -⟩ := (Bool.and_eq_true _ _).mp h
  exact of_decide_eq_true hv

/-- A stop (R289). -/
theorem axMove_stops (hst : (s.axis a).st = .stopping) :
    ActsOn a (fun y => y.x = (s.stopped a (s.axis a)).x ∧ y.v = (s.stopped a (s.axis a)).v) s (axMove a s) := by
  obtain ⟨m, hm⟩ := dueDec_eq (s.pn (axP a 0x0C)) (s.axis a)
  have hfirst := actsOn_axMod (a := a) (by omega) (P := (· = { s.axis a with move := m })) hm
  obtain ⟨hx, hv⟩ := stopped_withMove s a (s.axis a) m
  rw [axMove, startNext_none hnext]
  dsimp only
  rw [hfirst.axis, hst, ← hx, ← hv]
  exact hfirst.trans (tick_reaches hfree (y := s.stopped a { s.axis a with move := m }) id)

end

/-! ### The tick -/

/-- Each axis of a tick with no gearing ends with the motion that its own step gives it. -/
theorem profileTick_moves {s : State} (hup : s.motionUp = true) (hplain : ∀ b < 5, (s.axis b).st ≠ .geared) {P : Nat → Motion → Prop}
    (hstep : ∀ b < 5, ∀ u : State, u.axis b = s.axis b → u.prm = s.prm → ActsOn b (fun y => P b y.motion) u (axMove b u)) {Q : State → Prop}
    (hQ : ∀ t : State, (∀ b < 5, P b (t.axis b).motion) → Q t) : completes .profileTick s Q := by
  refine completes_of_doneIf_quiet (exec_profileTick s) hup rfl fun t hq => hQ t fun b hb => ?_
  obtain ⟨hgiven, -⟩ := foldl_actsOn (P := fun b y => P b y.motion) (f := fun u a => axMove a u) (List.range 5) s List.nodup_range
    fun b hb => hstep b (List.mem_range.mp hb)
  rw [axis_of_quiet hq, motion_profileTick hplain]
  exact hgiven b (List.mem_range.mpr hb)

/-- An axis is to begin no motion, and is off, at standstill or idle. -/
def Axis.rests (y : Axis) : Prop := y.next = none ∧ (y.st = .off ∨ y.st = .standstill ∨ y.st = .idleOff)

theorem not_geared_of_rests {y : Axis} (h : y.rests) : y.st ≠ .geared := by
  rcases h.2 with h | h | h <;> rw [h] <;> decide

/-- The motion of an axis that counts one more tick of standstill. -/
def Axis.counted (y : Axis) : Motion := { y.motion with still := y.still + 1 }

theorem profileTick_counts {s : State} (hup : s.motionUp = true) (hrest : ∀ b < 5, (s.axis b).rests) :
    completes .profileTick s (fun t => ∀ b < 5, (t.axis b).motion = (s.axis b).counted) := by
  refine profileTick_moves hup (fun b hb => not_geared_of_rests (hrest b hb)) (P := fun b z => z = (s.axis b).counted) (fun b hb u hax _ => ?_) fun _ h => h
  obtain ⟨hnext, hst⟩ := hrest b hb
  rw [← hax] at hnext hst ⊢
  exact axMove_counts hb hnext hst

section
variable {s : State} {a : Nat} (hup : s.motionUp = true) (hfree : a = 3 ∨ a = 4) (hnext : (s.axis a).next = none)
  (hrest : ∀ b < 5, b ≠ a → (s.axis b).rests)
include hup hfree hrest

/-- One axis in motion: its own step moves it, and the others count. -/
theorem profileTick_movesOne (hplain : (s.axis a).st ≠ .geared) {x v : Int}
    (hstep : ∀ u : State, u.axis a = s.axis a → u.prm = s.prm → ActsOn a (fun y => y.x = x ∧ y.v = v) u (axMove a u)) :
    completes .profileTick s (fun t => (t.axis a).x = x ∧ (t.axis a).v = v ∧ ∀ b < 5, b ≠ a → (t.axis b).motion = (s.axis b).counted) := by
  refine profileTick_moves hup (P := fun b z => if b = a then z.x = x ∧ z.v = v else z = (s.axis b).counted) (fun b hb => ?_) (fun b hb u hax hprm => ?_)
    fun t h => ?_
  · by_cases hba : b = a
    · rw [hba]; exact hplain
    · exact not_geared_of_rests (hrest b hb hba)
  · by_cases hba : b = a
    · subst hba
      simp only [if_true]
      exact hstep u hax hprm
    · obtain ⟨hnext, hst⟩ := hrest b hb hba
      simp only [hba, if_false]
      rw [← hax] at hnext hst ⊢
      exact axMove_counts hb hnext hst
  · obtain ⟨hx, hv⟩ := (if_pos rfl).mp (h a (by omega))
    exact ⟨hx, hv, fun b hb hba => (if_neg hba).mp (h b hb)⟩

include hnext

theorem profileTick_stops (hst : (s.axis a).st = .stopping) : completes .profileTick s (fun t =>
    (t.axis a).x = (s.stopped a (s.axis a)).x ∧ (t.axis a).v = (s.stopped a (s.axis a)).v ∧
    ∀ b < 5, b ≠ a → (t.axis b).motion = (s.axis b).counted) := by
  refine profileTick_movesOne hup hfree hrest (by rw [hst]; decide) fun u hax hprm => ?_
  have hstop : u.stopped a (u.axis a) = s.stopped a (s.axis a) := by rw [State.stopped, pn_of_prm hprm, hax]; rfl
  exact hstop ▸ axMove_stops hfree (hax.symm ▸ hnext) (hax.symm ▸ hst)

theorem profileTick_positions {m : Move} {g : Int} (hst : (s.axis a).st = .moving) (hm : (s.axis a).move = some m) (hg : m.target = some g)
    (hdue : m.decDue = none) : completes .profileTick s (fun t =>
      (t.axis a).x = (posTick (g * xUnit) m (s.axis a)).x ∧ (t.axis a).v = (posTick (g * xUnit) m (s.axis a)).v ∧
      ∀ b < 5, b ≠ a → (t.axis b).motion = (s.axis b).counted) := by
  refine profileTick_movesOne hup hfree hrest (by rw [hst]; decide) fun u hax _ => ?_
  rw [← hax] at hnext hst hm ⊢
  exact axMove_moves hfree hnext hst hm hg hdue

end

/-- Settles O40: the axes are taken one after the other, and what follows in the tick leaves their motion. Positions and speeds are the
generator's (log 23); an ordinary stop takes its deceleration and jerk as it begins (log 105). -/
theorem profileTickMoves : Obligations.ProfileTickMoves := by
  refine ⟨fun s a hup hfree hnext hrest => ⟨fun m g hst hm hg hdue => ?_, fun hst hemg => ?_, fun hst hemg => ?_⟩, fun s hup hrest => ?_⟩
  · obtain ⟨t, ht, hx, hv, hothers⟩ := profileTick_positions hup hfree hnext hrest hst hm hg hdue
    exact ⟨t, ht, hx, hv, fun b hb hba => ⟨congrArg Motion.x (hothers b hb hba), congrArg Motion.still (hothers b hb hba)⟩⟩
  · obtain ⟨t, ht, hx, hv, -⟩ := profileTick_stops hup hfree hnext hrest hst
    rw [State.stopped, if_pos hemg] at hx hv
    exact ⟨t, ht, hx, hv⟩
  · obtain ⟨t, ht, hx, hv, -⟩ := profileTick_stops hup hfree hnext hrest hst
    rw [State.stopped, if_neg (by rw [hemg]; decide)] at hx hv
    exact ⟨t, ht, hx, hv⟩
  · obtain ⟨t, ht, hcounted⟩ := profileTick_counts hup hrest
    exact ⟨t, ht, fun b hb => ⟨congrArg Motion.x (hcounted b hb), congrArg Motion.st (hcounted b hb), congrArg Motion.still (hcounted b hb)⟩⟩

end Sys2Proof.Machine
end

section
/-! What an axis keeps while its owner faults (R303, R315, R361, R373): properties that no stop and no disabling takes. -/

namespace Sys2Proof.Machine

/-! ### The axes under the operations of the car and of the doors -/

@[simp] theorem mot_driveOut (c : Option Nat) (on : Bool) (s : State) : (driveOut c on s).mot = s.mot := by cases c <;> rfl

@[simp] theorem mot_brakeSet (on : Bool) (s : State) : (brakeSet on s).mot = s.mot := mot_driveOut _ _ _

@[simp] theorem mot_endCalls (st : Status) (e : Byte) (s : State) : (endCalls st e s).mot = s.mot := (congrArg State.mot (rest_endCalls st e s) :)

@[simp] theorem mot_carLost (s : State) : (carLost s).mot = s.mot := mot_endCalls _ _ _

@[simp] theorem mot_enterHold (c : Nat) (s : State) : (enterHold c s).mot = s.mot := (congrArg State.mot (rest_enterHold c s) :)

@[simp] theorem mot_toIdle (s : State) : (toIdle s).mot = s.mot := by
  unfold toIdle
  split
  · exact mot_enterHold _ s
  · rfl

@[simp] theorem mot_lockOut (k : Nat) (on : Bool) (s : State) : (lockOut k on s).mot = s.mot := mot_driveOut _ _ _

@[simp] theorem mot_buzz (k : Nat) (on : Bool) (s : State) : (buzz k on s).mot = s.mot := mot_driveOut _ _ _

@[simp] theorem mot_endOpen (k : Nat) (st : Status) (e : Byte) (s : State) : (endOpen k st e s).mot = s.mot := mot_finishAll _ _ _ _ _

@[simp] theorem mot_endClose (k : Nat) (st : Status) (e : Byte) (s : State) : (endClose k st e s).mot = s.mot := mot_finishAll _ _ _ _ _

@[simp] theorem mot_cycleEnd (k : Nat) (ok : Bool) (s : State) : (cycleEnd k ok s).mot = s.mot := by
  simp only [cycleEnd, apply_ite State.mot, mot_toIdle, mot_enterHold, mot_finishAll]
  exact (congrArg _ (ite_self _)).trans (ite_self _)

/-! ### Lasting properties -/

/-- A property of an axis that no stop and no disabling of its stage takes from it. -/
structure Lasting (P : Axis → Prop) : Prop where
  stop : ∀ {hard : Bool} {how : Status × Byte} {y z : Axis}, Ramped hard how y z → P y → P z
  disable : ∀ {y z : Axis}, Disabled y z → P y → P z
  off : ∀ y : Axis, P y → P { y with st := .off }
  next : ∀ y : Axis, P y → P { y with next := none }

namespace Lasting
variable {P : Axis → Prop} (hP : Lasting P) {s : State} {b : Nat} (h : P (s.axis b))
include hP h

theorem kept_axStop (emg : Bool) (a : Nat) (st : Status) (e : Byte) : P ((axStop emg a st e s).axis b) := by
  cases hm : (s.axis a).moves with
  | false => rwa [axStop_of_stands hm]
  | true =>
    obtain ⟨f, hmot, hf⟩ := mot_axStop hm emg st e
    rw [axis_of_mot hmot]
    exact axis_axMod_keeps (fun y hy => hP.stop (hf y) hy) a h

theorem kept_axDisable {a : Nat} (ha : a < 5) (st : Status) (e : Byte) : P ((axDisable a st e s).axis b) := by
  by_cases hb : b = a
  · subst hb
    exact hP.disable (axDisable_disables ha st e) h
  · rwa [axis_axDisable_ne hb]

theorem kept_liftFaultEnd : P ((liftFaultEnd s).axis b) := by
  unfold liftFaultEnd
  split
  · rw [axis_of_mot (mot_carLost _)]
    have hbrake : P ((brakeSet false s).axis b) := by rwa [axis_of_mot (mot_brakeSet false s)]
    exact axis_axMod_keeps hP.off 0 (hP.kept_axDisable hbrake (by decide) .notHomed 0)
  · exact h

theorem kept_liftFault (c : Nat) : P ((liftFault c s).axis b) := by
  unfold liftFault
  split
  · exact h
  · refine hP.kept_liftFaultEnd (hP.kept_axStop ?_ true 0 .notHomed 0)
    rwa [axis_of_mot (((mot_finishAll _ _ _ _ _).trans (mot_endCalls _ _ _)).trans ((mot_raise _ _ _ _ _).trans rfl))]

theorem kept_doorFault (k c : Nat) (st : Status) (e : Byte) : P ((doorFault k c st e s).axis b) := by
  unfold doorFault
  split
  · exact h
  · have hramp (u : State) (hu : u.mot = s.mot) : P ((axMod (k + 1) (fun x => { x with next := none }) (axStop true (k + 1) .interlock 0 u)).axis b) :=
      axis_axMod_keeps hP.next (k + 1) (hP.kept_axStop (by rwa [axis_of_mot hu]) true (k + 1) .interlock 0)
    have houtputs (u : State) : (raise 0x2405 5 (w24 k) (w24 c) (buzz k false (lockOut k false u))).mot = u.mot := by
      rw [mot_raise, mot_buzz, mot_lockOut]
    dsimp only
    split
    · rw [axis_of_mot (((mot_cycleEnd _ _ _).trans (mot_endClose _ _ _ _)).trans (mot_endOpen _ _ _ _))]
      exact hramp _ ((houtputs _).trans rfl)
    · rw [axis_of_mot ((mot_endClose _ _ _ _).trans (mot_endOpen _ _ _ _))]
      exact hramp _ ((houtputs _).trans rfl)

end Lasting

theorem lasting_lost : Lasting (fun y => y.homed = false ∧ y.stall = true) where
  stop hr := fun ⟨hhomed, hstall⟩ => ⟨hr.homed.trans hhomed, hr.stall.trans hstall⟩
  disable hd := fun ⟨hhomed, hstall⟩ => ⟨by rw [hd.homed, hhomed, Bool.false_and], hd.stall.trans hstall⟩
  off _ h := h
  next _ h := h

theorem lasting_opened : Lasting (fun y => y.stage = false ∧ y.homed = false) where
  stop hr := fun ⟨hstage, hhomed⟩ => ⟨hr.stage.trans hstage, hr.homed.trans hhomed⟩
  disable hd := fun ⟨_, hhomed⟩ => ⟨hd.stage, by rw [hd.homed, hhomed, Bool.false_and]⟩
  off _ h := h
  next _ h := h

/-- An axis that no door owns has none to tell. -/
theorem doorOf_none {s : State} {a : Nat} (h : s.owner a ≠ 2) : s.doorOf a = none := by
  by_cases h1 : a = 1
  · subst h1
    cases hen : s.pb (drP 0 0) with
    | false => simp [State.doorOf, State.drEn, hen]
    | true => simp [State.owner, hen, bit] at h
  · by_cases h2 : a = 2
    · subst h2
      cases hen : s.pb (drP 1 0) with
      | false => simp [State.doorOf, State.drEn, hen]
      | true => simp [State.owner, hen, bit] at h
    · simp [State.doorOf, h1, h2]

end Sys2Proof.Machine
end

section
/-! Stalls, latches, protections, idle power-down, verification and edges (R296 to R298, R301, R303, R309 to R315, R317). -/

namespace Sys2Proof.Machine

theorem doneIf_congr {c : Bool} {f g : State → State} {s : State} (h : f s = g s) : doneIf c f s = doneIf c g s := by
  simp only [doneIf, h]

/-! ### Stalls (R303) -/

theorem index_of_quiet {s t : State} (h : t.quiet = s.quiet) (a : Nat) : t.index a = s.index a := (congrArg (fun u : State => u.index a) h :)

theorem moves_of_stopping {y : Axis} (h : y.st = .stopping) : y.moves = true := by simp [Axis.moves, h]

theorem moves_congr {y z : Axis} (hv : z.v = y.v) (hmove : z.move = y.move) (hst : z.st = y.st) : z.moves = y.moves := by
  simp only [Axis.moves, hv, hmove, hst]

theorem moves_of_homing {y : Axis} (h : y.st = .homing) : y.moves = true := by simp [Axis.moves, h]

/-- The axis as a stall finds it: not homed, the stall latched, the following of external steps suspended (log 80). -/
def stallMarked (a : Nat) (s : State) : State :=
  axMod a (fun x => { x with homed := false, stall := true, dev := 0, noVerify := false, suspended := x.st = .external }) s

/-- The owner told of the stall: the car or the door faults. -/
def stallTold (a : Nat) (s t : State) : State :=
  let t := if a = 0 && s.owner 0 = 1 then liftFault 1 t else t
  match s.doorOf a with
  | some k => if (s.dr k).st.moves then doorFault k 6 .internal 0 t else t
  | none => t

/-- The stop on the emergency ramp, or for AX_STALL_ACT 1 at once. -/
def stallRamp (a act : Nat) (t : State) : State :=
  if act = 1 then axMod a (fun x => { x with v := 0, a := 0 }) (axStop true a .notHomed 0 t) else axStop true a .notHomed 0 t

/-- The action that AX_STALL_ACT asks for: 2 disables the stage, 1 and 0 stop it. -/
def stallEnd (a act : Nat) (t : State) : State :=
  if act = 2 then axMod a (fun x => { x with stall := true }) (axDisable a .notHomed 0 t)
  else if ((stallRamp a act t).axis a).moves then stallRamp a act t
  else axMod a (fun x => ({ x with stepTarget := x.word } : Axis).takeRef) (stallRamp a act t)

theorem stallAct_eq (a : Nat) (s : State) : stallAct a s = stallEnd a (s.pn (axP a 0x1D)) (stallTold a s (stallMarked a s)) := rfl

theorem stallTold_keeps {P : Axis → Prop} (hP : Lasting P) {s t : State} {a b : Nat} (h : P (t.axis b)) : P ((stallTold a s t).axis b) := by
  unfold stallTold
  have hcar : P ((if (a = 0 && s.owner 0 = 1) = true then liftFault 1 t else t).axis b) := by
    split
    · exact hP.kept_liftFault h 1
    · exact h
  dsimp only
  split
  · split
    · exact hP.kept_doorFault hcar _ 6 .internal 0
    · exact hcar
  · exact hcar

/-- The host has no car and no door to fault. -/
theorem car_untold {s : State} {a : Nat} (h : s.owner a = 0) : (decide (a = 0) && decide (s.owner 0 = 1)) = false := by
  by_cases ha : a = 0
  · subst ha; simp [h]
  · simp [ha]

theorem doorOf_of_host {s : State} {a : Nat} (h : s.owner a = 0) : s.doorOf a = none := doorOf_none (by rw [h]; decide)

theorem stallTold_of_host {s : State} {a : Nat} (h : s.owner a = 0) (t : State) : stallTold a s t = t := by
  simp only [stallTold, car_untold h, doorOf_of_host h, Bool.false_eq_true, if_false]

section
variable {t : State} {a act : Nat} (ha : a < 5)
include ha

theorem stallEnd_disables (h : (t.axis a).homed = false) : ((stallEnd a 2 t).axis a).stage = false ∧ ((stallEnd a 2 t).axis a).homed = false ∧
    ((stallEnd a 2 t).axis a).stall = true := by
  have hd := axDisable_disables (s := t) ha .notHomed 0
  rw [stallEnd, if_pos rfl, axis_axMod_same _ ha]
  exact ⟨hd.stage, by rw [hd.homed, h, Bool.false_and], rfl⟩

/-- What a stop gives an axis, and no speed takes from it, a stall's stop gives it. -/
theorem stallRamp_gives {P : Axis → Prop} (hP : ∀ y : Axis, P y → P { y with v := 0, a := 0 }) (h : P ((axStop true a .notHomed 0 t).axis a)) :
    P ((stallRamp a act t).axis a) := by
  unfold stallRamp
  split
  · rw [axis_axMod_same _ ha]; exact hP _ h
  · exact h

theorem stallEnd_loses (hact : act ≠ 2) (h : (t.axis a).homed = false ∧ (t.axis a).stall = true) :
    ((stallEnd a act t).axis a).homed = false ∧ ((stallEnd a act t).axis a).stall = true := by
  have hramp := stallRamp_gives (act := act) (P := fun y => y.homed = false ∧ y.stall = true) ha (fun _ h => h)
    (lasting_lost.kept_axStop h true a .notHomed 0)
  rw [stallEnd, if_neg hact]
  split
  · exact hramp
  · rw [axis_axMod_same _ ha]; exact hramp

theorem stallEnd_ramps (hact : act ≠ 2) (h : (t.axis a).moves = true) : ((stallEnd a act t).axis a).st = .stopping := by
  have hst := stallRamp_gives (act := act) (P := fun y => y.st = .stopping) ha (fun _ h => h) (axStop_ramps ha h true .notHomed 0).st
  rw [stallEnd, if_neg hact, if_pos (moves_of_stopping hst)]
  exact hst

end

theorem exec_axStall (a : Fin 5) (s : State) : exec (.axStall a) s = doneIf (s.motionUp && (s.axis a.val).stage && s.encOn a.val &&
    s.pn (axP a.val 0x1B) != 0 && s.pn (axP a.val 0x1C) ≤ (s.axis a.val).dev) (fun s => stallAct a.val (raise (axCode 0x1010 a.val) 5
      (w24i (s.deviation a.val (s.axis a.val).refE (s.axis a.val).refP)) (w24i (s.axis a.val).pos) s)) s := by
  unfold exec execAxStall
  exact doneIf_congr rfl

theorem axStall_loses {s : State} {a : Fin 5} (hup : s.motionUp = true) (hstage : (s.axis a.val).stage = true) (henc : s.encOn a.val = true)
    (hwin : s.pn (axP a.val 0x1B) ≠ 0) (hdev : s.pn (axP a.val 0x1C) ≤ (s.axis a.val).dev) :
    completes (.axStall a) s (fun t => (t.axis a.val).homed = false ∧ (t.axis a.val).stall = true ∧
      (s.pn (axP a.val 0x1D) = 2 → (t.axis a.val).stage = false) ∧
      (s.pn (axP a.val 0x1D) ≠ 2 → s.owner a.val = 0 → (s.axis a.val).moves = true → (t.axis a.val).st = .stopping)) := by
  refine completes_of_doneIf_quiet (exec_axStall a s) (by rw [hup, hstage, henc, bne_iff_ne.mpr hwin, decide_eq_true hdev]; rfl) rfl fun t hq => ?_
  rw [axis_of_quiet hq, stallAct_eq]
  have hraise := quiet_raise (axCode 0x1010 a.val) 5 (w24i (s.deviation a.val (s.axis a.val).refE (s.axis a.val).refP)) (w24i (s.axis a.val).pos) s
  generalize raise (axCode 0x1010 a.val) 5 _ _ s = u at hraise
  have hact : u.pn (axP a.val 0x1D) = s.pn (axP a.val 0x1D) := (congrArg (fun w : State => w.pn (axP a.val 0x1D)) hraise :)
  have hown : u.owner a.val = s.owner a.val := (congrArg (fun w : State => w.owner a.val) hraise :)
  have hmark : (stallMarked a.val u).axis a.val = _ := axis_axMod_same u a.isLt _
  rw [axis_of_quiet hraise] at hmark
  have hlost := stallTold_keeps lasting_lost (s := u) (t := stallMarked a.val u) (a := a.val) (b := a.val) (by rw [hmark]; exact ⟨rfl, rfl⟩)
  rw [hact]
  by_cases h : s.pn (axP a.val 0x1D) = 2
  · obtain ⟨hoff, hhomed, hstall⟩ := stallEnd_disables a.isLt hlost.1
    rw [h]
    exact ⟨hhomed, hstall, fun _ => hoff, fun hne => absurd rfl hne⟩
  · obtain ⟨hhomed, hstall⟩ := stallEnd_loses a.isLt h hlost
    refine ⟨hhomed, hstall, fun h2 => absurd h2 h, fun _ hhost hmoves => stallEnd_ramps a.isLt h ?_⟩
    rw [stallTold_of_host (hown.trans hhost), hmark]
    exact hmoves

/-! ### Latches (R309, R310) -/

/-- The latch holds a point, and is armed no more. -/
def latchHolds (a : Nat) (p : W24 × W24) (s : State) : State := axMod a (fun y => { y with latch := some p, latchArmed := false, edge := none }) s

/-- What the point that a latch has taken starts. -/
def latchTaken (a : Nat) (p : W24 × W24) (s : State) : State :=
  if (s.axis a).st = .homing then homeLatched a p.1 (latchHolds a p s)
  else match s.doorOf a with
    | some k => if (s.dr k).recovery then doorLatched k p.1 (latchHolds a p s) else latchHolds a p s
    | none => latchHolds a p s

theorem exec_axLatch (a : Fin 5) (us : Fin 50) (ns : Fin 1000) (s : State) : exec (.axLatch a us ns) s =
    doneIf (s.motionUp && (s.axis a.val).latchArmed && (s.latchNow a.val (1000 * us.val + ns.val)).isSome)
      (latchTaken a.val ((s.latchNow a.val (1000 * us.val + ns.val)).getD (0, 0))) s := by
  unfold exec execAxLatch
  exact doneIf_congr rfl

/-- An armed latch takes the point that its edge gives. -/
theorem axLatch_takes {s : State} {a : Fin 5} {us : Fin 50} {ns : Fin 1000} {p : W24 × W24} (hup : s.motionUp = true)
    (harmed : (s.axis a.val).latchArmed = true) (hp : s.latchNow a.val (1000 * us.val + ns.val) = some p) {P : State → Prop}
    (hP : ∀ t : State, t.quiet = (latchTaken a.val p s).quiet → P t) : completes (.axLatch a us ns) s P :=
  completes_of_doneIf_quiet (exec_axLatch a us ns s) (by rw [hup, harmed, hp]; rfl) (by rw [hp]; rfl) hP

/-- The index is interpolated into the tick, rounded down (log 114). -/
theorem latchNow_index {s : State} {a : Nat} (hst : (s.axis a).st = .homing) (hsrc : s.pn (axP a 0x28) = 1) (n : Nat) :
    s.latchNow a n = some (w24i (((s.axis a).x + 2 * (s.axis a).v * (n : Int) / 50000) / xUnit), (s.axis a).enc) := by
  simp only [State.latchNow, State.latchIndex, hst, hsrc, decide_true, Bool.and_self, if_true]

theorem latchNow_edge {s : State} {a : Nat} (h : (s.axis a).st ≠ .homing ∨ s.pn (axP a 0x28) ≠ 1) (n : Nat) : s.latchNow a n = (s.axis a).edge := by
  have hindex : s.latchIndex a = false := by
    rcases h with h | h <;> simp [State.latchIndex, h]
  simp only [State.latchNow, hindex, Bool.false_eq_true, if_false]

theorem latchTaken_holds {s : State} {a : Nat} {p : W24 × W24} (hst : (s.axis a).st ≠ .homing) (hown : s.owner a ≠ 2) :
    latchTaken a p s = latchHolds a p s := by
  simp only [latchTaken, hst, doorOf_none hown, if_false]

theorem indexOf_congr {y z : Axis} (hx : y.x = z.x) (hk : y.k = z.k) (s : State) (a : Nat) : s.indexOf a y = s.indexOf a z := by
  simp only [State.indexOf, Axis.pos, hx, hk]

/-- The axis of a home search at its latched point (R310). -/
def State.found (s : State) (a : Nat) (pos : W24) (y : Axis) : Axis :=
  ({ s.shiftPos a (s.pz (axP a 0x2C) - pos.int) y with homed := true, noVerify := false } : Axis).takeRef

theorem moves_found (s : State) (a : Nat) (pos : W24) (y : Axis) : (s.found a pos y).moves = y.moves := moves_congr rfl rfl rfl

theorem prm_axStop (emg : Bool) (a : Nat) (st : Status) (e : Byte) (s : State) : (axStop emg a st e s).prm = s.prm := by
  dsimp only [axStop]
  split
  · rfl
  · exact (congrArg State.prm (rest_finishAll _ _ _ _ _) :)

/-- A found home: the position redefined, the axis homed and on its ramp, its index as it was. -/
theorem homeLatched_homes {s : State} {a : Nat} (ha : a < 5) (hmoves : (s.axis a).moves = true) (pos : W24) :
    Ramped false (.ok, 0) (s.found a pos (s.axis a)) ((homeLatched a pos s).axis a) ∧ (homeLatched a pos s).index a = s.index a := by
  have hraise : (homeLatched a pos s).quiet = (axStop false a .ok 0 (axMod a (s.found a pos) s)).quiet := quiet_raise _ _ _ _ _
  have hfound := axis_axMod_same s ha (s.found a pos)
  have hramp := axStop_ramps (s := axMod a (s.found a pos) s) ha (by rw [hfound, moves_found]; exact hmoves) false .ok 0
  have hprm : (homeLatched a pos s).prm = s.prm := (prm_of_rest (rest_of_quiet hraise)).trans (prm_axStop _ _ _ _ _)
  rw [hfound, ← axis_of_quiet hraise] at hramp
  refine ⟨hramp, ?_⟩
  rw [index_of_prm hprm, indexOf_congr hramp.x hramp.k]
  exact indexOf_shiftPos s a _ (s.axis a)

theorem axLatch_homes {s : State} {a : Fin 5} {us : Fin 50} {ns : Fin 1000} {p : W24 × W24} (hup : s.motionUp = true)
    (harmed : (s.axis a.val).latchArmed = true) (hst : (s.axis a.val).st = .homing) (hp : s.latchNow a.val (1000 * us.val + ns.val) = some p) :
    completes (.axLatch a us ns) s (fun t => (t.axis a.val).homed = true ∧ (t.axis a.val).latch = some p ∧ (t.axis a.val).latchArmed = false ∧
      (t.axis a.val).st = .stopping ∧ (t.axis a.val).x = wrapX ((s.axis a.val).x + (s.pz (axP a.val 0x2C) - p.1.int) * xUnit) ∧
      t.index a.val = s.index a.val) := by
  refine axLatch_takes hup harmed hp fun t hq => ?_
  rw [latchTaken, if_pos hst] at hq
  have hheld : (latchHolds a.val p s).axis a.val = { s.axis a.val with latch := some p, latchArmed := false, edge := none } :=
    axis_axMod_same s a.isLt _
  have hhoming : ((latchHolds a.val p s).axis a.val).st = .homing := by rw [hheld]; exact hst
  obtain ⟨hramp, hindex⟩ := homeLatched_homes a.isLt (moves_of_homing hhoming) p.1
  rw [hheld, ← axis_of_quiet hq] at hramp
  refine ⟨hramp.homed, hramp.latch, hramp.latchArmed, hramp.st, hramp.x, ?_⟩
  calc t.index a.val = (homeLatched a.val p.1 (latchHolds a.val p s)).index a.val := index_of_quiet hq _
    _ = (latchHolds a.val p s).index a.val := hindex
    _ = s.indexOf a.val ((latchHolds a.val p s).axis a.val) := rfl
    _ = s.index a.val := by rw [hheld]; rfl

/-! ### Protections (R311, R315) -/

/-- A stage opened by an overcurrent. -/
def stageOpened (a : Nat) (bridge : Fin 2) (kind : Nat) (s : State) : State :=
  raise (axCode 0x1030 a) 5 (w24 bridge.val) (w24 kind) (axMod a (fun y => { y with st := .fault, homed := false, noVerify := false })
    (axDisable a .internal 0 (axMod a (fun y => { y with homed := false }) s)))

/-- The owner told of an opened stage: the car or the door faults. -/
def openedTold (a : Nat) (s t : State) : State :=
  if a = 0 && s.owner 0 = 1 then liftFault 2 t
  else match s.doorOf a with
    | some k => if (s.dr k).st.moves then doorFault k 6 .internal 0 t else t
    | none => t

theorem exec_axOvercurrent (a : Fin 5) (bridge : Fin 2) (kind : Nat) (s : State) : exec (.axOvercurrent a bridge kind) s =
    doneIf (s.motionUp && (s.axis a.val).stage && 1 ≤ kind && kind ≤ 3) (fun s => openedTold a.val s (stageOpened a.val bridge kind s)) s := rfl

theorem openedTold_keeps {P : Axis → Prop} (hP : Lasting P) {s t : State} {a b : Nat} (h : P (t.axis b)) : P ((openedTold a s t).axis b) := by
  unfold openedTold
  split
  · exact hP.kept_liftFault h 2
  · split
    · split
      · exact hP.kept_doorFault h _ 6 .internal 0
      · exact h
    · exact h

theorem openedTold_of_host {s : State} {a : Nat} (h : s.owner a = 0) (t : State) : openedTold a s t = t := by
  simp only [openedTold, car_untold h, doorOf_of_host h, Bool.false_eq_true, if_false]

theorem stageOpened_opens {a : Nat} (ha : a < 5) (bridge : Fin 2) (kind : Nat) (s : State) : ((stageOpened a bridge kind s).axis a).stage = false ∧
    ((stageOpened a bridge kind s).axis a).homed = false ∧ ((stageOpened a bridge kind s).axis a).st = .fault := by
  have hd := axDisable_disables (s := axMod a (fun y => { y with homed := false }) s) ha .internal 0
  rw [stageOpened, axis_of_mot (mot_raise _ _ _ _ _), axis_axMod_same _ ha]
  exact ⟨hd.stage, rfl, rfl⟩

theorem axOvercurrent_opens {s : State} {a : Fin 5} {b : Fin 2} {k : Nat} (hup : s.motionUp = true) (hstage : (s.axis a.val).stage = true)
    (hlow : 1 ≤ k) (hhigh : k ≤ 3) : completes (.axOvercurrent a b k) s (fun t => (t.axis a.val).stage = false ∧ (t.axis a.val).homed = false ∧
      (s.owner a.val = 0 → (t.axis a.val).st = .fault)) := by
  refine completes_of_doneIf_quiet (exec_axOvercurrent a b k s) (by rw [hup, hstage, decide_eq_true hlow, decide_eq_true hhigh]; rfl) rfl fun t hq => ?_
  obtain ⟨hoff, hhomed, hst⟩ := stageOpened_opens a.isLt b k s
  obtain ⟨hoff', hhomed'⟩ := openedTold_keeps lasting_opened (s := s) (a := a.val) ⟨hoff, hhomed⟩
  rw [axis_of_quiet hq]
  exact ⟨hoff', hhomed', fun hown => by rw [openedTold_of_host hown]; exact hst⟩

/-- The report of an open load changes nothing else. -/
theorem quiet_openLoad (o : Bool) (code : W16) (w : W24) (t : State) : (if o then raise code 4 w 0 t else t).quiet = t.quiet :=
  quiet_ite _ _ _ _ (quiet_raise _ _ _ _ _) rfl

theorem exec_axOpenLoad (a : Fin 5) (b : Fin 2) (o : Bool) (s : State) : exec (.axOpenLoad a b o) s =
    doneIf (s.motionUp && (s.axis a.val).stage && (if b = 0 then (s.axis a.val).openA else (s.axis a.val).openB) != o) (fun s =>
      if o then raise (axCode 0x1040 a.val) 4 (w24 b.val) 0 (axMod a.val (fun y => if b = 0 then { y with openA := o } else { y with openB := o }) s)
      else axMod a.val (fun y => if b = 0 then { y with openA := o } else { y with openB := o }) s) s := by
  unfold exec execAxOpenLoad
  exact doneIf_congr rfl

theorem axOpenLoad_changes {s : State} {a : Fin 5} {b : Fin 2} {o : Bool} (hup : s.motionUp = true) (hstage : (s.axis a.val).stage = true)
    (h : (if b = 0 then (s.axis a.val).openA else (s.axis a.val).openB) ≠ o) :
    completesAs (.axOpenLoad a b o) s (axMod a.val (fun y => if b = 0 then { y with openA := o } else { y with openB := o }) s) :=
  completesAs_of_doneIf (exec_axOpenLoad a b o s) (by rw [hup, hstage, bne_iff_ne.mpr h]; rfl) (quiet_openLoad o _ _ _)

theorem exec_holdCurrent (a : Fin 5) (s : State) : exec (.holdCurrent a) s =
    doneIf (s.motionUp && (s.axis a.val).stage && (s.axis a.val).stands) (axMod a.val (fun y => { y with hold := true })) s := rfl

theorem holdCurrent_holds {s : State} {a : Fin 5} (hup : s.motionUp = true) (hstage : (s.axis a.val).stage = true)
    (hstands : (s.axis a.val).stands = true) : completesAs (.holdCurrent a) s (axMod a.val (fun x => { x with hold := true }) s) :=
  completesAs_of_doneIf (exec_holdCurrent a s) (by rw [hup, hstage, hstands]; rfl) rfl

/-! ### The idle time (R312, R313) -/

/-- A homed axis at standstill with AX_RETAIN is retained as its stage is disabled. -/
theorem ret_axDisable {s : State} {a : Nat} (ha : a < 5) (hstage : (s.axis a).stage = true) (hstands : (s.axis a).moves = false)
    (hhomed : (s.axis a).homed = true) (hretain : s.pb (axP a 0x04) = true) (st : Status) (e : Byte) :
    vget (axDisable a st e s).keep.ret a none = some (s.retainNow a) := by
  have hret : ∃ r, (axDisable a st e s).keep.ret = vset s.keep.ret a r ∧ r = some (s.retainNow a) := by
    refine ⟨_, (congrArg (fun u : State => u.keep.ret)
      ((rest_finishAll _ _ _ _ _).trans ((rest_finishAll _ _ _ _ _).trans (rest_finishAll _ _ _ _ _))) :), if_pos ?_⟩
    rw [hstage, hstands, hhomed, hretain]; rfl
  obtain ⟨r, hset, hr⟩ := hret
  rw [hset, vget_vset_same _ ha, hr]

theorem exec_axIdleOff (a : Fin 5) (s : State) : exec (.axIdleOff a) s = doneIf (s.motionUp && (s.axis a.val).stage && (s.axis a.val).stands &&
    !(s.axis a.val).verifying && s.pn (axP a.val 0x03) != 0 && ((s.axis a.val).st = .standstill || (s.axis a.val).st = .external)) (fun s =>
      raise (axCode 0x1080 a.val) 2 (w24 (bit ((s.axis a.val).homed && s.pb (axP a.val 0x04)))) 0 (axMod a.val (fun y => { y with
        st := if ((s.axis a.val).homed && s.pb (axP a.val 0x04)) = true then .idleOff else .off
        homed := (s.axis a.val).homed && s.pb (axP a.val 0x04) }) (axDisable a.val .superseded 0 s))) s := by
  unfold exec execAxIdleOff
  exact doneIf_congr rfl

theorem axIdleOff_disables {s : State} {a : Fin 5} (hup : s.motionUp = true) (hstage : (s.axis a.val).stage = true)
    (hstands : (s.axis a.val).stands = true) (hready : (s.axis a.val).verifying = false) (htime : s.pn (axP a.val 0x03) ≠ 0)
    (hst : (s.axis a.val).st = .standstill) : completes (.axIdleOff a) s (fun t => (t.axis a.val).stage = false ∧ (t.axis a.val).x = (s.axis a.val).x ∧
      (if (s.axis a.val).homed = true ∧ s.pb (axP a.val 0x04) = true
        then (t.axis a.val).st = .idleOff ∧ (t.axis a.val).homed = true ∧ vget t.keep.ret a.val none = some (s.retainNow a.val)
        else (t.axis a.val).st = .off ∧ (t.axis a.val).homed = false)) := by
  have hd := axDisable_disables (s := s) a.isLt .superseded 0
  refine completes_of_doneIf_quiet (exec_axIdleOff a s) (by rw [hup, hstage, hstands, hready, bne_iff_ne.mpr htime, hst]; rfl) (quiet_raise _ _ _ _ _)
    fun t hq => ?_
  have hret : t.keep.ret = (axDisable a.val .superseded 0 s).keep.ret := (congrArg (fun u : State => u.keep.ret) hq :)
  rw [axis_of_quiet hq, axis_axMod_same _ a.isLt, hret]
  refine ⟨hd.stage, hd.x, ?_⟩
  by_cases hsave : (s.axis a.val).homed = true ∧ s.pb (axP a.val 0x04) = true
  · obtain ⟨hhomed, hretain⟩ := hsave
    have hmoves : (s.axis a.val).moves = false := by simpa [Axis.stands] using hstands
    rw [if_pos ⟨hhomed, hretain⟩]
    simp only [hhomed, hretain, Bool.and_self, if_true, true_and]
    exact ret_axDisable a.isLt hstage hmoves hhomed hretain .superseded 0
  · have hnone : ((s.axis a.val).homed && s.pb (axP a.val 0x04)) = false := by simpa using hsave
    rw [if_neg hsave]
    simp only [hnone, Bool.false_eq_true, if_false, and_self]

/-! ### Verification (R314) -/

/-- Whether the count agrees with the retained one. -/
def State.verifies (s : State) (a : Nat) : Bool := ((s.verifyDiff a).getD 0).natAbs ≤ s.pn (axP a 0x1E)

/-- The axis verified: its retained state used up, homed only where the count agrees. -/
def verifyJudged (a : Nat) (s : State) : State :=
  let t := retUsed a (axMod a (fun y => { y with verifying := false, after := none, st := s.standState a, homed := y.homed && s.verifies a }) s)
  if s.verifies a then t else raise (axCode 0x1070 a) 5 (w24i ((s.verifyDiff a).getD 0)) 0 t

/-- What waited for the verification begun, or ended. -/
def verifyLaunch (a : Nat) (w : Option AfterEnable) (ok : Bool) (t : State) : State := match w with
  | some w => if ok then launchAfter a w t else axEnd a .notHomed 0 0 t
  | none => t

/-- The verification with what it ends and begins. -/
def verifyDone (a : Nat) (s : State) : State :=
  verifyLaunch a (s.axis a).after (s.verifies a) (axPowerDone a (if s.verifies a then .ok else .notHomed) (verifyJudged a s))

theorem exec_axVerify (a : Fin 5) (s : State) : exec (.axVerify a) s = doneIf (s.motionUp && (s.axis a.val).verifying) (fun s =>
    if a.val = 0 && s.owner 0 = 1 then liftVerified (s.verifies a.val && (s.axis a.val).homed) (verifyDone a.val s) else verifyDone a.val s) s := rfl

theorem verifies_iff (s : State) (a : Nat) :
    s.verifies a = true ↔ ∀ r, s.retOf a = some r → ((s.axis a).enc - r.enc).int.natAbs ≤ s.pn (axP a 0x1E) := by
  cases h : s.retOf a <;> simp [State.verifies, State.verifyDiff, h]

/-- What a verification decides of an axis, and the retained states. -/
structure Verdict where
  verifying : Bool
  st : AxisState
  stage : Bool
  homed : Bool
  ret : Vector (Option Retained) 5

/-- The verdict on an axis. -/
def State.verdict (s : State) (a : Nat) : Verdict :=
  ⟨(s.axis a).verifying, (s.axis a).st, (s.axis a).stage, (s.axis a).homed, s.keep.ret⟩

theorem verdict_of_rest {s t : State} (h : t.rest = s.rest) (a : Nat) : t.verdict a = s.verdict a := (congrArg (fun u : State => u.verdict a) h :)

theorem verdict_axMod {f : Axis → Axis} (hf : ∀ y, (f y).verifying = y.verifying ∧ (f y).st = y.st ∧ (f y).stage = y.stage ∧ (f y).homed = y.homed)
    (b : Nat) (s : State) (a : Nat) : (axMod b f s).verdict a = s.verdict a := by
  have hview := view_axMod (fun y : Axis => (⟨y.verifying, y.st, y.stage, y.homed, s.keep.ret⟩ : Verdict)) (f := f)
    (fun y => by obtain ⟨h1, h2, h3, h4⟩ := hf y; rw [h1, h2, h3, h4]) b s a
  exact hview

/-- The ends of commands that waited bear on no verdict. -/
theorem verdict_axPowerDone (b : Nat) (st : Status) (s : State) (a : Nat) : (axPowerDone b st s).verdict a = s.verdict a := by
  have herase (r : Ref) (u : State) :
      ((List.range 5).foldl (fun w c => axMod c (fun y => { y with powerRefs := y.powerRefs.erase r }) w) u).verdict a = u.verdict a :=
    foldl_keeps (fun w : State => w.verdict a) _ (fun w c => verdict_axMod (by exact fun _ => ⟨rfl, rfl, rfl, rfl⟩) c w a) _ u
  have hended (u : State) (r : Ref) : (if st = .ok && (List.range 5).any (fun c => c != b && (u.axis c).powerRefs.contains r) then u else
      finish r st 0 0 (if st = .ok then u else
        (List.range 5).foldl (fun w c => axMod c (fun y => { y with powerRefs := y.powerRefs.erase r }) w) u)).verdict a = u.verdict a := by
    split
    · rfl
    · rw [verdict_of_rest (rest_finish _ _ _ _ _)]
      split
      · rfl
      · exact herase r u
  exact (foldl_keeps (fun w : State => w.verdict a) _ hended _ _).trans (verdict_axMod (by exact fun _ => ⟨rfl, rfl, rfl, rfl⟩) b s a)

theorem verdict_axEnd (b : Nat) (st : Status) (w : W24) (e : Byte) (s : State) (a : Nat) : (axEnd b st w e s).verdict a = s.verdict a :=
  (verdict_of_rest (rest_finishAll _ _ _ _ _) a).trans (verdict_axMod (by exact fun _ => ⟨rfl, rfl, rfl, rfl⟩) b s a)

theorem verdict_verifyJudged {a : Nat} (ha : a < 5) (s : State) : (verifyJudged a s).verdict a =
    ⟨false, s.standState a, (s.axis a).stage, (s.axis a).homed && s.verifies a, vset s.keep.ret a none⟩ := by
  have hused : (retUsed a (axMod a (fun y => { y with verifying := false, after := none, st := s.standState a, homed := y.homed && s.verifies a })
      s)).verdict a = ⟨false, s.standState a, (s.axis a).stage, (s.axis a).homed && s.verifies a, vset s.keep.ret a none⟩ := by
    rw [State.verdict, axis_retUsed _ ha, axis_axMod_same s ha]; rfl
  unfold verifyJudged
  dsimp only
  split
  · exact hused
  · exact (verdict_of_rest (rest_raise _ _ _ _ _) a).trans hused

theorem verdict_verifyLaunch {w : Option AfterEnable} (h : w = none ∨ w = some .stand) (b : Nat) (ok : Bool) (t : State) (a : Nat) :
    (verifyLaunch b w ok t).verdict a = t.verdict a := by
  rcases h with rfl | rfl
  · rfl
  · cases ok with
    | true => rfl
    | false => exact verdict_axEnd b .notHomed 0 0 t a

/-- A stage for which nothing, or its standing alone, waits has its verdict with the comparison. -/
theorem verdict_verifyDone {s : State} {a : Nat} (ha : a < 5) (hafter : (s.axis a).after = none ∨ (s.axis a).after = some .stand) :
    (verifyDone a s).verdict a = ⟨false, s.standState a, (s.axis a).stage, (s.axis a).homed && s.verifies a, vset s.keep.ret a none⟩ := by
  rw [verifyDone, verdict_verifyLaunch hafter, verdict_axPowerDone, verdict_verifyJudged ha]

theorem axVerify_stands {s : State} {a : Fin 5} (hup : s.motionUp = true) (hverify : (s.axis a.val).verifying = true)
    (hafter : (s.axis a.val).after = none ∨ (s.axis a.val).after = some .stand) (hown : s.owner a.val = 0) :
    completes (.axVerify a) s (fun t => (t.axis a.val).verifying = false ∧ (t.axis a.val).st = s.standState a.val ∧
      (t.axis a.val).stage = (s.axis a.val).stage ∧ vget t.keep.ret a.val none = none ∧ ((t.axis a.val).homed = true ↔ (s.axis a.val).homed = true ∧
        ∀ r, s.retOf a.val = some r → ((s.axis a.val).enc - r.enc).int.natAbs ≤ s.pn (axP a.val 0x1E))) := by
  have hcar : ¬ (decide (a.val = 0) && decide (s.owner 0 = 1)) = true := by rw [car_untold hown]; decide
  refine completes_of_doneIf_quiet (exec_axVerify a s) (by rw [hup, hverify]; rfl) (congrArg State.quiet (if_neg hcar)) fun t hq => ?_
  have hverdict := (verdict_of_rest (rest_of_quiet hq) a.val).trans (verdict_verifyDone a.isLt hafter)
  have hret : t.keep.ret = vset s.keep.ret a.val none := congrArg Verdict.ret hverdict
  have hhomed : (t.axis a.val).homed = ((s.axis a.val).homed && s.verifies a.val) := congrArg Verdict.homed hverdict
  rw [hret, hhomed, Bool.and_eq_true, verifies_iff, vget_vset_same _ a.isLt]
  exact ⟨congrArg Verdict.verifying hverdict, congrArg Verdict.st hverdict, congrArg Verdict.stage hverdict, rfl, Iff.rfl⟩

/-! ### Step edges (R296 to R298) -/

/-- An axis whose step target an edge has moved (R296). -/
def Axis.stepped (w : W24) (period now : Nat) (y : Axis) : Axis :=
  { y with stepTarget := y.stepTarget + w, stepPeriod := period, stepAt := some now, hold := false, still := 0 }

/-- The time since an axis's last edge. -/
def State.sinceStep (s : State) (x : Axis) : Nat := match x.stepAt with
  | some u => s.now - u
  | none => 10000

/-- The edges that were not counted reported (R298). -/
def ignoredTold (a : Nat) (s : State) : State :=
  if (s.axis a).ignored = 0 then s else raise (axCode 0x10C0 a) 3 (sat24 (s.axis a).ignored) 0 (axMod a (fun y => { y with ignored := 0 }) s)

/-- A step edge counted. -/
def stepCounted (a : Nat) (dir : Int) (s : State) : State :=
  stepOverrun a (axMod a (Axis.stepped (w24i (256 / 2 ^ s.pn (axP a 0x31) * dir))
    (if 10000 ≤ s.sinceStep (s.axis a) then 50 else s.sinceStep (s.axis a)) s.now) (ignoredTold a s))

/-- A step edge: not counted while a stop runs, without the permit or toward an active limit. -/
def stepTaken (a : Nat) (dir : Int) (s : State) : State :=
  if (s.axis a).st = .stopping || !s.permit (axPermit a) || s.limitBars a dir then axMod a (fun y => { y with ignored := y.ignored + 1 }) s
  else stepCounted a dir s

/-- STEP3 and STEP4 are the steps of axes 3 and 4. -/
theorem exec_stepEdge {two : Bool} {a : Nat} (haxis : a = if two then 4 else 3) (high : Bool) (s : State) : exec (.stepEdge two high) s =
    doneIf (s.motionUp && (s.axis a).stage && s.standState a = .external && ((s.axis a).st = .external || (s.axis a).st = .stopping) &&
      !(s.axis a).verifying && !(s.axis a).suspended) (stepTaken a (if high then -1 else 1)) s := by
  subst haxis
  unfold exec execStepEdge
  exact doneIf_congr rfl

theorem stepOverrun_of_near {s : State} {a : Nat} (h : ((s.axis a).stepTarget - (s.axis a).word).int.natAbs ≤ s.pn (axP a 0x32)) :
    stepOverrun a s = s := by
  have hnear : decide (s.pn (axP a 0x32) < ((s.axis a).stepTarget - (s.axis a).word).int.natAbs) = false := decide_eq_false (by omega)
  simp only [stepOverrun, hnear, Bool.and_false, Bool.false_eq_true, if_false]

theorem ignored_cleared {y : Axis} (h : y.ignored = 0) : y = { y with ignored := 0 } := by
  cases y; cases h; rfl

theorem ignoredTold_clears {a : Nat} (ha : a < 5) (s : State) :
    (ignoredTold a s).prm = s.prm ∧ (ignoredTold a s).axis a = { s.axis a with ignored := 0 } := by
  unfold ignoredTold
  split
  · next h => exact ⟨rfl, ignored_cleared h⟩
  · have hraise := quiet_raise (axCode 0x10C0 a) 3 (sat24 (s.axis a).ignored) 0 (axMod a (fun y => { y with ignored := 0 }) s)
    exact ⟨(prm_of_rest (rest_of_quiet hraise)).trans rfl, (axis_of_quiet hraise a).trans (axis_axMod_same s ha _)⟩

theorem stepCounted_follows {s : State} {a : Nat} (ha : a < 5) {dir : Int}
    (hnear : ((s.axis a).stepTarget + w24i (256 / 2 ^ s.pn (axP a 0x31) * dir) - (s.axis a).word).int.natAbs ≤ s.pn (axP a 0x32)) :
    ((stepCounted a dir s).axis a).stepTarget = (s.axis a).stepTarget + w24i (256 / 2 ^ s.pn (axP a 0x31) * dir) ∧
    ((stepCounted a dir s).axis a).ignored = 0 ∧ ((stepCounted a dir s).axis a).x = (s.axis a).x := by
  obtain ⟨hprm, hax⟩ := ignoredTold_clears ha s
  have hmoved := axis_axMod_same (ignoredTold a s) ha (Axis.stepped (w24i (256 / 2 ^ s.pn (axP a 0x31) * dir))
    (if 10000 ≤ s.sinceStep (s.axis a) then 50 else s.sinceStep (s.axis a)) s.now)
  rw [hax] at hmoved
  have hlag (period : Nat) : (axMod a (Axis.stepped (w24i (256 / 2 ^ s.pn (axP a 0x31) * dir)) period s.now) (ignoredTold a s)).pn (axP a 0x32) =
      s.pn (axP a 0x32) := pn_of_prm (s := s) hprm _
  rw [stepCounted, stepOverrun_of_near (by rw [hmoved, hlag]; exact hnear), hmoved]
  exact ⟨rfl, rfl, rfl⟩

section
variable {s : State} {two high : Bool} {a : Nat} (haxis : a = if two then 4 else 3) (hup : s.motionUp = true) (hstage : (s.axis a).stage = true)
  (hready : (s.axis a).verifying = false) (hfollows : (s.axis a).suspended = false) (hsrc : s.standState a = .external)
include hup hstage hready hfollows hsrc

/-- An edge finds its axis external or stopping. -/
theorem stepEdge_finds (hst : (s.axis a).st = .external ∨ (s.axis a).st = .stopping) : (s.motionUp && (s.axis a).stage &&
    s.standState a = .external && ((s.axis a).st = .external || (s.axis a).st = .stopping) && !(s.axis a).verifying && !(s.axis a).suspended) = true := by
  have heither : (decide ((s.axis a).st = .external) || decide ((s.axis a).st = .stopping)) = true := by simpa using hst
  rw [hup, hstage, hready, hfollows, decide_eq_true hsrc, heither]; rfl

include haxis

theorem stepEdge_ignored (hst : (s.axis a).st = .external ∨ (s.axis a).st = .stopping)
    (hbars : ((s.axis a).st = .stopping || !s.permit (axPermit a) || s.limitBars a (if high then -1 else 1)) = true) :
    completesAs (.stepEdge two high) s (axMod a (fun x => { x with ignored := x.ignored + 1 }) s) :=
  completesAs_of_doneIf (exec_stepEdge haxis high s) (stepEdge_finds hup hstage hready hfollows hsrc hst) (congrArg State.quiet (if_pos hbars))

theorem stepEdge_follows (hst : (s.axis a).st = .external) (hpermit : s.permit (axPermit a) = true)
    (hlimit : s.limitBars a (if high then -1 else 1) = false)
    (hnear : ((s.axis a).stepTarget + w24i (256 / 2 ^ s.pn (axP a 0x31) * (if high then -1 else 1)) - (s.axis a).word).int.natAbs ≤ s.pn (axP a 0x32)) :
    completes (.stepEdge two high) s (fun t =>
      (t.axis a).stepTarget = (s.axis a).stepTarget + w24i (256 / 2 ^ s.pn (axP a 0x31) * (if high then -1 else 1)) ∧
      (t.axis a).ignored = 0 ∧ (t.axis a).x = (s.axis a).x) := by
  have hfree : ¬ ((s.axis a).st = .stopping || !s.permit (axPermit a) || s.limitBars a (if high then -1 else 1)) = true := by
    rw [hst, hpermit, hlimit]; decide
  refine completes_of_doneIf_quiet (exec_stepEdge haxis high s) (stepEdge_finds hup hstage hready hfollows hsrc (.inl hst))
    (congrArg State.quiet (if_neg hfree)) fun t hq => ?_
  rw [axis_of_quiet hq]
  exact stepCounted_follows (by rw [haxis]; cases two <;> decide) hnear

end

/-! ### Encoder edges (R301, R317) -/

/-- One count up, or down where the encoder is inverted. -/
theorem count_eq (n : W24) (up inv : Bool) : n + (if up != inv then 1 else 0xFFFFFF) = if up = inv then n - 1 else n + 1 := by
  cases up <;> cases inv <;> simp [BitVec.sub_eq_add_neg]

theorem exec_encoderEdge_axis {i : Fin 6} (hi : i.val < 5) (up : Bool) (s : State) : exec (.encoderEdge i up) s =
    doneIf (4 ≤ s.glb.step.val && s.encOn i.val)
      (axMod i.val (fun y => { y with enc := y.enc + (if up != s.pb (axP i.val 0x1A) then 1 else 0xFFFFFF) })) s := if_neg (by omega)

theorem exec_encoderEdge_master {i : Fin 6} (hi : i.val = 5) (up : Bool) (s : State) : exec (.encoderEdge i up) s =
    doneIf (4 ≤ s.glb.step.val && s.pb 0x1800)
      (fun s => { s with mot.encM := s.mot.encM + (if up != s.pb 0x1801 then 1 else 0xFFFFFF) }) s := if_pos hi

theorem encoderEdge_counts {s : State} {i : Fin 6} {up : Bool} (hstep : 4 ≤ s.glb.step.val) (hi : i.val < 5) (henc : s.encOn i.val = true) :
    completesAs (.encoderEdge i up) s (axMod i.val (fun x => { x with enc := if up = s.pb (axP i.val 0x1A) then x.enc - 1 else x.enc + 1 }) s) := by
  refine completesAs_of_doneIf (exec_encoderEdge_axis hi up s) (by rw [decide_eq_true hstep, henc]; rfl) ?_
  simp only [count_eq]

theorem encoderEdge_countsMaster {s : State} {i : Fin 6} {up : Bool} (hstep : 4 ≤ s.glb.step.val) (hi : i.val = 5) (henc : s.pb 0x1800 = true) :
    completesAs (.encoderEdge i up) s { s with mot.encM := if up = s.pb 0x1801 then s.mot.encM - 1 else s.mot.encM + 1 } := by
  refine completesAs_of_doneIf (exec_encoderEdge_master hi up s) (by rw [decide_eq_true hstep, henc]; rfl) ?_
  simp only [count_eq]

/-! ### The statement -/

/-- Settles O41, event by event. The position latched on an index is interpolated into its tick (log 114). -/
theorem axisEventsComplete : Obligations.AxisEventsComplete := by
  refine ⟨fun s a => axStall_loses, fun s a us ns p hup harmed => ⟨fun hst hedge hown => ?_, fun hst hsrc => ?_⟩, fun s a b k => axOvercurrent_opens,
    fun s a o hup hstage => ⟨axOpenLoad_changes (b := 0) hup hstage, axOpenLoad_changes (b := 1) hup hstage, holdCurrent_holds hup hstage⟩,
    fun s a => axIdleOff_disables, fun s a => axVerify_stands, fun s two high hup hstage hst hready hfollows hsrc => ⟨fun hbars => ?_,
      stepEdge_follows rfl hup hstage hready hfollows hsrc hst⟩, fun s two high hup hstage hst hready hfollows hsrc => ?_,
    fun s i up hstep => ⟨encoderEdge_counts hstep, encoderEdge_countsMaster hstep⟩⟩
  · refine axLatch_takes hup harmed ((latchNow_edge (.inl hst) _).trans hedge) fun t hq => ?_
    rw [hq, latchTaken_holds hst hown]; rfl
  · refine axLatch_homes hup harmed hst ?_
    rcases hsrc with ⟨hindex, rfl⟩ | ⟨hfield, hedge⟩
    · exact latchNow_index hst hindex _
    · exact (latchNow_edge (.inr hfield) _).trans hedge
  · refine stepEdge_ignored rfl hup hstage hready hfollows hsrc (.inl hst) ?_
    rcases hbars with h | h <;> simp [h]
  · exact stepEdge_ignored rfl hup hstage hready hfollows hsrc (.inr hst) (by simp [hst])

end Sys2Proof.Machine
end

section
/-! What every reaction of the machine to its guard is made of, and what it therefore leaves as it was (Tables 10-1 and 10-3). -/

namespace Sys2Proof.Machine

/-! ### Reactions -/

/-- The state without reports and without what reactions set beside axes and outcomes: car, doors, grinder, LINK's field commands, the
firmware activation with the islands it lets run, and what is retained of the axes. -/
def State.offDrives (s : State) : State :=
  { s.quiet with
    lift := {}, door := Vector.replicate 2 {}, grind := {}, awn := {}, fw := {}
    glb.isl := Vector.replicate 8 .off, glb.awaiting := 0, keep.ret := Vector.replicate 5 none }

/-- What the machine's reactions can make of a state: what `offDrives` does not show changes, accepted commands take their outcomes, and
an axis changes without its stage being enabled. -/
inductive Reacts (s : State) : State → Prop
  | refl : Reacts s s
  | unseen {t u : State} : Reacts s t → u.offDrives = t.offDrives → Reacts s u
  | ends {t : State} (r : Ref) (st : Status) (w : W24) (e : Byte) : Reacts s t → Reacts s (finish r st w e t)
  | axis {t : State} (a : Nat) {f : Axis → Axis} : Reacts s t → (∀ y : Axis, y.stage = false → (f y).stage = false) → Reacts s (axMod a f t)

theorem offDrives_of_quiet {s t : State} (h : t.quiet = s.quiet) : t.offDrives = s.offDrives := (congrArg State.offDrives h :)

/-! ### What a reaction leaves -/

/-- The state but for what reactions change, journal, outcomes and axes too, and but for SLEEP_READY, which may follow any row. -/
def State.unreacted (s : State) : State :=
  { s.offDrives with mot := { lines := s.mot.lines }, jrn := {}, ring.outstanding := [], ring.heldDone := [], host.sleepReady := false }

theorem unreacted_of_offDrives {s t : State} (h : t.offDrives = s.offDrives) : t.unreacted = s.unreacted := (congrArg State.unreacted h :)

theorem unreacted_of_quiet {s t : State} (h : t.quiet = s.quiet) : t.unreacted = s.unreacted := unreacted_of_offDrives (offDrives_of_quiet h)

theorem unreacted_finish (r : Ref) (st : Status) (w : W24) (e : Byte) (s : State) : (finish r st w e s).unreacted = s.unreacted := by
  simp only [finish, finishC]
  split
  · split
    · rfl
    · rw [unreacted_of_quiet (quiet_putDone _ _ _ _)]; rfl
  · rfl

theorem finish_of_none_outstanding {s : State} (h : s.ring.outstanding = []) (r : Ref) (st : Status) (w : W24) (e : Byte) :
    finish r st w e s = s := by
  simp [finish, finishC, h]

namespace Reacts
variable {s t u : State}

theorem unreacted (h : Reacts s t) : t.unreacted = s.unreacted := by
  induction h with
  | refl => rfl
  | unseen _ hu ih => exact (unreacted_of_offDrives hu).trans ih
  | ends r st w e _ ih => exact (unreacted_finish r st w e _).trans ih
  | axis _ _ _ ih => exact ih

/-- With no accepted command left without its outcome, nothing is journaled. -/
theorem journals_nothing (h : Reacts s t) (hnone : s.ring.outstanding = []) : t.ring.outstanding = [] ∧ t.jrn = s.jrn := by
  induction h with
  | refl => exact ⟨hnone, rfl⟩
  | unseen _ hu ih =>
    exact ⟨(congrArg (fun v : State => v.ring.outstanding) hu :).trans ih.1, (congrArg State.jrn hu :).trans ih.2⟩
  | ends r st w e _ ih => rwa [finish_of_none_outstanding ih.1]
  | axis _ _ _ ih => exact ih

/-- No stage is enabled. -/
theorem stage_stays_off {a : Nat} (h : Reacts s t) (hoff : (s.axis a).stage = false) : (t.axis a).stage = false := by
  induction h with
  | refl => exact hoff
  | unseen _ hu ih => exact (congrArg (fun v : State => (v.axis a).stage) hu :).trans ih
  | ends r st w e _ ih => rwa [axis_of_mot (mot_finish r st w e _)]
  | axis b _ hf ih => exact axis_axMod_keeps hf b ih

theorem grd (h : Reacts s t) : t.grd = s.grd := (congrArg State.grd h.unreacted :)

/-! ### The operations that reactions are made of -/

theorem reports (h : Reacts s t) (hq : u.quiet = t.quiet) : Reacts s u := h.unseen (offDrives_of_quiet hq)

theorem raise (h : Reacts s t) (c : W16) (v : Nat) (a b : W24) : Reacts s (raise c v a b t) := h.reports (quiet_raise c v a b t)

theorem foldl {α : Type} {f : State → α → State} (hf : ∀ t a, Reacts s t → Reacts s (f t a)) (l : List α) (h : Reacts s t) :
    Reacts s (l.foldl f t) := by
  induction l generalizing t with
  | nil => exact h
  | cons a l ih => exact ih (hf t a h)

theorem finishAll (h : Reacts s t) (l : List Ref) (st : Status) (w : W24) (e : Byte) : Reacts s (finishAll l st w e t) :=
  foldl (fun _ r hr => hr.ends r st w e) l h

theorem axStop (h : Reacts s t) (emg : Bool) (a : Nat) (st : Status) (e : Byte) : Reacts s (axStop emg a st e t) := by
  unfold Machine.axStop
  dsimp only
  split
  · exact h
  · refine (h.axis a ?_).finishAll _ _ _ _
    exact fun _ hy => hy

theorem axDisable (h : Reacts s t) (a : Nat) (st : Status) (e : Byte) : Reacts s (axDisable a st e t) := by
  have hret (r : Vector (Option Retained) 5) (w : BitVec 5) : Reacts s { t with keep.ret := r, glb.awaiting := w } := h.unseen rfl
  exact ((((hret _ _).axis a fun _ _ => rfl).finishAll _ _ _ _).finishAll _ _ _ _).finishAll _ _ _ _

theorem driveOut (h : Reacts s t) (c : Option Nat) (on : Bool) : Reacts s (driveOut c on t) := by
  cases c with
  | none => exact h
  | some k => exact h.unseen rfl

/-! ### The car -/

theorem brakeSet (h : Reacts s t) (on : Bool) : Reacts s (brakeSet on t) := by
  have hbrake (b : Bool) : Reacts s { t with lift.brake := b } := h.unseen rfl
  exact (hbrake _).driveOut _ _

theorem endCalls (h : Reacts s t) (st : Status) (e : Byte) : Reacts s (endCalls st e t) := by
  have hcalls : Reacts s { t with lift.calls := [] } := h.unseen rfl
  unfold Machine.endCalls
  split
  · exact h
  · exact (hcalls.finishAll _ _ _ _).raise _ _ _ _

theorem enterHold (h : Reacts s t) (c : Nat) : Reacts s (enterHold c t) := by
  have hhold (l : LiftSt) : Reacts s { t with lift := l } := h.unseen rfl
  exact ((hhold _).raise _ _ _ _).finishAll _ _ _ _

theorem toIdle (h : Reacts s t) : Reacts s (toIdle t) := by
  unfold Machine.toIdle
  split
  · exact h.enterHold _
  · exact h.unseen rfl

theorem carLost (h : Reacts s t) : Reacts s (carLost t) := by
  have hlost (l : LiftSt) : Reacts s { t with lift := l } := h.unseen rfl
  exact (hlost _).endCalls _ _

theorem liftFaultEnd (h : Reacts s t) : Reacts s (liftFaultEnd t) := by
  unfold Machine.liftFaultEnd
  split
  · refine (((h.brakeSet false).axDisable 0 .notHomed 0).axis 0 ?_).carLost
    exact fun _ hy => hy
  · exact h

theorem liftFault (h : Reacts s t) (c : Nat) : Reacts s (liftFault c t) := by
  have hfault (l : LiftSt) : Reacts s { t with lift := l } := h.unseen rfl
  unfold Machine.liftFault
  split
  · exact h
  · exact (((((hfault _).raise _ _ _ _).endCalls _ _).finishAll _ _ _ _).axStop _ _ _ _).liftFaultEnd

theorem homeFail (h : Reacts s t) (why c : Nat) : Reacts s (homeFail why c t) := (h.raise _ _ _ _).liftFault c

theorem undispatch (h : Reacts s t) : Reacts s (undispatch t) := by
  have hcalls (l : LiftSt) : Reacts s { t with lift := l } := h.unseen rfl
  exact ((hcalls _).brakeSet false).toIdle

theorem liftAbandon (h : Reacts s t) : Reacts s (liftAbandon t) := by
  have hmark : Reacts s { t with lift.abandon := true } := h.unseen rfl
  have hstop := hmark.axStop true 0 .interlock 0
  unfold Machine.liftAbandon
  split
  · exact h
  · split
    · exact h.undispatch
    · exact hstop
    · exact hstop
    · split
      · exact h
      · exact hstop
    · split
      · exact h.homeFail _ 3
      · exact h
    · exact h

theorem brakeOffStill (h : Reacts s t) : Reacts s (brakeOffStill t) := by
  unfold Machine.brakeOffStill
  split
  · exact h.brakeSet false
  · exact h

theorem brakeAtRest (h : Reacts s t) : Reacts s (brakeAtRest t) := by
  unfold Machine.brakeAtRest
  split
  · exact h.brakeSet false
  · exact h

theorem dispatchCheck (h : Reacts s t) : Reacts s (dispatchCheck t) := by
  unfold Machine.dispatchCheck
  split
  · exact h.undispatch
  · exact h

/-! ### Doors -/

theorem drMod (h : Reacts s t) (k : Nat) (f : Door → Door) : Reacts s (drMod k f t) := h.unseen rfl

theorem lockOut (h : Reacts s t) (k : Nat) (on : Bool) : Reacts s (lockOut k on t) := (h.drMod k _).driveOut _ on

theorem buzz (h : Reacts s t) (k : Nat) (on : Bool) : Reacts s (buzz k on t) := (h.drMod k _).driveOut _ on

theorem endOpen (h : Reacts s t) (k : Nat) (st : Status) (e : Byte) : Reacts s (endOpen k st e t) := (h.drMod k _).finishAll _ _ _ _

theorem endClose (h : Reacts s t) (k : Nat) (st : Status) (e : Byte) : Reacts s (endClose k st e t) := (h.drMod k _).finishAll _ _ _ _

theorem cycleEnd (h : Reacts s t) (k : Nat) (ok : Bool) : Reacts s (cycleEnd k ok t) := by
  have hover (l : LiftSt) : Reacts s { t with lift := l } := h.unseen rfl
  unfold Machine.cycleEnd
  split
  · exact h
  · dsimp only
    split
    · exact ((hover _).finishAll _ _ _ _).toIdle
    · exact ((hover _).finishAll _ _ _ _).enterHold 5

theorem doorFault (h : Reacts s t) (k c : Nat) (st : Status) (e : Byte) : Reacts s (doorFault k c st e t) := by
  unfold Machine.doorFault
  split
  · exact h
  · have hramp {u : State} (hu : Reacts s u) :
        Reacts s (axMod (k + 1) (fun x => { x with next := none }) (Machine.axStop true (k + 1) .interlock 0 u)) :=
      (hu.axStop _ _ _ _).axis _ fun _ hy => hy
    have houtputs (f : Door → Door) := (((h.drMod k f).lockOut k false).buzz k false).raise 0x2405 5 (w24 k) (w24 c)
    have hends {u : State} (hu : Reacts s u) := ((hramp hu).endOpen k st e).endClose k st e
    dsimp only
    split
    · exact (hends (houtputs _)).cycleEnd k false
    · exact hends (houtputs _)

theorem doorHalt (h : Reacts s t) (k : Nat) (st : Status) (e : Byte) : Reacts s (doorHalt k st e t) := by
  unfold Machine.doorHalt
  split
  · exact h.doorFault k 2 st e
  · exact h

/-! ### The grinder -/

theorem grindSets (h : Reacts s t) (g : GrindSt) : Reacts s { t with grind := g } := h.unseen rfl

theorem grindEnd (h : Reacts s t) (st : Status) (e : Byte) : Reacts s (grindEnd st e t) := (h.grindSets _).finishAll _ _ _ _

theorem grindEnable (h : Reacts s t) : Reacts s (grindEnable t) := by
  unfold Machine.grindEnable
  split
  · exact h.grindSets _
  · split
    · exact h.grindSets _
    · exact h

theorem grindStopsDone (h : Reacts s t) : Reacts s (grindStopsDone t) := (h.grindSets _).finishAll _ _ _ _

theorem grindCoastCause (h : Reacts s t) (st : Status) (e : Byte) : Reacts s (grindCoastCause st e t) := by
  have hend := h.grindEnd st e
  unfold Machine.grindCoastCause
  dsimp only
  split
  · exact (hend.grindSets _).grindEnable.grindStopsDone
  · split
    case h_6 => -- COAST, where a retry may have been due
      split
      · exact hend.grindSets _
      · exact hend
    case h_8 => exact hend
    all_goals exact hend.grindSets _

theorem grindRampCause (h : Reacts s t) (st : Status) (e : Byte) : Reacts s (grindRampCause st e t) := by
  unfold Machine.grindRampCause
  split
  · exact (h.grindEnd st e).grindSets _
  · split
    · exact h.grindEnd st e
    · exact h.grindCoastCause st e

/-! ### Field commands -/

theorem endWrite (h : Reacts s t) (id : Nat) (st : Status) (e : Byte) : Reacts s (endWrite id st e t) := by
  have hwrites (l : List FieldCmd) : Reacts s { t with awn.writes := l } := h.unseen rfl
  unfold Machine.endWrite
  split
  · exact h
  · split
    · exact (hwrites _).ends _ _ _ _
    · exact hwrites _

theorem endField (h : Reacts s t) (fl : Bool) (m : BitVec 24) (st : Status) (e : Byte) : Reacts s (endField fl m st e t) := by
  have hpulses (l : List PulseCmd) : Reacts s { t with awn.pulses := l } := h.unseen rfl
  exact foldl (fun _ i hi => hi.endWrite i st e) _ ((hpulses _).finishAll _ _ _ _)

theorem dropOutputs (h : Reacts s t) (m : BitVec 17) : Reacts s (dropOutputs m t) := by
  have hoff : Reacts s (cmdOff (gatedBy m) t) := h.unseen rfl
  exact hoff.endField _ _ _ _

/-! ### A firmware activation -/

theorem readmitOne (h : Reacts s t) (k : Nat) : Reacts s (readmitOne t k) := by
  have hrun : Reacts s (t.setIsl (fwIsl k) .run) := h.unseen rfl
  unfold Machine.readmitOne
  split
  · exact hrun.raise _ _ _ _
  · exact h

theorem abandonAct (h : Reacts s t) (why : Nat) (st : Status) : Reacts s (abandonAct why st t) := by
  unfold Machine.abandonAct
  split
  · exact h
  · split
    · exact h
    · unfold endAct
      split
      · exact h.raise _ _ _ _
      · have hfw (f : FwSt) {u : State} (hu : Reacts s u) : Reacts s { u with fw := f } := hu.unseen rfl
        exact foldl (fun _ k hk => hk.readmitOne k) _ (((hfw _ (h.raise _ _ _ _)).ends _ _ _ _).reports (quiet_sendIrq 5 _))

end Reacts

end Sys2Proof.Machine
end

section
/-! The guard's stop, its trip and the permits of a pass (R321, R326, R328, Tables 10-1 and 10-3). -/

namespace Sys2Proof.Machine

theorem calm_of_unreacted {s t : State} (h : t.unreacted = s.unreacted) (hs : s.calm) : t.calm := by
  obtain ⟨hb, hd, hp, hstop⟩ := hs
  exact ⟨(congrArg (fun u : State => u.ring.backlog) h :).trans hb, (congrArg (fun u : State => u.host.d3Due) h :).trans hd,
    (congrArg (fun u : State => u.host.pmeDue) h :).trans hp, (congrArg (fun u : State => u.host.stopping) h :).trans hstop⟩

/-! ### Permits withdrawn -/

/-- The state with every permit withdrawn and every loss action taken. -/
def State.unpermitted (s : State) : State := { s with grd.permits := 0, grd.ramped := BitVec.allOnes 17 }

theorem unpermitted_unreacted_congr {s t : State} (h : t.unreacted = s.unreacted) : t.unpermitted.unreacted = s.unpermitted.unreacted :=
  (congrArg State.unpermitted h :)

theorem withdrawAll_reacts (s : State) : Reacts s.unpermitted (withdrawAll s) := by
  have hlost (t : State) (c : Nat) (h : Reacts s.unpermitted t) :
      Reacts s.unpermitted (if s.grd.permits.getLsbD c then lostEvent c 1 0x3F 0 t else t) := by
    split
    · exact h.raise _ _ _ _
    · exact h
  exact (Reacts.foldl hlost _ .refl).dropOutputs _

/-! ### SAFE_STOP -/

theorem haltDoors_reacts {s t : State} (h : Reacts s t) : Reacts s ((List.range 2).foldl (fun u k => doorHalt k .interlock 0 u) t) :=
  h.foldl (fun _ k hk => hk.doorHalt k .interlock 0) _

theorem stopMachine_reacts (s : State) : Reacts s.unpermitted (stopMachine s) := by
  have hstops {t : State} (h : Reacts s.unpermitted t) :
      Reacts s.unpermitted ((List.range 5).foldl (fun u a => axStop true a .interlock 0 u) t) :=
    h.foldl (fun _ a ha => ha.axStop true a .interlock 0) _
  have hcoast := (hstops (haltDoors_reacts (withdrawAll_reacts s).liftAbandon)).grindCoastCause .interlock 0
  exact hcoast.brakeOffStill.brakeAtRest.abandonAct 2 .interlock

/-- A stop from RUN or RESTRICT: SAFE_STOP with its cause, and no permit (R328, Table 10-1). -/
theorem guardStop_stops {c : Nat} (hc : c ≠ 0) {s : State} (h : s.grd.st.grants = true) : ∃ l, (guardStop c s).unreacted = ({ s.unpermitted with
    grd.st := .safeStop, grd.cause := Fin.ofNat 32 c, mot.lines := l } : State).unreacted := by
  obtain ⟨l, hq⟩ := quiet_enterGuard .safeStop c s
  refine ⟨l, ?_⟩
  rw [guardStop, if_pos h, (stopMachine_reacts _).unreacted, unpermitted_unreacted_congr (unreacted_of_quiet hq), if_neg hc,
    show (s.glb.guardSeen || GuardState.safeStop.grants) = s.glb.guardSeen from Bool.or_false _]
  rfl

/-! ### TRIP -/

/-- Every stage disabled. -/
def State.stagesOff (s : State) : Prop := ∀ a < 5, (s.axis a).stage = false

theorem Reacts.stagesOff {s t : State} (h : Reacts s t) (hs : s.stagesOff) : t.stagesOff := fun a ha => h.stage_stays_off (hs a ha)

theorem stagesOff_of_mot {s t : State} (h : t.mot.ax = s.mot.ax) (hs : s.stagesOff) : t.stagesOff := by
  intro a ha
  have hax : t.axis a = s.axis a := congrArg (fun v : Vector Axis 5 => v.toList.getD a {}) h
  rw [hax]
  exact hs a ha

/-- The stages disabled one after the other. -/
def disableStages (s : State) : State := (List.range 5).foldl (fun u a => axDisable a .interlock 0 u) s

theorem disableStages_stagesOff (s : State) : (disableStages s).stagesOff :=
  axis_foldl_range (P := fun y => y.stage = false) (fun _ _ ha => (axDisable_disables ha .interlock 0).stage)
    (fun _ a _ hb => (Reacts.refl.axDisable a .interlock 0).stage_stays_off hb) s

/-- What TRIP does once the stages are disabled; `car` tells whether the car moved. -/
def tripRest (car : Bool) (s : State) : State :=
  let t := liftFaultEnd (if car then liftFault 6 s else liftAbandon s)
  abandonAct 2 .interlock (endField true 0xFFFFFF .interlock 0 (grindCoastCause .interlock 0 (if t.liftEn then brakeSet false t else t)))

theorem tripMachine_eq (s : State) : tripMachine s = tripRest (s.liftEn && (s.axis 0).moves)
    (disableStages ((List.range 2).foldl (fun u k => doorHalt k .interlock 0 u) (withdrawAll s))) := rfl

theorem Reacts.tripRest {s t : State} (car : Bool) (h : Reacts s t) : Reacts s (tripRest car t) := by
  have hcar : Reacts s (Machine.liftFaultEnd (if car then Machine.liftFault 6 t else Machine.liftAbandon t)) := by
    split
    · exact (h.liftFault 6).liftFaultEnd
    · exact h.liftAbandon.liftFaultEnd
  unfold Machine.tripRest
  generalize Machine.liftFaultEnd (if car then Machine.liftFault 6 t else Machine.liftAbandon t) = u at hcar ⊢
  have hbrake : Reacts s (if u.liftEn then Machine.brakeSet false u else u) := by
    split
    · exact hcar.brakeSet false
    · exact hcar
  exact ((hbrake.grindCoastCause _ _).endField _ _ _ _).abandonAct _ _

theorem tripMachine_reacts (s : State) : Reacts s.unpermitted (tripMachine s) :=
  tripMachine_eq s ▸ (((haltDoors_reacts (withdrawAll_reacts s)).foldl (fun _ a ha => ha.axDisable a .interlock 0) _).tripRest _)

theorem tripMachine_stagesOff (s : State) : (tripMachine s).stagesOff :=
  tripMachine_eq s ▸ (Reacts.refl.tripRest _).stagesOff (disableStages_stagesOff _)

/-- A trip from a state other than TRIP: TRIP with its cause, no permit, the stage-enable lines inactive (R323, R328, Table 10-1). -/
theorem guardTrip_trips_from {c : Nat} (hc : c ≠ 0) {s : State} (h : s.grd.st ≠ .trip) : (guardTrip c s).unreacted = ({ s.unpermitted with
    grd.st := .trip, grd.cause := Fin.ofNat 32 c, mot.lines := false } : State).unreacted := by
  rw [guardTrip, if_neg h, (tripMachine_reacts _).unreacted, unpermitted_unreacted_congr (unreacted_of_quiet (quiet_enterGuard_trip hc s))]
  rfl

theorem guardTrip_stagesOff (c : Nat) {s : State} (h : s.grd.st ≠ .trip) : (guardTrip c s).stagesOff := by
  rw [guardTrip, if_neg h]
  exact tripMachine_stagesOff _

/-! ### The permits of a pass -/

theorem rampLoss_reacts {s t : State} (h : Reacts s t) (c : Nat) : Reacts s (rampLoss c t) := by
  unfold rampLoss
  split
  · split
    · exact h.liftAbandon
    · exact h.axStop _ _ _ _
  · split
    · exact h.liftAbandon.brakeOffStill
    · split
      · split
        · exact h.doorHalt _ _ _
        · exact h.axStop _ _ _ _
      · split
        · exact h.grindRampCause _ _
        · split
          · exact h.axStop _ _ _ _
          · exact h

/-- The permits switched together, and what their loss does. -/
theorem applyPermits_reacts (s : State) : ∃ m, Reacts { s with grd.permits := s.granted, grd.ramped := m } (applyPermits s) := by
  refine ⟨_, Reacts.dispatchCheck (Reacts.foldl (fun _ c hc => rampLoss_reacts hc c) _ (Reacts.dropOutputs (Reacts.foldl
    (fun _ c hc => hc.raise _ _ _ _) _ (Reacts.foldl (fun _ c hc => hc.raise _ _ _ _) _ .refl)) _))⟩

end Sys2Proof.Machine
end

section
/-! The supervisor's two-wire port: reads, writes, sleep and the attention write (R329, R418 to R430). -/

namespace Sys2Proof.Machine

/-! ### What a report leaves of the pending attention causes (R428, R451) -/

/-- What the pending attention causes are judged on: the port and the parameters. -/
def State.port (s : State) : TwpSt × PrmSt := (s.twp, s.prm)

@[simp] theorem port_sendIrq (k : Nat) (s : State) : (sendIrq k s).port = s.port := by
  simp only [sendIrq, apply_ite State.port]; exact ite_self _

@[simp] theorem port_putIrq (k : Nat) (s : State) : (putIrq k s).port = s.port := by
  unfold putIrq
  dsimp only
  split <;> split <;> rfl

@[simp] theorem port_irqMod (e u : Bool) (s : State) : (irqMod e u s).port = s.port := by
  have hevt : (sendIrq 1 { s with ring.modEvt := true }).port = s.port := port_sendIrq _ _
  have hcpl : (sendIrq 0 { s with ring.modCpl := true }).port = s.port := port_sendIrq _ _
  unfold irqMod
  split
  · exact port_sendIrq _ _
  · split <;> split
    · rfl
    · exact hevt
    · rfl
    · exact hcpl

@[simp] theorem port_placeEvt (c : W16) (v : Nat) (q a b : W32) (u : Bool) (s : State) : (placeEvt c v q a b u s).port = s.port := by
  unfold placeEvt
  split
  · exact port_irqMod _ _ _
  · rfl

@[simp] theorem port_postEvt (c : W16) (v : Nat) (q a b : W32) (u : Bool) (s : State) : (postEvt c v q a b u s).port = s.port := by
  unfold postEvt
  split
  · rfl
  · split
    · exact port_placeEvt _ _ _ _ _ _ _
    · rfl

@[simp] theorem port_bumpWin (o s : State) : (bumpWin o s).port = s.port := by
  unfold bumpWin; split <;> rfl

@[simp] theorem port_stageAt (c : W16) (v i : Nat) (f : Byte) (a b x y : W24) (s : State) : (stageAt c v i f a b x y s).port = s.port :=
  port_bumpWin _ _

@[simp] theorem port_stage (c : W16) (v i : Nat) (f : Byte) (a b x y : W24) (s : State) : (stage c v i f a b x y s).2.port = s.port := by
  have hdown : (unstaged c v i a b s).port = s.port := by unfold unstaged; split <;> rfl
  have htoken (m : Vector Nat 16) (g : Byte) : (stageAt c v i g a b x y { s with log.tokens := m }).port = s.port := port_stageAt ..
  have hagain (l : LogSt) : (bumpWin s { s with log := l }).port = s.port := port_bumpWin _ _
  have hlost : ({ s with log.overflow := s.log.overflow + 1 } : State).port = s.port := rfl
  simp only [stage, apply_ite Prod.snd, apply_ite State.port, hdown, htoken, hagain, hlost, ite_self]

@[simp] theorem port_raiseCore (c : W16) (v i : Nat) (a b x y : W24) (s : State) : (raiseCore c v i a b x y s).port = s.port := by
  simp only [raiseCore, apply_ite State.port, port_postEvt, port_stage, ite_self]

@[simp] theorem port_wake (n : Nat) (s : State) : (wake n s).port = s.port := port_raiseCore ..

/-- The pending attention causes with cause 2 counted as pending wherever it is enabled. -/
def State.attBound (s : State) : BitVec 3 := if (s.pv 0x4005).getLsbD 2 then s.twp.attPend ||| 4#3 else s.twp.attPend

theorem attBound_of_port {s t : State} (h : t.port = s.port) : t.attBound = s.attBound :=
  (congrArg (fun p : TwpSt × PrmSt => ({ State.reset with twp := p.1, prm := p.2 } : State).attBound) h :)

theorem attBound_attention (s : State) : (attention 2 s).attBound = s.attBound := by
  unfold attention
  split
  · next h =>
    have hen : (s.pv 0x4005).getLsbD 2 = true := (Bool.and_eq_true_iff.mp h).2
    have hpv (p : BitVec 3) : ({ s with twp.attPend := p } : State).pv 0x4005 = s.pv 0x4005 := rfl
    simp only [State.attBound, hpv, hen, if_true]
    exact (by decide : ∀ p : BitVec 3, setB p 2 true ||| 4#3 = p ||| 4#3) s.twp.attPend
  · rfl

theorem attBound_setCrit (n : Nat) (s : State) : (setCrit n s).attBound = s.attBound := by
  unfold setCrit
  split
  · rfl
  · rw [attBound_attention, attBound_of_port (port_wake _ _)]; rfl

theorem attBound_writeRec (r : Rec) (n : Nat) (bad : List Nat) (s : State) : (writeRec r n bad s).attBound = s.attBound := by
  have hdropped (u : State) (l : LogSt) (k : Nat) : (setCrit k { u with log := l }).attBound = u.attBound := attBound_setCrit _ _
  induction n generalizing s with
  | zero =>
    unfold writeRec
    split
    · exact hdropped _ _ _
    · rfl
  | succ n ih =>
    unfold writeRec
    split
    · exact hdropped _ _ _
    · have hite (c : Prop) [Decidable c] {t u : State} (ht : t.attBound = s.attBound) (hu : u.attBound = s.attBound) :
          (if c then t else u).attBound = s.attBound := by split <;> assumption
      have hwritten (c : Prop) [Decidable c] (l m : LogSt) :
          (if c then { s with log := l } else { s with log := m } : State).attBound = s.attBound := hite c rfl rfl
      refine hite _ ?_ (hite _ ((attBound_setCrit _ _).trans (hite _ ((attBound_of_port (port_raiseCore ..)).trans ?_) ?_))
        (hite _ ((attBound_of_port (port_raiseCore ..)).trans ?_) ?_))
      · rw [ih, attBound_of_port (port_raiseCore ..)]
        exact hdropped _ _ _
      all_goals exact hwritten _ _ _

theorem attBound_drain (bad : List Nat) (s : State) : (drain bad s).attBound = s.attBound :=
  foldl_keeps State.attBound _ (fun u r => by rw [attBound_of_port (port_bumpWin _ _), attBound_writeRec]; rfl) _ s

theorem attBound_reportOverflow (s : State) : (reportOverflow s).attBound = s.attBound := by
  unfold reportOverflow
  split
  · rfl
  · rw [attBound_setCrit, attBound_of_port (port_raiseCore ..)]; rfl

theorem attBound_flush (s : State) : (flush s).attBound = s.attBound := by
  unfold flush flushBad
  split
  · rfl
  · dsimp only
    split
    · rw [attBound_of_port (port_sendIrq _ _)]
      simp only [attBound_drain, attBound_reportOverflow]
    · simp only [attBound_drain, attBound_reportOverflow]

/-- Of the attention causes the report of an event can raise cause 2 alone, by the flush of its record. -/
theorem attBound_raise (c : W16) (v : Nat) (a b : W24) (s : State) : (raise c v a b s).attBound = s.attBound := by
  unfold raise raiseBy flushOn
  split
  · rw [attBound_flush, attBound_of_port (port_raiseCore ..)]
  · exact attBound_of_port (port_raiseCore ..)

theorem port_sync (s : State) : (sync s).port = s.port := by
  have hdue (u : State) : (sendDue u).port = u.port := by
    unfold sendDue
    split
    · rfl
    · exact foldl_keeps State.port _ (fun t k => by simp only [apply_ite State.port, port_putIrq, ite_self]) _ _
  have hmirror (u : State) : (mirrorSync u).port = u.port := by unfold mirrorSync; split <;> rfl
  exact (hdue _).trans (hmirror _)

theorem pv_of_quiet {s t : State} (h : t.quiet = s.quiet) (p : Nat) : t.pv p = s.pv p := (congrArg (fun u : State => u.pv p) h :)

/-- Where no cause is pending as an event is reported, at most cause 2 is pending after it, where it is enabled; the rest of the port stands. -/
theorem twp_sync_raise (c : W16) (v : Nat) (a b : W24) {s : State} (hnone : s.twp.attPend = 0) :
    ∃ p, (sync (raise c v a b s)).twp = { s.twp with attPend := p } ∧ (p = 0 ∨ p = 4 ∧ (s.pv 0x4005).getLsbD 2 = true) := by
  have hbound : (sync (raise c v a b s)).attBound = s.attBound := (attBound_of_port (port_sync _)).trans (attBound_raise c v a b s)
  have hq : (sync (raise c v a b s)).quiet = s.quiet := (quiet_sync _).trans (quiet_raise c v a b s)
  generalize sync (raise c v a b s) = t at hbound hq
  refine ⟨t.twp.attPend, (congrArg (fun u : State => { u.twp with attPend := t.twp.attPend }) hq :), ?_⟩
  simp only [State.attBound, pv_of_quiet hq, hnone] at hbound
  cases hen : (s.pv 0x4005).getLsbD 2 with
  | true =>
    rw [hen, if_pos rfl, if_pos rfl] at hbound
    exact ((by decide : ∀ p : BitVec 3, p ||| 4#3 = 0 ||| 4#3 → p = 0 ∨ p = 4) _ hbound).imp id (⟨·, rfl⟩)
  | false =>
    rw [hen] at hbound
    exact .inl hbound

/-! ### Transfers to a port that is awake (R418 to R420, R427) -/

/-- The port as an address byte finds it: SDA released, nothing returned, nothing acknowledged. -/
def State.addressed (s : State) : State := { s with twp.sdaLow := false, twp.out := [], twp.acked := false }

theorem twpTransfer_awake {s : State} (hawake : s.twp.asleep = false) (f : State → State) :
    twpTransfer f s = doneIf s.guardUp (fun u => f u.addressed) s := by
  have hport : s.addressed.portAsleep = false := by
    rw [State.portAsleep, show s.addressed.twp.asleep = false from hawake, Bool.false_and]
  exact doneIf_congr (if_pos (show (!s.addressed.portAsleep) = true by rw [hport]; rfl))

/-- A read's bytes returned, and SDA held where the controller stops on a 0 bit (R418, R419, R421). -/
def readOut (n : Nat) (hang : Bool) (s : State) : State :=
  { s with twp.out := (List.range n).map (fun k => s.twpStream.getD k 0xFF), twp.sdaLow := hang && !(s.twpStream.getD n 0xFF).getLsbD 7 }

theorem exec_statusRead (n : Nat) (hang : Bool) (s : State) : exec (.statusRead n hang) s = twpTransfer (readOut n hang) s := rfl

theorem statusRead_answers (n : Nat) (hang : Bool) {s : State} (hup : s.guardUp = true) (hawake : s.twp.asleep = false) :
    completesAs (.statusRead n hang) s { s with twp.acked := false, twp.out := (List.range n).map (fun k => s.twpStream.getD k 0xFF),
                                                twp.sdaLow := hang && !(s.twpStream.getD n 0xFF).getLsbD 7 } := by
  refine completesAs_of_doneIf ((exec_statusRead n hang s).trans (twpTransfer_awake hawake _)) hup ?_
  have hstream : s.addressed.twpStream = s.twpStream := rfl
  simp only [readOut, hstream]
  rfl

/-- A write of three bytes with its right CRC, as the port judges it (R420). -/
def rightWrite (cmd arg : Byte) (s : State) : List Byte := [cmd, arg, crc8 [s.twpAddr + s.twpAddr, cmd, arg]]

theorem twpWrite_heartbeat (n : Byte) (s : State) : twpWrite (rightWrite 0x5A n s) s = twpHeartbeat n s := by
  simp [twpWrite, rightWrite]

theorem twpWrite_stop (n : Byte) (s : State) : twpWrite (rightWrite 0xE5 n s) s = twpStop n s := by
  simp [twpWrite, rightWrite]

theorem twpWrite_release (s : State) : twpWrite (rightWrite 0xC3 0x3C s) s = twpRelease s := by
  simp [twpWrite, rightWrite]

theorem twpWrite_short {l : List Byte} (h : l.length < 3) (s : State) : twpWrite l s = badFrame 4 (l.getD 0 0) s := by
  match l, h with
  | [], _ => rfl
  | [_], _ => rfl
  | [_, _], _ => rfl

/-! ### Writes (R420, R423 to R426) -/

section
variable {s : State} (hawake : s.twp.asleep = false)
include hawake

theorem exec_heartbeat_awake (n : Byte) : exec (.heartbeat n (crc8 [s.twpAddr + s.twpAddr, 0x5A, n]) 0) s =
    doneIf s.guardUp (fun u => twpHeartbeat n u.addressed) s :=
  (twpTransfer_awake hawake _).trans (doneIf_congr (twpWrite_heartbeat n s.addressed))

theorem exec_stop_awake (n : Byte) : exec (.stop n (crc8 [s.twpAddr + s.twpAddr, 0xE5, n]) 0) s =
    doneIf s.guardUp (fun u => twpStop n u.addressed) s :=
  (twpTransfer_awake hawake _).trans (doneIf_congr (twpWrite_stop n s.addressed))

theorem exec_release_awake : exec (.release 0x3C (crc8 [s.twpAddr + s.twpAddr, 0xC3, 0x3C]) 0) s =
    doneIf s.guardUp (fun u => twpRelease u.addressed) s :=
  (twpTransfer_awake hawake _).trans (doneIf_congr (twpWrite_release s.addressed))

variable (hup : s.guardUp = true)
include hup

theorem heartbeat_follows (hok : s.twp.hbOk = true) :
    completesAs (.heartbeat (s.twp.counter + 1) (crc8 [s.twpAddr + s.twpAddr, 0x5A, s.twp.counter + 1]) 0) s { s with
      twp.counter := s.twp.counter + 1, twp.acked := true, twp.out := [], twp.sdaLow := false } := by
  refine completesAs_of_doneIf (exec_heartbeat_awake hawake _) hup ?_
  have hgap : (s.addressed.twp.hbOk && s.twp.counter + 1 != s.addressed.twp.counter + 1) = false := by
    rw [show s.addressed.twp.counter = s.twp.counter from rfl, bne_self_eq_false, Bool.and_false]
  have hkept : (s.addressed.twp.hbOk || !s.addressed.pb 0x4000) = true := by rw [show s.addressed.twp.hbOk = true from hok, Bool.true_or]
  rw [twpHeartbeat, if_neg (ne_true_of_eq_false hgap)]
  exact congrArg State.quiet (if_pos hkept)

theorem heartbeat_begins (n : Byte) (hok : s.twp.hbOk = false) (hen : s.pb 0x4000 = true) :
    completesAs (.heartbeat n (crc8 [s.twpAddr + s.twpAddr, 0x5A, n]) 0) s { s with
      twp.counter := n, twp.hbOk := true, twp.acked := true, twp.out := [], twp.sdaLow := false } := by
  refine completesAs_of_doneIf (exec_heartbeat_awake hawake n) hup ?_
  have hlost : s.addressed.twp.hbOk = false := hok
  have hfresh : (s.addressed.twp.hbOk || !s.addressed.pb 0x4000) = false := by rw [hlost, show s.addressed.pb 0x4000 = true from hen]; rfl
  rw [twpHeartbeat, if_neg (by rw [hlost, Bool.false_and]; decide)]
  rw [if_neg (ne_true_of_eq_false hfresh), quiet_raise]
  rfl

omit hawake hup in
/-- STOP apart from reports: the latch and the acknowledged CRC byte, then the guard's stop. -/
theorem quiet_twpStop (n : Byte) (s : State) : ∃ v : State, v.quiet = (twpAck { s with grd.stopLatch := true }).quiet ∧
    (twpStop n s).quiet = (guardStop 16 v).quiet :=
  ⟨raise 0x4001 6 (n.zeroExtend 24) (w24 s.grd.st.code) (twpAck { s with grd.stopLatch := true }), quiet_raise .., by
    unfold twpStop; exact quiet_wake 1 _⟩

/-- STOP (R329): the latch, and a guard that grants permits stopped with cause 16; another keeps its state and records the cause (R321). -/
theorem stop_stops (n : Byte) : completes (.stop n (crc8 [s.twpAddr + s.twpAddr, 0xE5, n]) 0) s (fun t => t.grd.stopLatch = true ∧ t.twp.acked = true ∧
    (s.grd.st.grants = true → t.grd.st = .safeStop ∧ t.grd.cause = 16 ∧ t.grd.permits = 0) ∧
    (s.grd.st.grants = false → t.grd.st = s.grd.st ∧ t.grd.cause = 16)) := by
  obtain ⟨v, hv, hstop⟩ := quiet_twpStop n s.addressed
  refine completes_of_doneIf_quiet (exec_stop_awake hawake n) hup hstop fun t hq => ?_
  have hgrd : v.grd = { s.grd with stopLatch := true } := (congrArg State.grd hv :)
  have hacked : v.twp.acked = true := (congrArg (fun u : State => u.twp.acked) hv :)
  cases hg : s.grd.st.grants with
  | true =>
    obtain ⟨l, hu⟩ := guardStop_stops (c := 16) (by decide) (s := v) (by rw [hgrd]; exact hg)
    have ht := (unreacted_of_quiet hq).trans hu
    have htg : t.grd = { s.grd with st := .safeStop, cause := 16, permits := 0, ramped := BitVec.allOnes 17, stopLatch := true } :=
      (congrArg State.grd ht :).trans (by simp only [State.unpermitted, hgrd]; rfl)
    rw [htg]
    exact ⟨rfl, (congrArg (fun u : State => u.twp.acked) ht :).trans hacked, fun _ => ⟨rfl, rfl, rfl⟩, fun h => absurd h (by decide)⟩
  | false =>
    rw [guardStop, if_neg (by rw [hgrd]; exact ne_true_of_eq_false hg)] at hq
    have htg : t.grd = { s.grd with stopLatch := true, cause := 16 } := (congrArg State.grd hq :).trans (by rw [hgrd]; rfl)
    rw [htg]
    exact ⟨rfl, (congrArg (fun u : State => u.twp.acked) hq :).trans hacked, fun h => absurd h (by decide), fun _ => ⟨rfl, rfl⟩⟩

theorem release_clears (hok : s.estopOk = true) (hlatch : s.grd.stopLatch = true) :
    completesAs (.release 0x3C (crc8 [s.twpAddr + s.twpAddr, 0xC3, 0x3C]) 0) s { s with
      grd.stopLatch := false, twp.acked := true, twp.out := [], twp.sdaLow := false } := by
  refine completesAs_of_doneIf (exec_release_awake hawake) hup ?_
  have hhealthy : s.addressed.estopOk = true := hok
  have hset : s.addressed.grd.stopLatch = true := hlatch
  simp only [twpRelease, hhealthy, hset, Bool.not_true, Bool.false_eq_true, if_false]
  rw [quiet_wake, quiet_raise]
  rfl

theorem unacceptedWrite_refused {l : List Byte} (h : l.length < 3) :
    completesAs (.unacceptedWrite l) s { s with twp.acked := false, twp.out := [], twp.sdaLow := false } := by
  refine completesAs_of_doneIf (twpTransfer_awake hawake _) hup ?_
  rw [twpWrite_short h, badFrame, quiet_raise]
  rfl

end

/-! ### The heartbeat lost, SDA, and the port's sleep (R421, R425, R427) -/

theorem exec_twpHbLost (s : State) : exec .twpHbLost s =
    doneIf (s.guardUp && s.twp.hbOk) (fun u => raise 0x4004 5 (u.twp.counter.zeroExtend 24) 0 { u with twp.hbOk := false }) s := rfl

theorem twpHbLost_loses {s : State} (hup : s.guardUp = true) (hok : s.twp.hbOk = true) :
    completesAs .twpHbLost s { s with twp.hbOk := false } := by
  refine completesAs_of_doneIf (exec_twpHbLost s) (by rw [hup, hok]; rfl) ?_
  rw [quiet_raise]

theorem sdaRelease_releases {s : State} (hlow : s.twp.sdaLow = true) : completesAs .sdaRelease s { s with twp.sdaLow := false } :=
  completesAs_of_doneIf (p := s.twp.sdaLow) (f := fun u => { u with twp.sdaLow := false }) rfl hlow rfl

theorem twpSleep_sleeps {s : State} (hup : s.guardUp = true) (hsleep : s.glb.sleep = true) (hawake : s.twp.asleep = false)
    (hnone : s.twp.attPend = 0) : completesAs .twpSleep s { s with twp.asleep := true, twp.waking := false } :=
  completesAs_of_doneIf (p := s.guardUp && s.glb.sleep && !s.twp.asleep && s.twp.attPend = 0#3)
    (f := fun u => { u with twp.asleep := true, twp.waking := false }) rfl (by rw [hup, hsleep, hawake, hnone]; rfl) rfl

theorem portWake_wakes {s : State} (hasleep : s.twp.asleep = true) (hwaking : s.twp.waking = true) :
    completesAs .portWake s { s with twp.asleep := false, twp.waking := false } :=
  completesAs_of_doneIf (p := s.twp.asleep && s.twp.waking) (f := portUp) rfl (by rw [hasleep, hwaking]; rfl) rfl

/-! ### The attention write (R428, R430) -/

/-- The attention byte of the pending causes (R428). -/
def State.attByte (s : State) : Byte := 0xA0#8 + s.twp.attPend.zeroExtend 8

/-- The port after an acknowledged attention write, and after a series given up. -/
def State.attSent (s : State) : State := { portUp s with twp.sent := s.attByte :: s.twp.sent, twp.attPend := 0, twp.attTries := 0 }
def State.attGivenUp (s : State) : State := { portUp s with twp.attPend := 0, twp.attTries := 0, twp.attWait := false }

/-- What one attempt at an attention write leaves. -/
def attTried (r : AttEnd) (s : State) : State := match r with
  | .acked => raise 0x4007 2 (s.attByte.zeroExtend 24) (w24 (s.twp.attTries + 1)) s.attSent
  | .noAck => attFail 1 (portUp s)
  | .lostArb => attFail 2 (portUp s)

theorem exec_attentionWrite (r : AttEnd) (s : State) : exec (.attentionWrite r) s = doneIf s.attDue (attTried r) s := by
  cases r <;> rfl

theorem exec_attBusTimeout (s : State) : exec .attBusTimeout s = doneIf s.attDue (fun u => attFail 3 (portUp u)) s := rfl

section
variable {s : State} (hdue : s.attDue = true)
include hdue

theorem attentionWrite_acked : completes (.attentionWrite .acked) s (fun t =>
    (t.twp.attPend = 0 ∨ t.twp.attPend = 4 ∧ (s.pv 0x4005).getLsbD 2 = true) ∧ t.twp.attTries = 0 ∧ t.twp.asleep = false ∧
      t.twp.sent = (0xA0#8 + s.twp.attPend.zeroExtend 8) :: s.twp.sent) := by
  refine completes_of_doneIf (exec_attentionWrite .acked s) hdue ?_
  obtain ⟨p, htwp, hp⟩ := twp_sync_raise 0x4007 2 (s.attByte.zeroExtend 24) (w24 (s.twp.attTries + 1)) (s := s.attSent) rfl
  rw [show attTried .acked s = raise 0x4007 2 (s.attByte.zeroExtend 24) (w24 (s.twp.attTries + 1)) s.attSent from rfl, htwp]
  exact ⟨hp, rfl, rfl, rfl⟩

/-- A failed attempt with retries left, as it leaves the port. -/
def State.attRetries (s : State) : State :=
  { s with twp.asleep := false, twp.waking := false, twp.attTries := s.twp.attTries + 1, twp.attWait := true }

omit hdue in
theorem attFail_retries (why : Nat) (hleft : s.twp.attTries < 8) : attFail why (portUp s) = s.attRetries := if_pos hleft

theorem attempt_retries (hleft : s.twp.attTries < 8) : completesAs (.attentionWrite .noAck) s s.attRetries ∧
    completesAs (.attentionWrite .lostArb) s s.attRetries ∧ completesAs .attBusTimeout s s.attRetries :=
  ⟨completesAs_of_doneIf (exec_attentionWrite .noAck s) hdue (congrArg State.quiet (attFail_retries 1 hleft)),
    completesAs_of_doneIf (exec_attentionWrite .lostArb s) hdue (congrArg State.quiet (attFail_retries 2 hleft)),
    completesAs_of_doneIf (exec_attBusTimeout s) hdue (congrArg State.quiet (attFail_retries 3 hleft))⟩

theorem attBusTimeout_gives_up (hover : 8 ≤ s.twp.attTries) : completes .attBusTimeout s (fun t => t.twp.attTries = 0 ∧ t.twp.attWait = false ∧
    ((s.pv 0x4005).getLsbD 2 = false → t.twp.attPend = 0)) := by
  refine completes_of_doneIf (exec_attBusTimeout s) hdue ?_
  have hfail : attFail 3 (portUp s) = raise 0x4008 5 (s.twp.attPend.zeroExtend 24) (w24 3) s.attGivenUp := if_neg (Nat.not_lt.mpr hover)
  obtain ⟨p, htwp, hp⟩ := twp_sync_raise 0x4008 5 (s.twp.attPend.zeroExtend 24) (w24 3) (s := s.attGivenUp) rfl
  rw [hfail, htwp]
  exact ⟨rfl, rfl, fun hoff => hp.resolve_right fun ⟨_, hon⟩ => absurd (hon.symm.trans hoff) (by decide)⟩

end

theorem attRetry_begins {s : State} (hwait : s.twp.attWait = true) : completesAs .attRetry s { s with twp.attWait := false } :=
  completesAs_of_doneIf (p := s.twp.attWait) (f := fun u => { u with twp.attWait := false }) rfl hwait rfl

/-- Settles O46, row by row: a transfer finds the port awake, STOP acts through the guard's stop, and the report of an attention write can raise
cause 2 alone again. -/
theorem twoWirePortAnswers : Obligations.TwoWirePortAnswers := by
  refine ⟨fun s n h hup hawake => statusRead_answers n h hup hawake, fun s n hup hawake => ⟨?follows, ?begins, ?stop, ?release⟩,
    fun s l hup hawake hl => unacceptedWrite_refused hawake hup hl, fun s hup hok => twpHbLost_loses hup hok,
    fun s hlow => sdaRelease_releases hlow, fun s hup hsleep hawake hnone => twpSleep_sleeps hup hsleep hawake hnone,
    fun s hasleep hwaking => portWake_wakes hasleep hwaking,
    fun s hdue => ⟨attentionWrite_acked hdue, attempt_retries hdue, attBusTimeout_gives_up hdue⟩, fun s hwait => attRetry_begins hwait⟩
  case follows => rintro hok rfl; exact heartbeat_follows hawake hup hok
  case begins => exact heartbeat_begins hawake hup n
  case stop => exact stop_stops hawake hup n
  case release => exact release_clears hawake hup

end Sys2Proof.Machine
end

section
/-! One pass of the guard (R321, R326, R335, Tables 10-1 and 10-2): its parts, and what its end leaves. -/

namespace Sys2Proof.Machine

/-! ### The parts of a pass -/

/-- The transition of a pass on the judged state: a trip cause first, else what Table 10-2 lets the pass make (R321). -/
def passMoved (v : State) : State := if (passTrip v).grd.st = v.grd.st then passState (passTrip v) else passTrip v

/-- The GUARD_ACK that waits, answered after the transition of a pass that began in state `g` (R330). -/
def passAcked (g : GuardState) (u : State) : State := match u.ring.block with
  | some (.guardAck d) => passAck g d u
  | _ => u

/-- The end of a pass of `s`: permits switched, the lines follow, and the car is restored where the guard first grants (R335, R363). -/
def passEnd (s u : State) : State :=
  let t := setLines (applyPermits u)
  if !s.glb.guardSeen && t.glb.guardSeen then liftRestore t else t

theorem passHalts_of_none {s : State} (h : s.dbg.haltWait = 0) : passHalts s = s := by
  have hnone (k : Nat) : s.dbg.haltWait.getLsbD k = false := by rw [h]; exact BitVec.getLsbD_zero
  exact List.foldl_fixed' (fun k => if_neg (by rw [hnone, Bool.false_and]; decide)) _

theorem passTrip_haltWait (v : State) : (passTrip v).dbg = v.dbg := by
  have htrip {c : Nat} (hc : c ≠ 0) : (guardTrip c v).dbg = v.dbg := by
    by_cases h : v.grd.st = .trip
    · rw [guardTrip, if_pos h]
    · exact (congrArg State.dbg (guardTrip_trips_from hc h) :)
  unfold passTrip
  split
  · exact htrip (by decide)
  · split
    · exact htrip (by decide)
    · rfl

/-! ### The transition of a pass -/

section
variable {v : State}

theorem passTrip_of_rules (hcopy : v.latticeCopy = v.grd.copyB) (hgr : v.grd.st.grants = true) (hrule : v.tripRule = true) :
    passTrip v = guardTrip 3 v := by
  simp [passTrip, hcopy, hgr, hrule]

theorem passTrip_of_copies (hcopy : v.latticeCopy ≠ v.grd.copyB) (hst : v.grd.st ≠ .trip) : passTrip v = guardTrip 9 v := by
  simp [passTrip, hcopy, hst]

theorem passTrip_of_none (hcopy : v.latticeCopy = v.grd.copyB) (hno : v.grd.st.grants = false ∨ v.tripRule = false) : passTrip v = v := by
  have hboth : (v.grd.st.grants && v.tripRule) = false := by rcases hno with h | h <;> simp [h]
  simp [passTrip, hcopy, hboth]

theorem passMoved_of_trip {c : Nat} (hc : c ≠ 0) (h : passTrip v = guardTrip c v) (hst : v.grd.st ≠ .trip) : passMoved v = guardTrip c v := by
  have htrip : (guardTrip c v).grd.st = .trip := (guardTrip_trips hc v).2.1
  rw [passMoved, h, if_neg (by rw [htrip]; exact Ne.symm hst)]

theorem passMoved_of_none (h : passTrip v = v) : passMoved v = passState v := by
  rw [passMoved, h, if_pos rfl]

/-- From RUN and RESTRICT the pass leaves RUN without a failing rule and RESTRICT with one (Table 10-2). -/
theorem passState_grants (hgr : v.grd.st.grants = true) : ∃ l x, (passState v).quiet = ({ v with
    grd.st := if v.grd.failing = 0#32 then .run else .restrict, mot.lines := l, glb.guardSeen := x } : State).quiet := by
  have hstays {g : GuardState} (h : v.grd.st = g) : v.quiet = ({ v with
      grd.st := g, mot.lines := v.mot.lines, glb.guardSeen := v.glb.guardSeen } : State).quiet := by rw [← h]
  unfold passState
  split
  case h_1 hst =>
    by_cases hf : v.grd.failing = 0#32
    · rw [if_neg (by simp [hf]), if_pos hf]
      exact ⟨_, _, hstays hst⟩
    · rw [if_pos (by simp [hf]), if_neg hf]
      obtain ⟨l, hq⟩ := quiet_enterGuard .restrict 0 v
      exact ⟨l, _, hq⟩
  case h_2 hst =>
    by_cases hf : v.grd.failing = 0#32
    · rw [if_pos hf, if_pos hf]
      obtain ⟨l, hq⟩ := quiet_enterGuard .run 0 v
      exact ⟨l, _, hq⟩
    · rw [if_neg hf, if_neg hf]
      exact ⟨_, _, hstays hst⟩
  all_goals next hst => rw [hst] at hgr; exact absurd hgr (by decide)

/-- Where the pass leaves a state that grants no permit (Table 10-2). -/
def State.passLeads (v : State) : GuardState := match v.grd.st with
  | .safeStop => if v.started = true ∧ v.machineStill = true then .lockout else .safeStop
  | .trip => if v.tripComplete = true ∧ v.tripHeld = false ∧ v.started = true then .lockout else .trip
  | g => g

theorem passLeads_of_safeStop (hst : v.grd.st = .safeStop) :
    v.passLeads = if v.started = true ∧ v.machineStill = true then .lockout else .safeStop := by simp only [State.passLeads, hst]

theorem passLeads_of_trip (hst : v.grd.st = .trip) :
    v.passLeads = if v.tripComplete = true ∧ v.tripHeld = false ∧ v.started = true then .lockout else .trip := by
  simp only [State.passLeads, hst]

theorem passLeads_of_lockout (hst : v.grd.st = .lockout) : v.passLeads = .lockout := by simp only [State.passLeads, hst]

theorem passState_grants_not (hgr : v.grd.st.grants = false) : ∃ l, (passState v).quiet = ({ v with
    grd.st := v.passLeads, mot.lines := l } : State).quiet := by
  have hstays {g : GuardState} (h : v.grd.st = g) : v.quiet = ({ v with grd.st := g, mot.lines := v.mot.lines } : State).quiet := by rw [← h]
  have hleaves : ∃ l, (enterGuard .lockout 0 v).quiet = ({ v with grd.st := .lockout, mot.lines := l } : State).quiet := by
    obtain ⟨l, hq⟩ := quiet_enterGuard .lockout 0 v
    exact ⟨l, hq.trans (by rw [if_pos rfl, show (v.glb.guardSeen || GuardState.lockout.grants) = v.glb.guardSeen from Bool.or_false _])⟩
  unfold passState
  split
  case h_1 hst => rw [hst] at hgr; exact absurd hgr (by decide)
  case h_2 hst => rw [hst] at hgr; exact absurd hgr (by decide)
  case h_3 hst =>
    simp only [passLeads_of_safeStop hst, Bool.and_eq_true]
    split
    · exact hleaves
    · exact ⟨_, hstays hst⟩
  case h_4 hst =>
    simp only [passLeads_of_trip hst, Bool.and_eq_true, Bool.not_eq_true', and_assoc]
    split
    · exact hleaves
    · exact ⟨_, hstays hst⟩
  case h_5 hst =>
    rw [passLeads_of_lockout hst]
    exact ⟨_, hstays hst⟩

end

/-! ### The judged state of a pass -/

/-- The state on which a pass decides: the beat moved, the rules judged (R335). -/
@[irreducible] def judged (s : State) : State := judgeRules (beatPass s)

section
variable (s : State)

theorem judged_eq : ∃ n b, judged s = { judgeRules s with grd.beatPass := n, grd.beat := b } := by
  unfold judged beatPass
  split
  · exact ⟨_, _, rfl⟩
  · exact ⟨_, _, rfl⟩

@[simp] theorem judged_st : (judged s).grd.st = s.grd.st := by obtain ⟨n, b, h⟩ := judged_eq s; rw [h]; rfl
@[simp] theorem judged_failing : (judged s).grd.failing = (judgeRules s).grd.failing := by obtain ⟨n, b, h⟩ := judged_eq s; rw [h]
@[simp] theorem judged_latched : (judged s).grd.latched = (judgeRules s).grd.latched := by obtain ⟨n, b, h⟩ := judged_eq s; rw [h]
@[simp] theorem judged_copyB : (judged s).grd.copyB = s.grd.copyB := by obtain ⟨n, b, h⟩ := judged_eq s; rw [h]; rfl
@[simp] theorem judged_latticeCopy : (judged s).latticeCopy = s.latticeCopy := by obtain ⟨n, b, h⟩ := judged_eq s; rw [h]; rfl
@[simp] theorem judged_tripRule : (judged s).tripRule = (judgeRules s).tripRule := by obtain ⟨n, b, h⟩ := judged_eq s; rw [h]; rfl
@[simp] theorem judged_granted : (judged s).granted = (judgeRules s).granted := by obtain ⟨n, b, h⟩ := judged_eq s; rw [h]; rfl
@[simp] theorem judged_passLeads : (judged s).passLeads = s.passLeads := by obtain ⟨n, b, h⟩ := judged_eq s; rw [h]; rfl
@[simp] theorem judged_block : (judged s).ring.block = s.ring.block := by obtain ⟨n, b, h⟩ := judged_eq s; rw [h]; rfl
@[simp] theorem judged_guardSeen : (judged s).glb.guardSeen = s.glb.guardSeen := by obtain ⟨n, b, h⟩ := judged_eq s; rw [h]; rfl

theorem judged_calm {s : State} (h : s.calm) : (judged s).calm := by obtain ⟨n, b, hj⟩ := judged_eq s; rw [hj]; exact h

end

theorem guardPass_eq {s : State} (h : s.dbg.haltWait = 0) : guardPass s = passEnd s (passAcked (judged s).grd.st (passMoved (judged s))) := by
  have hwait : (judged s).dbg.haltWait = 0 := by
    obtain ⟨n, b, hj⟩ := judged_eq s
    rw [hj]
    exact h
  have hhalts : passHalts (passTrip (judged s)) = passTrip (judged s) := passHalts_of_none (by rw [passTrip_haltWait, hwait])
  unfold judged at hhalts ⊢
  unfold guardPass
  dsimp only
  rw [hhalts]
  rfl

/-! ### The end of a pass -/

/-- The state without reports, drives, axes and SLEEP_READY. -/
def State.offAxes (s : State) : State := { s.offDrives with mot.ax := Vector.replicate 5 {}, host.sleepReady := false }

theorem offAxes_axEnable (a : Nat) (s : State) : (axEnable a s).offAxes = s.offAxes := by
  unfold axEnable
  dsimp only
  split
  · rfl
  · rfl

/-- The restoring of the car changes axes and drives alone (R363). -/
theorem offAxes_liftRestore (s : State) : (liftRestore s).offAxes = s.offAxes := by
  have henable := offAxes_axEnable 0 s
  unfold liftRestore
  generalize axEnable 0 s = t at henable ⊢
  dsimp only
  split
  · split
    · exact henable
    · exact henable
  · rfl

/-- What the end of a pass leaves of the state `u` that it finds: the permits are those granted on it, and journal, completions, decoder and
stages stand but for the outcomes of commands and a restored car. -/
structure Ended (s u t : State) : Prop where
  grd : ∃ m, t.grd = { u.grd with permits := u.granted, ramped := m }
  seen : t.glb.guardSeen = u.glb.guardSeen
  lines : u.grd.st = .trip → t.mot.lines = false
  calm : u.calm → t.calm
  block : t.ring.block = u.ring.block
  posted : t.posted = u.posted
  jrn : u.ring.outstanding = [] → t.jrn = u.jrn
  stages : u.glb.guardSeen = s.glb.guardSeen → u.stagesOff → t.stagesOff

theorem ended_of_applied {s u t : State} {m : BitVec 17} (h : Reacts { u with grd.permits := u.granted, grd.ramped := m } t) :
    Ended s u (setLines t) where
  grd := ⟨m, h.grd⟩
  seen := (congrArg (fun w : State => w.glb.guardSeen) h.unreacted :)
  lines hst := by
    have ht : t.grd.st = .trip := by rw [h.grd]; exact hst
    simp [setLines, State.linesNow, ht]
  calm hu := (calm_of_unreacted h.unreacted hu : t.calm)
  block := (congrArg (fun w : State => w.ring.block) h.unreacted :)
  posted := (congrArg State.posted h.unreacted :)
  jrn hnone := (h.journals_nothing hnone).2
  stages _ hoff := h.stagesOff hoff

/-- What changes axes and SLEEP_READY alone, and axes only as the guard first grants, ends a pass too. -/
theorem Ended.of_offAxes {s u t w : State} (h : Ended s u t) (hw : w.offAxes = t.offAxes)
    (hax : u.glb.guardSeen = s.glb.guardSeen → w.mot.ax = t.mot.ax) : Ended s u w where
  grd := h.grd.imp fun _ hm => (congrArg State.grd hw :).trans hm
  seen := (congrArg (fun v : State => v.glb.guardSeen) hw :).trans h.seen
  lines hst := (congrArg (fun v : State => v.mot.lines) hw :).trans (h.lines hst)
  calm hu := calm_of_unreacted (congrArg State.unreacted hw :) (h.calm hu)
  block := (congrArg (fun v : State => v.ring.block) hw :).trans h.block
  posted := (congrArg State.posted hw :).trans h.posted
  jrn hnone := (congrArg State.jrn hw :).trans (h.jrn hnone)
  stages hseen hoff := stagesOff_of_mot (hax hseen) (h.stages hseen hoff)

theorem passEnd_ended (s u : State) : Ended s u (passEnd s u) := by
  obtain ⟨m, hm⟩ := applyPermits_reacts u
  have h : Ended s u (setLines (applyPermits u)) := ended_of_applied hm
  unfold passEnd
  generalize setLines (applyPermits u) = t at h ⊢
  dsimp only
  split
  · next hfirst =>
    refine h.of_offAxes (offAxes_liftRestore t) fun hseen => ?_
    rw [← h.seen.trans hseen] at hfirst
    exact absurd hfirst (by simp)
  · exact h

theorem exec_guardPass (s : State) : exec .guardPass s = doneRIf s.guardUp guardPass s := rfl

/-- A pass without a halt request completes as its end leaves the state after its transition and its answer to GUARD_ACK. -/
theorem guardPass_completes {s u : State} {P : State → Prop} (hup : s.guardUp = true) (hwait : s.dbg.haltWait = 0)
    (hu : passAcked (judged s).grd.st (passMoved (judged s)) = u) (hcalm : u.calm)
    (hP : ∀ t, Ended s u t → P t) : completes .guardPass s P := by
  have hend := passEnd_ended s u
  refine completes_of_doneRIf (exec_guardPass s) hup ?_
  rw [guardPass_eq hwait, hu]
  generalize passEnd s u = t at hend ⊢
  obtain ⟨x, hq⟩ := quiet_sync_resume_calm (hend.calm hcalm)
  exact hP _ (hend.of_offAxes (congrArg State.offAxes hq :) fun _ => (congrArg (fun w : State => w.mot.ax) hq :))

end Sys2Proof.Machine
end

section
/-! What the guard's events do (R320 to R328, R333, R335, Tables 10-1 and 10-2). -/

namespace Sys2Proof.Machine

theorem grants_of_running {g : GuardState} (h : g = .run ∨ g = .restrict) : g.grants = true := by
  rcases h with rfl | rfl <;> rfl

theorem not_trip_of_grants {g : GuardState} (h : g.grants = true) : g ≠ .trip := by
  rintro rfl; exact absurd h (by decide)

/-! ### The permits granted (R326) -/

theorem granted_of_grants_not {s : State} (h : s.grd.st.grants = false) : s.granted = 0 := by simp [State.granted, h]

/-- What is granted depends on the guard's state only in whether it grants. -/
theorem granted_of_moved {s t : State} {g : GuardState} {l x : Bool} (h : t.quiet = ({ s with
    grd.st := g, mot.lines := l, glb.guardSeen := x } : State).quiet) (hg : g.grants = s.grd.st.grants) : t.granted = s.granted := by
  have ht : t.granted = ({ s with grd.st := g, mot.lines := l, glb.guardSeen := x } : State).granted := (congrArg State.granted h :)
  rw [ht, State.granted, State.granted, show ({ s with grd.st := g, mot.lines := l, glb.guardSeen := x } : State).grd.st.grants =
    s.grd.st.grants from hg]
  rfl

/-! ### A pass without GUARD_ACK -/

theorem passLeads_grants_not {s : State} (h : s.grd.st.grants = false) : s.passLeads.grants = false := by
  cases hst : s.grd.st with
  | run => rw [hst] at h; exact absurd h (by decide)
  | restrict => rw [hst] at h; exact absurd h (by decide)
  | safeStop => rw [passLeads_of_safeStop hst]; split <;> rfl
  | trip => rw [passLeads_of_trip hst]; split <;> rfl
  | lockout => rw [passLeads_of_lockout hst]; rfl

theorem passAcked_of_none {u : State} (g : GuardState) (h : ∀ d, u.ring.block ≠ some (.guardAck d)) : passAcked g u = u := by
  unfold passAcked
  split
  · next d hd => exact absurd hd (h d)
  · rfl

section
variable {s : State} (hup : s.guardUp = true) (hwait : s.dbg.haltWait = 0) (hnone : ∀ d, s.ring.block ≠ some (.guardAck d))
include hup hwait hnone

/-- A pass with no GUARD_ACK waiting ends its own transition. -/
theorem guardPass_moves {u : State} {P : State → Prop} (hmoved : passMoved (judged s) = u)
    (hblock : u.ring.block = s.ring.block) (hucalm : u.calm) (hP : ∀ t, Ended s u t → P t) : completes .guardPass s P :=
  guardPass_completes hup hwait (hmoved ▸ passAcked_of_none _ (by rw [hmoved, hblock]; exact hnone))
    hucalm hP

variable (hcalm : s.calm)
include hcalm

theorem guardPass_trips {c : Nat} (hc : c ≠ 0) (htrip : passTrip (judged s) = guardTrip c (judged s)) (hst : s.grd.st ≠ .trip) :
    completes .guardPass s (fun t => t.grd.st = .trip ∧ t.grd.cause = Fin.ofNat 32 c ∧ t.grd.permits = 0 ∧ t.mot.lines = false ∧ t.stagesOff) := by
  have hfrom : (judged s).grd.st ≠ .trip := by rwa [judged_st]
  have hkept := guardTrip_trips_from hc hfrom
  have hoff := guardTrip_stagesOff c hfrom
  have hmoved := passMoved_of_trip hc htrip hfrom
  generalize guardTrip c (judged s) = u at hkept hoff hmoved
  have hugrd : u.grd = { (judged s).grd with st := .trip, cause := Fin.ofNat 32 c, permits := 0, ramped := BitVec.allOnes 17 } :=
    (congrArg State.grd hkept :)
  have hust : u.grd.st = .trip := by rw [hugrd]
  have hblock : u.ring.block = s.ring.block := (congrArg (fun w : State => w.ring.block) hkept :).trans (judged_block s)
  have hseen : u.glb.guardSeen = s.glb.guardSeen := (congrArg (fun w : State => w.glb.guardSeen) hkept :).trans (judged_guardSeen s)
  refine guardPass_moves hup hwait hnone hmoved hblock (calm_of_unreacted hkept (judged_calm hcalm)) fun t ht => ?_
  obtain ⟨m, htgrd⟩ := ht.grd
  rw [htgrd, granted_of_grants_not (by rw [hust]; rfl), hugrd]
  exact ⟨rfl, rfl, rfl, ht.lines hust, ht.stages hseen hoff⟩

theorem guardPass_permits (hcopy : s.latticeCopy = s.grd.copyB) (hgr : s.grd.st.grants = true) (hrule : (judgeRules s).tripRule = false) :
    completes .guardPass s (fun t => t.grd.st = (if (judgeRules s).grd.failing = 0#32 then .run else .restrict) ∧
      t.grd.failing = (judgeRules s).grd.failing ∧ t.grd.latched = (judgeRules s).grd.latched ∧ t.grd.permits = (judgeRules s).granted) := by
  obtain ⟨l, x, hq⟩ := passState_grants (v := judged s) (by rwa [judged_st])
  have hmoved := passMoved_of_none (passTrip_of_none (v := judged s) (by simpa using hcopy) (.inr (by simpa using hrule)))
  rw [judged_failing] at hq
  generalize passState (judged s) = u at hq hmoved
  have hgranted : u.granted = (judgeRules s).granted := by
    rw [granted_of_moved hq (by rw [judged_st, hgr]; split <;> rfl), judged_granted]
  refine guardPass_moves hup hwait hnone hmoved ((congrArg (fun w : State => w.ring.block) hq :).trans (judged_block s))
    (calm_of_offMachine (offMachine_of_quiet hq) (judged_calm hcalm)) fun t ht => ?_
  obtain ⟨m, htgrd⟩ := ht.grd
  rw [htgrd, hgranted, grd_of_quiet hq]
  exact ⟨rfl, judged_failing s, judged_latched s, rfl⟩

/-- SAFE_STOP, TRIP and LOCKOUT: left as `passLeads` says, without a permit. -/
theorem guardPass_locks (hcopy : s.latticeCopy = s.grd.copyB) (hgr : s.grd.st.grants = false) :
    completes .guardPass s (fun t => t.grd.st = s.passLeads ∧ t.grd.permits = 0) := by
  obtain ⟨l, hq⟩ := passState_grants_not (v := judged s) (by rwa [judged_st])
  have hmoved := passMoved_of_none (passTrip_of_none (v := judged s) (by simpa using hcopy) (.inl (by simpa using hgr)))
  rw [judged_passLeads] at hq
  generalize passState (judged s) = u at hq hmoved
  have hust : u.grd.st = s.passLeads := by rw [grd_of_quiet hq]
  refine guardPass_moves hup hwait hnone hmoved ((congrArg (fun w : State => w.ring.block) hq :).trans (judged_block s))
    (calm_of_offMachine (offMachine_of_quiet hq) (judged_calm hcalm)) fun t ht => ?_
  obtain ⟨m, htgrd⟩ := ht.grd
  rw [htgrd, granted_of_grants_not (by rw [hust]; exact passLeads_grants_not hgr), hust]
  exact ⟨rfl, rfl⟩

end

/-! ### Trips by an event of its own -/

theorem guardTrip_grd_from {c : Nat} (hc : c ≠ 0) {s : State} (h : s.grd.st ≠ .trip) : (guardTrip c s).grd =
    { s.grd with st := .trip, cause := Fin.ofNat 32 c, permits := 0, ramped := BitVec.allOnes 17 } :=
  (congrArg State.grd (guardTrip_trips_from hc h) :)

theorem guardTrip_of_trip (c : Nat) {s : State} (h : s.grd.st = .trip) : guardTrip c s = { s with grd.cause := Fin.ofNat 32 c } := if_pos h

/-- What a trip leaves, whatever the guard's state before it. -/
structure Tripped (c : Nat) (s t : State) : Prop where
  st : t.grd.st = .trip
  cause : t.grd.cause = Fin.ofNat 32 c
  estopA : t.grd.estopA = s.grd.estopA
  estopB : t.grd.estopB = s.grd.estopB
  disc : t.grd.disc = s.grd.disc
  lines : (s.grd.st = .trip → s.mot.lines = false) → t.mot.lines = false
  drives : s.grd.st ≠ .trip → t.grd.permits = 0 ∧ t.stagesOff

theorem guardTrip_tripped {c : Nat} (hc : c ≠ 0) (s : State) : Tripped c s (guardTrip c s) := by
  by_cases h : s.grd.st = .trip
  · rw [guardTrip_of_trip c h]
    exact ⟨h, rfl, rfl, rfl, rfl, fun hlines => hlines h, fun hne => absurd h hne⟩
  · have hgrd := guardTrip_grd_from hc h
    exact ⟨by rw [hgrd], by rw [hgrd], by rw [hgrd], by rw [hgrd], by rw [hgrd], fun _ => (guardTrip_trips hc s).2.2.2 h,
      fun _ => ⟨by rw [hgrd], guardTrip_stagesOff c h⟩⟩

theorem Tripped.of_quiet {c : Nat} {s u t v : State} (h : Tripped c u t) (hu : u.quiet = s.quiet) (hv : v.quiet = t.quiet) : Tripped c s v := by
  have hs := grd_of_quiet hu
  have hlines := lines_of_quiet hu
  have hvgrd := grd_of_quiet hv
  have hstages : t.stagesOff → v.stagesOff := stagesOff_of_mot (congrArg (fun w : State => w.mot.ax) hv :)
  obtain ⟨hst, hcause, ha, hb, hd, hl, hdrives⟩ := h
  rw [hs] at ha hb hd hl hdrives
  rw [hlines] at hl
  exact ⟨by rw [hvgrd, hst], by rw [hvgrd, hcause], by rw [hvgrd, ha], by rw [hvgrd, hb], by rw [hvgrd, hd],
    fun h => (lines_of_quiet hv).trans (hl h), fun h => ⟨by rw [hvgrd]; exact (hdrives h).1, hstages (hdrives h).2⟩⟩

/-! ### ESTOP, its discrepancy, and the time of SAFE_STOP (R321, R323, R324) -/

/-- The ESTOP levels taken, the lines following (R323). -/
def estopTaken (a b : Bool) (s : State) : State := setLines (discTrack { s with grd.estopA := a, grd.estopB := b })

/-- Whether an ESTOP channel falls. -/
def State.estopFalls (s : State) (a b : Bool) : Bool := (s.grd.estopA && !a) || (s.grd.estopB && !b)

theorem exec_estop (a b : Bool) (s : State) : exec (.estop a b) s = if s.estopFalls a b && s.guardUp
    then done (guardTrip 1 (raise 0x3802 6 (w24 (bit (!a) + 2 * bit (!b))) 0 (estopTaken a b s))) else done (estopTaken a b s) := rfl

theorem discTrack_eq (s : State) : ∃ x l k, discTrack s = { s with grd.disc := x, grd.bothLow := l, grd.lowSeen := k } := by
  unfold discTrack
  dsimp only
  split
  · exact ⟨s.grd.disc, _, _, rfl⟩
  · split
    · exact ⟨s.grd.disc, _, s.grd.lowSeen, rfl⟩
    · split
      · exact ⟨_, _, _, rfl⟩
      · exact ⟨s.grd.disc, _, _, rfl⟩

/-- The levels taken change neither the guard's state nor an axis; in TRIP the lines are inactive. -/
theorem estopTaken_shows (a b : Bool) (s : State) : (estopTaken a b s).grd.estopA = a ∧ (estopTaken a b s).grd.estopB = b ∧
    (estopTaken a b s).grd.st = s.grd.st ∧ (estopTaken a b s).grd.cause = s.grd.cause ∧ (estopTaken a b s).mot.ax = s.mot.ax ∧
    (s.grd.st = .trip → (estopTaken a b s).mot.lines = false) := by
  obtain ⟨x, l, k, h⟩ := discTrack_eq { s with grd.estopA := a, grd.estopB := b }
  rw [estopTaken, h]
  exact ⟨rfl, rfl, rfl, rfl, rfl, fun hst => by simp [setLines, State.linesNow, hst]⟩

theorem estop_trips {s : State} {a b : Bool} (hup : s.guardUp = true) (hfell : (s.grd.estopA = true ∧ a = false) ∨ (s.grd.estopB = true ∧ b = false)) :
    completes (.estop a b) s (fun t => t.grd.st = .trip ∧ t.grd.cause = 1 ∧ t.grd.estopA = a ∧ t.grd.estopB = b ∧ t.mot.lines = false ∧
      (s.grd.st ≠ .trip → t.grd.permits = 0 ∧ t.stagesOff)) := by
  have hfalls : (s.estopFalls a b && s.guardUp) = true := by
    rw [hup, Bool.and_true]
    rcases hfell with ⟨h, rfl⟩ | ⟨h, rfl⟩ <;> simp [State.estopFalls, h]
  obtain ⟨ha, hb, hst, -, -, hlines⟩ := estopTaken_shows a b s
  have hraise := quiet_raise 0x3802 6 (w24 (bit (!a) + 2 * bit (!b))) 0 (estopTaken a b s)
  refine ⟨_, (exec_estop a b s).trans (if_pos hfalls), ?_⟩
  have ht := (guardTrip_tripped (c := 1) (by decide) _).of_quiet hraise (quiet_sync _)
  rw [← hst] at hlines ⊢
  exact ⟨ht.st, ht.cause, ht.estopA.trans ha, ht.estopB.trans hb, ht.lines hlines, ht.drives⟩

theorem channel_stays {x y : Bool} (h : x = true → y = true) : (x && !y) = false := by
  cases x with
  | false => rfl
  | true => rw [h rfl]; rfl

theorem estop_shows {s : State} {a b : Bool} (hquiet : s.guardUp = false ∨ ((s.grd.estopA = true → a = true) ∧ (s.grd.estopB = true → b = true))) :
    completes (.estop a b) s (fun t => t.grd.estopA = a ∧ t.grd.estopB = b ∧ t.grd.st = s.grd.st ∧ t.grd.cause = s.grd.cause ∧
      t.mot.ax = s.mot.ax) := by
  have hstays : (s.estopFalls a b && s.guardUp) = false := by
    rcases hquiet with h | ⟨ha, hb⟩
    · rw [h, Bool.and_false]
    · rw [State.estopFalls, channel_stays ha, channel_stays hb]; rfl
  obtain ⟨ha, hb, hst, hcause, hax, -⟩ := estopTaken_shows a b s
  refine ⟨_, (exec_estop a b s).trans (if_neg (ne_true_of_eq_false hstays)), ?_⟩
  have hq := quiet_sync (estopTaken a b s)
  generalize sync (estopTaken a b s) = t at hq ⊢
  beta_reduce
  rw [grd_of_quiet hq]
  exact ⟨ha, hb, hst, hcause, (congrArg (fun w : State => w.mot.ax) hq :).trans hax⟩

theorem exec_estopDiscrepancy (s : State) : exec .estopDiscrepancy s = doneIf (s.guardUp && s.grd.estopA != s.grd.estopB && !s.grd.disc) (fun s =>
    guardTrip 2 (raise 0x3803 6 (w24 (bit s.grd.estopA)) 0 { s with grd.disc := true, grd.bothLow := none, grd.lowSeen := false })) s := rfl

theorem estopDiscrepancy_trips {s : State} (hup : s.guardUp = true) (hdiff : s.grd.estopA ≠ s.grd.estopB) (hnew : s.grd.disc = false) :
    completes .estopDiscrepancy s (fun t => t.grd.disc = true ∧ t.grd.st = .trip ∧ t.grd.cause = 2 ∧
      (s.grd.st ≠ .trip → t.grd.permits = 0 ∧ t.stagesOff)) := by
  refine completes_of_doneIf (exec_estopDiscrepancy s) (by rw [hup, hnew, bne_iff_ne.mpr hdiff]; rfl) ?_
  have ht := (guardTrip_tripped (c := 2) (by decide) _).of_quiet (quiet_raise 0x3803 6 (w24 (bit s.grd.estopA)) 0
    { s with grd.disc := true, grd.bothLow := none, grd.lowSeen := false }) (quiet_sync _)
  exact ⟨ht.disc, ht.st, ht.cause, ht.drives⟩

theorem exec_safeStopTimeout (s : State) : exec .safeStopTimeout s =
    doneIf (s.guardUp && s.started && s.grd.st = .safeStop) (guardTrip 8) s := rfl

theorem safeStopTimeout_trips {s : State} (hup : s.guardUp = true) (hstarted : s.started = true) (hst : s.grd.st = .safeStop) :
    completes .safeStopTimeout s (fun t => t.grd.st = .trip ∧ t.grd.cause = 8 ∧ t.grd.permits = 0 ∧ t.stagesOff) := by
  refine completes_of_doneIf (exec_safeStopTimeout s) (by rw [hup, hstarted, hst]; rfl) ?_
  have ht := (guardTrip_tripped (c := 8) (by decide) s).of_quiet rfl (quiet_sync _)
  obtain ⟨hpermits, hstages⟩ := ht.drives (by rw [hst]; decide)
  exact ⟨ht.st, ht.cause, hpermits, hstages⟩

/-! ### The statement -/

theorem completes_imp {c : Instr} {s : State} {P Q : State → Prop} (h : completes c s P) (hPQ : ∀ t, P t → Q t) : completes c s Q :=
  h.imp fun t ⟨hx, hp⟩ => ⟨hx, hPQ t hp⟩

/-- Settles O38: the pass case by case of the guard's state, then the events that trip at once. -/
theorem guardEventsAct : Obligations.GuardEventsAct := by
  refine ⟨fun s hup hcalm hwait hnone => ⟨fun hcopy => ⟨?permits, ?rule, ?safeStop, ?trip, ?lockout⟩, ?copies⟩,
    fun s a b hup hfell => estop_trips hup hfell, fun s a b hquiet => estop_shows hquiet,
    fun s hup hdiff hnew => estopDiscrepancy_trips hup hdiff hnew, fun s hup hstarted hst => safeStopTimeout_trips hup hstarted hst⟩
  case permits => exact fun hst hrule => guardPass_permits hup hwait hnone hcalm hcopy (grants_of_running hst) hrule
  case rule =>
    intro hst hrule
    have hgr := grants_of_running hst
    exact guardPass_trips hup hwait hnone hcalm (by decide) (passTrip_of_rules (by simpa using hcopy) (by simpa using hgr) (by simpa using hrule))
      (not_trip_of_grants hgr)
  case safeStop => exact fun hst => passLeads_of_safeStop hst ▸ guardPass_locks hup hwait hnone hcalm hcopy (by rw [hst]; rfl)
  case trip => exact fun hst => passLeads_of_trip hst ▸ guardPass_locks hup hwait hnone hcalm hcopy (by rw [hst]; rfl)
  case lockout => exact fun hst => passLeads_of_lockout hst ▸ guardPass_locks hup hwait hnone hcalm hcopy (by rw [hst]; rfl)
  case copies =>
    intro hcopy hst
    exact completes_imp (guardPass_trips hup hwait hnone hcalm (by decide) (passTrip_of_copies (by simpa using hcopy) (by simpa using hst)) hst)
      fun t ⟨h, hcause, hpermits, _, hstages⟩ => ⟨h, hcause, hpermits, hstages⟩

end Sys2Proof.Machine
end

section
/-! GUARD_ACK (R330, Tables 6-14, 10-2 and 10-6): at the decoder, and at the pass that judges it. -/

namespace Sys2Proof.Machine

/-! ### The command at the decoder -/

/-- A command whose meaning is a refusal (R166). -/
theorem refusedAs_of_meaning {c : Instr} {op : Byte} {d : Desc} {st : Status} {s : State} (hx : exec c s = command op d s) (ht : s.takes d)
    (hst : st.accepted = false) (hd : decodeOp op d (s.fetched d) = refuse op d st 0 (s.fetched d)) : refusedAs c op d st s := by
  have hrun : (s.fetched d).host.running = true := takes_running (s := s) ht
  have hopen : (s.fetched d).dmaOpen = true := takes_open (s := s) ht
  have hput : refuse op d st 0 (s.fetched d) = putCpl op d.tag (dUrgent d) st 0 0 0 (s.fetched d) := by
    simp only [refuse, postCpl, hst, hrun, hopen, Bool.and_false, Bool.not_true, Bool.or_self, Bool.false_eq_true, if_false, if_true]; rfl
  have hq := quiet_putCpl op d.tag (dUrgent d) st 0 0 0 (s.fetched d)
  rw [← hput] at hq
  refine completes_of_meaning hx ht hd ((congrArg (fun u : State => u.ring.sleepReq) hq :).trans (takes_awake (s := s) ht)) fun t htq => ?_
  have h := htq.trans hq
  exact ⟨(congrArg (fun u : State => u.ring.cplProd) h :), (congrArg (fun u : State => u.ring.cpl) h :), (congrArg State.jrn h :),
    (congrArg (fun u : State => u.ring.outstanding) h :), (rest_of_quiet h).trans rfl⟩

/-- The state in which GUARD_ACK waits for the pass. -/
def State.acking (s : State) (d : Desc) : State := { s.fetched d with ring.block := some (.guardAck d) }

section
variable {s : State} {d : Desc} (ht : s.takes d) (hs : s.serves 0x50) (hform : formOk d false false m0 m0 m0 m0 m0 = true)
include ht hs hform

omit ht in
theorem decodeOp_guardAck_eq : decodeOp 0x50 d (s.fetched d) = if s.heldAtSafe 4 then refuse 0x50 d .busy 0 (s.fetched d) else s.acking d := by
  have hserves : (s.fetched d).serves 0x50 := hs
  show decGuardAck d (s.fetched d) = _
  rw [decGuardAck, gate_passes hserves hform]
  rfl

/-- GUARD_ACK waits in the decoder, apart from reports as its descriptor was fetched. -/
theorem guardAck_blocks (hfree : s.heldAtSafe 4 = false) {P : State → Prop} (hP : ∀ t, t.quiet = (s.acking d).quiet → P t) :
    completes (.guardAck d) s P :=
  completes_of_meaning (op := 0x50) (v := s.acking d) rfl ht ((decodeOp_guardAck_eq hs hform).trans (if_neg (ne_true_of_eq_false hfree)))
    (takes_awake (s := s) ht) hP

theorem guardAck_waits (hfree : s.heldAtSafe 4 = false) :
    completes (.guardAck d) s (fun t => t.ring.block = some (.guardAck d) ∧ t.ring.cplProd = s.ring.cplProd ∧ t.ring.cpl = s.ring.cpl ∧
      t.jrn = s.jrn ∧ t.rest = s.rest) :=
  guardAck_blocks ht hs hform hfree fun _ hq => ⟨(congrArg (fun u : State => u.ring.block) hq :), (congrArg (fun u : State => u.ring.cplProd) hq :),
    (congrArg (fun u : State => u.ring.cpl) hq :), (congrArg State.jrn hq :), (rest_of_quiet hq).trans rfl⟩

theorem guardAck_busy (hheld : s.heldAtSafe 4 = true) : refusedAs (.guardAck d) 0x50 d .busy s :=
  refusedAs_of_meaning rfl ht rfl ((decodeOp_guardAck_eq hs hform).trans (if_pos hheld))

end

/-! ### The answers of a pass -/

/-- GUARD_ACK answered INTERLOCK with the guard's state (R330). -/
def ackDenied (d : Desc) (t : State) : State := postCpl 0x50 d .interlock 0 (w24 t.grd.st.code) 0 t

/-- GUARD_ACK accepted: the event, the journal entry, and OK with the guard's state (R330). -/
def ackGranted (d : Desc) (t : State) : State := acceptOk 0x50 d (w24 t.grd.st.code) 0 (raise 0x3806 3 (w24 t.grd.st.code) 0 t)

/-- The latches of rules that do not fail now cleared (R332). -/
def ackClears (t : State) : State :=
  { t with grd.latched := t.grd.latched &&& t.ruleFails, grd.failing := t.ruleFails ||| (t.grd.latched &&& t.ruleFails) }

theorem or_and_absorbs (f l : BitVec 32) : f ||| (l &&& f) = f := by
  ext i hi
  simp only [BitVec.getElem_or, BitVec.getElem_and]
  cases f[i] <;> simp

theorem ackClears_eq (t : State) : ackClears t = { t with grd.latched := t.grd.latched &&& t.ruleFails, grd.failing := t.ruleFails } := by
  rw [ackClears, or_and_absorbs]

/-- The state but for what an answer changes: reports, journal and completions. -/
def State.unanswered (s : State) : State := { s.quiet with jrn := {}, ring.cpl := [], ring.cplProd := 0 }

theorem unanswered_of_quiet {s t : State} (h : t.quiet = s.quiet) : t.unanswered = s.unanswered := (congrArg State.unanswered h :)

theorem unanswered_postCpl (op : Byte) (d : Desc) (st : Status) (q : Nat) (r : W24) (x : Byte) (s : State) :
    (postCpl op d st q r x s).unanswered = s.unanswered := by
  obtain ⟨l, p, hq⟩ := quiet_postCpl op d st q r x s
  exact (unanswered_of_quiet hq).trans rfl

section
variable {s w : State} (d : Desc)

theorem unanswered_ackDenied (w : State) : (ackDenied d w).unanswered = w.unanswered := unanswered_postCpl _ _ _ _ _ _ _

theorem jrn_ackDenied (w : State) : (ackDenied d w).jrn = w.jrn := by
  obtain ⟨l, p, hq⟩ := quiet_postCpl 0x50 d .interlock 0 (w24 w.grd.st.code) 0 w
  exact (congrArg State.jrn hq :)

theorem ackDenied_completed (ha : Accepting s (w.asks false)) : Completed 0x50 d .interlock 0 (w24 w.grd.st.code) 0 s (ackDenied d w) :=
  postCpl_completed 0x50 d .interlock 0 _ 0 s w ha.running ha.dma ha.cpl ha.prod (by rw [State.ringLog, show w.host.ringSize = _ from ha.size]; rfl)

theorem unanswered_acceptOk (op : Byte) (d : Desc) (r : W24) (x : Byte) (s : State) : (acceptOk op d r x s).unanswered = s.unanswered :=
  (unanswered_postCpl _ _ _ _ _ _ _).trans rfl

theorem unanswered_ackGranted (w : State) : (ackGranted d w).unanswered = w.unanswered :=
  (unanswered_acceptOk _ _ _ _ _).trans (unanswered_of_quiet (quiet_raise _ _ _ _ _))

theorem ackGranted_completed (ha : Accepting s (w.asks false)) : Journaled 0x50 d .ok s (ackGranted d w) ∧
    Completed 0x50 d .ok (s.jrn.head + 1) (w24 w.grd.st.code) 0 s (ackGranted d w) := by
  have hraise := quiet_raise 0x3806 3 (w24 w.grd.st.code) 0 w
  unfold ackGranted
  generalize raise 0x3806 3 (w24 w.grd.st.code) 0 w = v at hraise ⊢
  have hv : Accepting s (v.asks false) := accepting_of_quiet ha (congrArg (fun u : State => (u.asks false).quiet) hraise :)
  obtain ⟨hj, hc, -⟩ := acceptOk_awaited 0x50 d (w24 w.grd.st.code) 0 hv
  exact ⟨hj, hc⟩

end

/-! ### GUARD_ACK after the transition of a pass -/

section
variable {u : State} {d : Desc}

theorem passAck_of_started {g : GuardState} (hg : g = .safeStop ∨ g = .trip) : passAck g d u = ackDenied d u.unblocked := by
  unfold passAck
  exact if_pos (by rcases hg with rfl | rfl <;> rfl)

variable {g : GuardState} (hg : g ≠ .safeStop ∧ g ≠ .trip)
include hg

theorem passAck_of_lockout (hst : u.grd.st = .lockout) : passAck g d u =
    if u.ackFails != 0#8 then ackDenied d (raise 0x3807 3 (u.ackFails.zeroExtend 24) 0 u.unblocked)
    else if (ackClears u.unblocked).tripRule then ackDenied d (guardTrip 3 (ackClears u.unblocked))
    else ackGranted d (enterGuard (if (ackClears u.unblocked).grd.failing = 0#32 then .run else .restrict) 0 (ackClears u.unblocked)) := by
  unfold passAck
  simp only [hg.1, hg.2, decide_false, Bool.or_self, Bool.false_eq_true, if_false]
  split
  · next h => exact absurd (hst.symm.trans h) (by decide)
  · next h => exact absurd (hst.symm.trans h) (by decide)
  · rfl
  · next h => exact absurd hst h

theorem passAck_of_grants (hgr : u.grd.st.grants = true) : passAck g d u = ackGranted d
    (if (ackClears u.unblocked).grd.failing = 0#32 && (ackClears u.unblocked).grd.st = .restrict then enterGuard .run 0 (ackClears u.unblocked)
      else ackClears u.unblocked) := by
  have hne {k : GuardState} (h : u.grd.st = k) (hk : k.grants = false) : False := by rw [h, hk] at hgr; exact absurd hgr (by decide)
  unfold passAck
  simp only [hg.1, hg.2, decide_false, Bool.or_self, Bool.false_eq_true, if_false]
  split
  · next h => exact (hne h rfl).elim
  · next h => exact (hne h rfl).elim
  · next h => exact (hne h rfl).elim
  · rfl

end

end Sys2Proof.Machine
end

section
/-! The passes that judge GUARD_ACK (R330, R332, Tables 10-2 and 10-6). -/

namespace Sys2Proof.Machine

/-! ### The state that the answer leaves -/

/-- The state moved to a guard state, the decoder free. -/
def State.settled (v : State) (g : GuardState) (l k : Bool) : State :=
  { v with grd.st := g, mot.lines := l, glb.guardSeen := k, ring.block := none }

/-- The latches of rules that do not fail now cleared (R332). -/
def State.cleared (v : State) : State := { v with grd.latched := v.grd.latched &&& v.ruleFails, grd.failing := v.ruleFails }

theorem ruleFails_settled (v : State) (g : GuardState) (l k : Bool) : (v.settled g l k).ruleFails = v.ruleFails := rfl

theorem cleared_settled (v : State) (g : GuardState) (l k : Bool) : (v.settled g l k).cleared = v.cleared.settled g l k := by
  rw [State.cleared, ruleFails_settled]
  rfl

theorem quiet_ackClears {u v : State} {g : GuardState} {l k : Bool} (hq : u.unblocked.quiet = (v.settled g l k).quiet) :
    (ackClears u.unblocked).quiet = (v.cleared.settled g l k).quiet := by
  have hclears : u.unblocked.cleared.quiet = (v.settled g l k).cleared.quiet := (congrArg (fun w : State => w.cleared.quiet) hq :)
  rw [cleared_settled] at hclears
  exact (congrArg State.quiet (ackClears_eq u.unblocked)).trans hclears

theorem tripRule_of_quiet {s t : State} (h : t.quiet = s.quiet) : t.tripRule = s.tripRule := (congrArg State.tripRule h :)

theorem tripRule_settled (v : State) (g : GuardState) (l k : Bool) : (v.settled g l k).tripRule = v.tripRule := rfl

/-- What the rules say once the latches are cleared on the moved state. -/
theorem ackClears_judges {u v : State} {g : GuardState} {l k : Bool} (hq : u.unblocked.quiet = (v.settled g l k).quiet) :
    (ackClears u.unblocked).tripRule = v.cleared.tripRule ∧ (ackClears u.unblocked).grd.failing = v.ruleFails ∧
      (ackClears u.unblocked).grd.st = g := by
  have hclears := quiet_ackClears hq
  refine ⟨(tripRule_of_quiet hclears).trans (tripRule_settled _ _ _ _), ?_, ?_⟩
  · rw [grd_of_quiet hclears]; rfl
  · rw [grd_of_quiet hclears]; rfl

theorem quiet_enterGuard_settled {y v : State} {g : GuardState} {l k : Bool} (hy : y.quiet = (v.settled g l k).quiet) {h : GuardState}
    (hgr : h.grants = true) : ∃ m, (enterGuard h 0 y).quiet = (v.settled h m true).quiet := by
  obtain ⟨m, hq⟩ := quiet_enterGuard h 0 y
  rw [if_pos rfl, hgr, Bool.or_true] at hq
  exact ⟨m, hq.trans (congrArg (fun w : State => ({ w with grd.st := h, glb.guardSeen := true, mot.lines := m } : State).quiet) hy :)⟩

theorem accepting_settled {s v : State} (ha : Accepting s (v.asks false)) (g : GuardState) (l k : Bool) :
    Accepting s ((v.settled g l k).asks false) := by
  obtain ⟨hj, hc, hp, ho, hz, hr, hd, hw⟩ := ha
  exact ⟨hj, hc, hp, ho, hz, hr, hd, hw⟩

theorem accepting_guard {s v : State} (ha : Accepting s (v.asks false)) (x : GuardSt) : Accepting s (({ v with grd := x } : State).asks false) := by
  obtain ⟨hj, hc, hp, ho, hz, hr, hd, hw⟩ := ha
  exact ⟨hj, hc, hp, ho, hz, hr, hd, hw⟩

theorem accepting_cleared {s v : State} (ha : Accepting s (v.asks false)) : Accepting s (v.cleared.asks false) :=
  accepting_guard ha { v.grd with latched := v.grd.latched &&& v.ruleFails, failing := v.ruleFails }

theorem accepting_asks_of_quiet {s u v : State} (h : Accepting s (u.asks false)) (hq : v.quiet = u.quiet) : Accepting s (v.asks false) :=
  accepting_of_quiet h (congrArg (fun w : State => (w.asks false).quiet) hq :)

theorem calm_of_unanswered {s t : State} (h : t.unanswered = s.unanswered) (hs : s.calm) : t.calm := by
  obtain ⟨hb, hd, hp, hstop⟩ := hs
  exact ⟨(congrArg (fun u : State => u.ring.backlog) h :).trans hb, (congrArg (fun u : State => u.host.d3Due) h :).trans hd,
    (congrArg (fun u : State => u.host.pmeDue) h :).trans hp, (congrArg (fun u : State => u.host.stopping) h :).trans hstop⟩

/-! ### The judged state -/

section
variable (s : State)

theorem judged_ackFails : (judged s).ackFails = s.ackFails := by obtain ⟨n, b, h⟩ := judged_eq s; rw [h]; rfl
theorem judged_ruleFails : (judged s).ruleFails = s.ruleFails := by obtain ⟨n, b, h⟩ := judged_eq s; rw [h]; rfl

theorem judged_tripRules : (judged s).rulesWhere (fun r => (judged s).ruleAct r = 2) = s.rulesWhere (fun r => s.ruleAct r = 2) := by
  obtain ⟨n, b, h⟩ := judged_eq s; rw [h]; rfl

theorem tripRules_guard (v : State) (x : GuardSt) : ({ v with grd := x } : State).rulesWhere (fun r => ({ v with grd := x } : State).ruleAct r = 2) =
    v.rulesWhere (fun r => v.ruleAct r = 2) := rfl

/-- Whether a rule with loss action TRIP fails once the latches are cleared (R326). -/
theorem judged_cleared_tripRule : (judged s).cleared.tripRule =
    (s.ruleFails &&& s.rulesWhere (fun r => s.ruleAct r = 2) != 0#32) := by
  rw [State.tripRule, State.cleared, tripRules_guard, judged_tripRules, judged_ruleFails]

theorem accepting_judged {s : State} (hrun : s.host.running = true) (hopen : s.dmaOpen = true) : Accepting s ((judged s).asks false) := by
  obtain ⟨n, b, h⟩ := judged_eq s
  rw [h]
  exact ⟨rfl, rfl, rfl, rfl, rfl, hrun, hopen, rfl⟩

end

end Sys2Proof.Machine
end

section
/-! GUARD_ACK judged at the pass (R330, R332, Tables 10-2 and 10-6), state by state of the guard. -/

namespace Sys2Proof.Machine

/-- GUARD_ACK accepted by a pass of `s` that ends in the guard state `g`: answered and journaled, its latches cleared (R330, R332). -/
structure Acknowledged (s : State) (d : Desc) (g : GuardState) (k : Bool) (t : State) : Prop where
  st : t.grd.st = g
  block : t.ring.block = none
  latched : t.grd.latched = (judgeRules s).grd.latched &&& s.ruleFails
  failing : t.grd.failing = s.ruleFails
  seen : t.glb.guardSeen = k
  answer : Completed 0x50 d .ok (s.jrn.head + 1) (w24 t.grd.st.code) 0 s t
  journaled : s.ring.outstanding = [] → Journaled 0x50 d .ok s t

/-- GUARD_ACK refused by a pass of `s` that ends in the guard state `g` (R330). -/
structure Denied (s : State) (d : Desc) (g : GuardState) (t : State) : Prop where
  st : t.grd.st = g
  block : t.ring.block = none
  answer : Completed 0x50 d .interlock 0 (w24 t.grd.st.code) 0 s t
  jrn : s.ring.outstanding = [] → t.jrn = s.jrn

theorem Ended.st {s u t : State} (h : Ended s u t) : t.grd.st = u.grd.st := by
  obtain ⟨m, hm⟩ := h.grd
  rw [hm]

section
variable {s : State} {d : Desc} {w t : State} {g : GuardState} {l k : Bool} (hrun : s.host.running = true) (hopen : s.dmaOpen = true)
include hrun hopen

theorem acknowledged_of_ended (hw : w.quiet = ((judged s).cleared.settled g l k).quiet) (ht : Ended s (ackGranted d w) t) :
    Acknowledged s d g k t := by
  have hacc := accepting_asks_of_quiet (accepting_settled (accepting_cleared (accepting_judged hrun hopen)) g l k) hw
  have hkept := unanswered_ackGranted d w
  obtain ⟨hjrn, hdone⟩ := ackGranted_completed d hacc
  generalize ackGranted d w = u at ht hkept hjrn hdone
  obtain ⟨m, hm⟩ := ht.grd
  have hgrd : u.grd = w.grd := (congrArg State.grd hkept :)
  have hst : w.grd.st = g := by rw [grd_of_quiet hw]; rfl
  have htst : t.grd.st = w.grd.st := by rw [ht.st, hgrd]
  have hlatched : w.grd.latched = (judgeRules s).grd.latched &&& s.ruleFails := by
    rw [grd_of_quiet hw, ← judged_latched, ← judged_ruleFails]; rfl
  have hfailing : w.grd.failing = s.ruleFails := by rw [grd_of_quiet hw, ← judged_ruleFails]; rfl
  have hseen : w.glb.guardSeen = k := (congrArg (fun v : State => v.glb.guardSeen) hw :)
  have hblock : w.ring.block = none := (congrArg (fun v : State => v.ring.block) hw :)
  have hout : u.ring.outstanding = w.ring.outstanding := (congrArg (fun v : State => v.ring.outstanding) hkept :)
  exact {
    st := htst.trans hst
    block := ht.block.trans ((congrArg (fun v : State => v.ring.block) hkept :).trans hblock)
    latched := by rw [hm, hgrd, ← hlatched]
    failing := by rw [hm, hgrd, ← hfailing]
    seen := ht.seen.trans ((congrArg (fun v : State => v.glb.guardSeen) hkept :).trans hseen)
    answer := by rw [htst]; exact completed_of_posted hdone ht.posted
    journaled := fun hnone => journaled_of_jrn hjrn (ht.jrn (hout.trans (hacc.out.trans hnone))) }

theorem denied_of_ended (hw : w.quiet = ((judged s).settled g l k).quiet) (ht : Ended s (ackDenied d w) t) : Denied s d g t := by
  have hacc := accepting_asks_of_quiet (accepting_settled (accepting_judged hrun hopen) g l k) hw
  have hkept := unanswered_ackDenied d w
  have hjrn := jrn_ackDenied d w
  have hdone := ackDenied_completed d hacc
  generalize ackDenied d w = u at ht hkept hjrn hdone
  have hst : w.grd.st = g := by rw [grd_of_quiet hw]; rfl
  have htst : t.grd.st = w.grd.st := ht.st.trans (congrArg (fun v : State => v.grd.st) hkept :)
  have hblock : w.ring.block = none := (congrArg (fun v : State => v.ring.block) hw :)
  have hout : u.ring.outstanding = w.ring.outstanding := (congrArg (fun v : State => v.ring.outstanding) hkept :)
  exact {
    st := htst.trans hst
    block := ht.block.trans ((congrArg (fun v : State => v.ring.block) hkept :).trans hblock)
    answer := by rw [htst]; exact completed_of_posted hdone ht.posted
    jrn := fun hnone => (ht.jrn (hout.trans (hacc.out.trans hnone))).trans (hjrn.trans hacc.jrn) }

end

/-! ### The pass with GUARD_ACK waiting -/

theorem passAcked_of_block {u : State} {d : Desc} (g : GuardState) (h : u.ring.block = some (.guardAck d)) : passAcked g u = passAck g d u := by
  simp only [passAcked, h]

theorem calm_settled {v : State} (h : v.calm) (g : GuardState) (l k : Bool) : (v.settled g l k).calm := h
theorem calm_guard {v : State} (h : v.calm) (x : GuardSt) : ({ v with grd := x } : State).calm := h
theorem calm_cleared {v : State} (h : v.calm) : v.cleared.calm :=
  calm_guard h { v.grd with latched := v.grd.latched &&& v.ruleFails, failing := v.ruleFails }

section
variable {s : State} {d : Desc} (hup : s.guardUp = true) (hcalm : s.calm) (hwait : s.dbg.haltWait = 0)

section
variable (hrun : s.host.running = true) (hopen : s.dmaOpen = true) {w : State} {g : GuardState} {l k : Bool}
include hup hcalm hwait hrun hopen

theorem guardPass_acknowledges (hw : w.quiet = ((judged s).cleared.settled g l k).quiet)
    (hu : passAcked (judged s).grd.st (passMoved (judged s)) = ackGranted d w) : completes .guardPass s (Acknowledged s d g k) :=
  guardPass_completes hup hwait hu (calm_of_unanswered (unanswered_ackGranted d w)
    (calm_of_offMachine (offMachine_of_quiet hw) (calm_settled (calm_cleared (judged_calm hcalm)) g l k)))
    fun _ ht => acknowledged_of_ended hrun hopen hw ht

theorem guardPass_denies (hw : w.quiet = ((judged s).settled g l k).quiet)
    (hu : passAcked (judged s).grd.st (passMoved (judged s)) = ackDenied d w) : completes .guardPass s (Denied s d g) :=
  guardPass_completes hup hwait hu (calm_of_unanswered (unanswered_ackDenied d w)
    (calm_of_offMachine (offMachine_of_quiet hw) (calm_settled (judged_calm hcalm) g l k)))
    fun _ ht => denied_of_ended hrun hopen hw ht

end

variable (hcopy : s.latticeCopy = s.grd.copyB) (hblock : s.ring.block = some (.guardAck d))
include hcopy hblock

/-- Outside RUN and RESTRICT the pass moves the guard as `passLeads` says and then answers. -/
theorem passMoved_locks (hgr : s.grd.st.grants = false) : ∃ u l, passAcked (judged s).grd.st (passMoved (judged s)) = passAck s.grd.st d u ∧
    u.grd.st = s.passLeads ∧ u.ackFails = s.ackFails ∧ u.unblocked.quiet = ((judged s).settled s.passLeads l s.glb.guardSeen).quiet := by
  obtain ⟨l, hq⟩ := passState_grants_not (v := judged s) (by rwa [judged_st])
  have hmoved := passMoved_of_none (passTrip_of_none (v := judged s) (by simpa using hcopy) (.inl (by simpa using hgr)))
  have hu : (passState (judged s)).ring.block = some (.guardAck d) := ((congrArg (fun w : State => w.ring.block) hq :).trans (judged_block s)).trans hblock
  rw [judged_passLeads] at hq
  refine ⟨passState (judged s), l, ?_, ?_, ?_, ?_⟩
  · rw [hmoved, passAcked_of_block _ hu, judged_st]
  · rw [grd_of_quiet hq]
  · rw [← judged_ackFails s]
    exact (congrArg State.ackFails hq :)
  · rw [← judged_guardSeen s]
    exact (congrArg (fun w : State => w.unblocked.quiet) hq :)

/-- In RUN and RESTRICT the pass takes the rules' verdict and then answers. -/
theorem passMoved_grants (hgr : s.grd.st.grants = true) (hrule : (judgeRules s).tripRule = false) :
    ∃ u l k, passAcked (judged s).grd.st (passMoved (judged s)) = passAck s.grd.st d u ∧
      u.unblocked.quiet = ((judged s).settled (if (judgeRules s).grd.failing = 0#32 then .run else .restrict) l k).quiet := by
  obtain ⟨l, k, hq⟩ := passState_grants (v := judged s) (by rwa [judged_st])
  have hmoved := passMoved_of_none (passTrip_of_none (v := judged s) (by simpa using hcopy) (.inr (by simpa using hrule)))
  have hu : (passState (judged s)).ring.block = some (.guardAck d) := ((congrArg (fun w : State => w.ring.block) hq :).trans (judged_block s)).trans hblock
  rw [judged_failing] at hq
  refine ⟨passState (judged s), l, k, ?_, (congrArg (fun w : State => w.unblocked.quiet) hq :)⟩
  rw [hmoved, passAcked_of_block _ hu, judged_st]

/-! ### Case by case of the guard's state -/

section
include hup hcalm hwait hcopy hblock

theorem lockout_trips (hst : s.grd.st = .lockout) (hclear : s.ackFails = 0)
    (hrule : s.ruleFails &&& s.rulesWhere (fun r => s.ruleAct r = 2) ≠ 0#32) :
    completes .guardPass s (fun t => t.grd.st = .trip ∧ t.grd.cause = 3 ∧ t.ring.block = none ∧ t.grd.permits = 0) := by
  obtain ⟨u, l, hmoved, hust, hfails, hq⟩ := passMoved_locks hcopy hblock (by rw [hst]; rfl)
  rw [passLeads_of_lockout hst] at hust hq
  obtain ⟨htrip, -, hyst⟩ := ackClears_judges hq
  rw [judged_cleared_tripRule] at htrip
  have hclears := quiet_ackClears hq
  have hpass : passAck s.grd.st d u = ackDenied d (guardTrip 3 (ackClears u.unblocked)) := by
    rw [passAck_of_lockout (by simp [hst]) hust, hfails, hclear, htrip, if_neg (by decide), if_pos (bne_iff_ne.mpr hrule)]
  generalize ackClears u.unblocked = y at hclears hyst hpass
  have hfrom : y.grd.st ≠ .trip := by rw [hyst]; decide
  have hy := guardTrip_trips_from (c := 3) (by decide) hfrom
  have hkept := unanswered_ackDenied d (guardTrip 3 y)
  have hycalm : y.calm := calm_of_offMachine (offMachine_of_quiet hclears) (calm_settled (calm_cleared (judged_calm hcalm)) _ _ _)
  have hcalmu : (ackDenied d (guardTrip 3 y)).calm := calm_of_unanswered hkept (calm_of_unreacted hy hycalm)
  have hgrd : (ackDenied d (guardTrip 3 y)).grd = { y.grd with st := .trip, cause := 3, permits := 0, ramped := BitVec.allOnes 17 } :=
    (congrArg State.grd hkept :).trans (guardTrip_grd_from (by decide) hfrom)
  have hfree : (ackDenied d (guardTrip 3 y)).ring.block = none := (congrArg (fun v : State => v.ring.block) hkept :).trans
    ((congrArg (fun v : State => v.ring.block) hy :).trans (congrArg (fun v : State => v.ring.block) hclears :))
  refine guardPass_completes hup hwait (hmoved.trans hpass) hcalmu fun t ht => ?_
  obtain ⟨m, hm⟩ := ht.grd
  have hnone : (ackDenied d (guardTrip 3 y)).granted = 0 := granted_of_grants_not (by rw [hgrd]; rfl)
  rw [hm, hnone, hgrd]
  exact ⟨rfl, rfl, ht.block.trans hfree, rfl⟩

variable (hrun : s.host.running = true) (hopen : s.dmaOpen = true)
include hrun hopen

theorem lockout_denies (hst : s.grd.st = .lockout) (hfails : s.ackFails ≠ 0) : completes .guardPass s (Denied s d .lockout) := by
  obtain ⟨u, l, hmoved, hust, hufails, hq⟩ := passMoved_locks hcopy hblock (by rw [hst]; rfl)
  rw [passLeads_of_lockout hst] at hust hq
  refine guardPass_denies hup hcalm hwait hrun hopen ((quiet_raise 0x3807 3 (s.ackFails.zeroExtend 24) 0 u.unblocked).trans hq) (hmoved.trans ?_)
  rw [passAck_of_lockout (by simp [hst]) hust, hufails]
  exact if_pos (bne_iff_ne.mpr hfails)

theorem lockout_acknowledges (hst : s.grd.st = .lockout) (hclear : s.ackFails = 0)
    (hrule : s.ruleFails &&& s.rulesWhere (fun r => s.ruleAct r = 2) = 0#32) :
    completes .guardPass s (Acknowledged s d (if s.ruleFails = 0#32 then .run else .restrict) true) := by
  obtain ⟨u, l, hmoved, hust, hfails, hq⟩ := passMoved_locks hcopy hblock (by rw [hst]; rfl)
  rw [passLeads_of_lockout hst] at hust hq
  obtain ⟨htrip, hfailing, -⟩ := ackClears_judges hq
  rw [judged_cleared_tripRule] at htrip
  rw [judged_ruleFails] at hfailing
  obtain ⟨m, hw⟩ := quiet_enterGuard_settled (quiet_ackClears hq) (h := if s.ruleFails = 0#32 then .run else .restrict) (by split <;> rfl)
  refine guardPass_acknowledges hup hcalm hwait hrun hopen hw (hmoved.trans ?_)
  rw [passAck_of_lockout (by simp [hst]) hust, hfails, hclear, htrip, hrule, hfailing, if_neg (by decide), if_neg (by decide)]

theorem grants_acknowledges (hst : s.grd.st = .run ∨ s.grd.st = .restrict) (hrule : (judgeRules s).tripRule = false) :
    ∃ k, completes .guardPass s (Acknowledged s d (if s.ruleFails = 0#32 then .run else .restrict) k) := by
  obtain ⟨u, l, k, hmoved, hq⟩ := passMoved_grants hcopy hblock (grants_of_running hst) hrule
  obtain ⟨-, hfailing, hyst⟩ := ackClears_judges hq
  rw [judged_ruleFails] at hfailing
  have hclears := quiet_ackClears hq
  have hgr : u.grd.st.grants = true := by
    have hust : u.grd.st = _ := (congrArg (fun v : State => v.grd.st) hq :)
    rw [hust]
    show (if _ then _ else _ : GuardState).grants = true
    split <;> rfl
  have hpass := passAck_of_grants (d := d) (g := s.grd.st) (by rcases hst with h | h <;> simp [h]) hgr
  rw [hfailing, hyst] at hpass
  generalize ackClears u.unblocked = y at hclears hyst hpass
  by_cases hf : s.ruleFails = 0#32
  · rw [if_pos hf]
    by_cases hjudged : (judgeRules s).grd.failing = 0#32
    · rw [if_pos hjudged] at hclears hpass
      exact ⟨k, guardPass_acknowledges hup hcalm hwait hrun hopen hclears (hmoved.trans (hpass.trans (by simp)))⟩
    · rw [if_neg hjudged] at hclears hpass
      obtain ⟨m, hw⟩ := quiet_enterGuard_settled hclears (h := .run) rfl
      exact ⟨true, guardPass_acknowledges hup hcalm hwait hrun hopen hw (hmoved.trans (hpass.trans (by simp [hf])))⟩
  · have hjudged : (judgeRules s).grd.failing ≠ 0#32 := fun h => hf (BitVec.or_eq_zero_iff.mp h).1
    rw [if_neg hjudged] at hclears
    rw [if_neg hf]
    exact ⟨k, guardPass_acknowledges hup hcalm hwait hrun hopen hclears (hmoved.trans (hpass.trans (by simp [hf])))⟩

theorem started_denies (hst : s.grd.st = .safeStop ∨ s.grd.st = .trip) : completes .guardPass s (Denied s d s.passLeads) := by
  obtain ⟨u, l, hmoved, -, -, hq⟩ := passMoved_locks hcopy hblock (by rcases hst with h | h <;> rw [h] <;> rfl)
  exact guardPass_denies hup hcalm hwait hrun hopen hq (hmoved.trans (passAck_of_started hst))

end

end

/-! ### The command and the pass that follows it -/

theorem completed_from {op : Byte} {d : Desc} {st : Status} {q : Nat} {r : W24} {x : Byte} {s t u : State} (h : Completed op d st q r x t u)
    (hcpl : t.ring.cpl = s.ring.cpl) (hprod : t.ring.cplProd = s.ring.cplProd) (hsize : t.host.ringSize = s.host.ringSize) :
    Completed op d st q r x s u := by
  unfold Completed at h ⊢
  rwa [hcpl, hprod, show t.ringLog 1 = s.ringLog 1 by rw [State.ringLog, hsize]; rfl] at h

theorem calm_acking {s : State} {d : Desc} (ht : s.takes d) : (s.acking d).calm := by
  obtain ⟨hfetch, -, -, hback, hd3, hpme, -⟩ := ht
  exact ⟨hback, hd3, hpme, (canFetch_stopping s hfetch).1⟩

section
variable {s : State} (d : Desc)

theorem acking_ruleFails : (s.acking d).ruleFails = s.ruleFails := rfl
theorem acking_ackFails : (s.acking d).ackFails = s.ackFails := rfl
theorem acking_tripRules : (s.acking d).rulesWhere (fun r => (s.acking d).ruleAct r = 2) = s.rulesWhere (fun r => s.ruleAct r = 2) := rfl

end

/-- The pass in LOCKOUT accepts on every state that is, but for its reports, the one in which GUARD_ACK waits. -/
theorem acking_acknowledges {s t : State} {d : Desc} (ht : s.takes d) (hup : s.guardUp = true) (hwait : s.dbg.haltWait = 0)
    (hcopy : s.latticeCopy = s.grd.copyB) (hst : s.grd.st = .lockout) (hclear : s.ackFails = 0)
    (hrule : s.ruleFails &&& s.rulesWhere (fun r => s.ruleAct r = 2) = 0#32) (hq : t.quiet = (s.acking d).quiet) :
    completes .guardPass t (Acknowledged t d (if s.ruleFails = 0#32 then .run else .restrict) true) := by
  have hfails : t.ruleFails = s.ruleFails := (congrArg State.ruleFails hq :).trans (acking_ruleFails d)
  have hrules : t.rulesWhere (fun r => t.ruleAct r = 2) = s.rulesWhere (fun r => s.ruleAct r = 2) :=
    (congrArg (fun u : State => u.rulesWhere (fun r => u.ruleAct r = 2)) hq :).trans (acking_tripRules d)
  have htcopy : t.latticeCopy = t.grd.copyB := (congrArg State.latticeCopy hq :).trans (hcopy.trans (congrArg (fun u : State => u.grd.copyB) hq :).symm)
  rw [← hfails]
  exact lockout_acknowledges ((congrArg State.guardUp hq :).trans hup) (calm_of_offMachine (offMachine_of_quiet hq) (calm_acking ht))
    ((congrArg (fun u : State => u.dbg.haltWait) hq :).trans hwait) htcopy (congrArg (fun u : State => u.ring.block) hq :)
    ((congrArg (fun u : State => u.host.running) hq :).trans (takes_running (s := s) ht)) ((congrArg State.dmaOpen hq :).trans (takes_open (s := s) ht))
    ((congrArg (fun u : State => u.grd.st) hq :).trans hst) ((congrArg State.ackFails hq :).trans ((acking_ackFails d).trans hclear))
    (by rw [hfails, hrules, hrule])

/-! ### The statement -/

/-- Settles O27: the command at the decoder, the pass case by case of the guard's state, and the two joined. -/
theorem guardAckIsJudgedAtThePass : Obligations.GuardAckIsJudgedAtThePass := by
  refine ⟨fun s d ht hs hform => ⟨guardAck_waits ht hs hform, guardAck_busy ht hs hform⟩,
    fun s d hup hcalm hwait hcopy hblock hrun hopen => ⟨?denied, ?accepted, ?trips, ?clears, ?started⟩, ?joined⟩
  case denied =>
    intro hst hfails
    exact completes_imp (lockout_denies hup hcalm hwait hcopy hblock hrun hopen hst hfails) fun t h =>
      ⟨h.st, h.block, h.st ▸ h.answer, h.jrn⟩
  case accepted =>
    intro hst hclear hrule
    exact completes_imp (lockout_acknowledges hup hcalm hwait hcopy hblock hrun hopen hst hclear hrule) fun t h =>
      ⟨h.st, h.block, h.latched, h.failing, h.seen, h.answer, h.journaled⟩
  case trips => exact lockout_trips hup hcalm hwait hcopy hblock
  case clears =>
    intro hst hrule
    obtain ⟨k, hpass⟩ := grants_acknowledges hup hcalm hwait hcopy hblock hrun hopen hst hrule
    exact completes_imp hpass fun t h => ⟨h.st, h.block, h.latched, h.answer, h.journaled⟩
  case started =>
    intro hst
    have hlocks : s.passLeads.grants = false := passLeads_grants_not (by rcases hst with h | h <;> rw [h] <;> rfl)
    exact completes_imp (started_denies hup hcalm hwait hcopy hblock hrun hopen hst) fun t h => ⟨h.block, h.st ▸ hlocks, h.answer⟩
  case joined =>
    intro s d ht hs hform hfree hup hwait hcopy hst hclear hrule
    refine guardAck_blocks ht hs hform hfree fun t hq => ?_
    have hhead : t.jrn.head = s.jrn.head := (congrArg (fun u : State => u.jrn.head) hq :)
    exact completes_imp (acking_acknowledges ht hup hwait hcopy hst hclear hrule hq) fun u h => ⟨h.st, h.block,
      hhead ▸ completed_from h.answer (congrArg (fun u : State => u.ring.cpl) hq :) (congrArg (fun u : State => u.ring.cplProd) hq :)
        (congrArg (fun u : State => u.host.ringSize) hq :)⟩

end Sys2Proof.Machine
end
